-- ==== Sys2Proof/Word.lean ====
section
/-! DEFINITION. The plainest data of the model: bytes, and the bit disturbances some commands carry. -/

namespace Sys2Proof

/-- One byte, on the link or in flash. -/
abbrev Byte := BitVec 8

/-- Bits of the flash that differ from what they should be, by flash address: an exclusive-or mask for a
read, a mask of bits that stay one for a program. An address that is not listed has mask 0. -/
abbrev Flips := List (Nat × Byte)

end Sys2Proof
end

