-- ==== Sys2Proof/Machine/Fields.lean ====
section
/-! DEFINITION. The field tables of the record store: kinds (R1), field classes and types (R3, R4), and, for every
kind, its rows of the owner chapters' field tables (R27, R44, R64, R88, R90, R118, R127, R128, R132, R133, R145, R185). -/

namespace Sys2Proof.Machine

/-- The twelve kinds of R1, in kind number order. -/
inductive Kind where
  | channel | timebase | trigger | cursor | measurement | object
  | binding | lamp | palette | display | panel | notice
  deriving DecidableEq, Repr

/-- A field id without its wire packing (R3). -/
structure FieldId where
  kind : Kind
  inst : Nat
  num  : Nat
  deriving DecidableEq, Repr

/-- The field classes of R4. -/
inductive FClass where
  | config | view | sweep | restart | result
  deriving DecidableEq, Repr

/-- The field types of R3. Off/on fields and references are kept apart because R119, R122 and R124 treat them apart. -/
inductive FType where
  /-- a numeric field with its static range -/
  | numeric (lo hi : Int)
  /-- an enumeration of n values 0 to n - 1 -/
  | enum (n : Nat)
  /-- an enumeration off = 0, on = 1 -/
  | onOff
  /-- a CURSOR handle, or none -/
  | cursorRef
  /-- a MEASUREMENT or CURSOR handle, or VOID -/
  | bindRef
  /-- a field id, or none -/
  | fieldRef
  /-- OBJECT.TEXT -/
  | text
  /-- CHANNEL.LABEL, four packed characters (R28) -/
  | label
  deriving DecidableEq, Repr

/-- One row of a field table. -/
structure FieldSpec where
  name : String
  cls  : FClass
  ty   : FType
  dflt : Int
  deriving DecidableEq, Repr

/-- Kind numbers (R1). -/
def kindCode : Kind → Nat
  | .channel => 0 | .timebase => 1 | .trigger => 2 | .cursor => 3 | .measurement => 4 | .object => 5
  | .binding => 6 | .lamp => 7 | .palette => 8 | .display => 9 | .panel => 10 | .notice => 11

/-- The kind of a kind number; none above 11 (R2). -/
def kindOf : Nat → Option Kind
  | 0 => some .channel | 1 => some .timebase | 2 => some .trigger | 3 => some .cursor
  | 4 => some .measurement | 5 => some .object | 6 => some .binding | 7 => some .lamp
  | 8 => some .palette | 9 => some .display | 10 => some .panel | 11 => some .notice
  | _ => none

/-- How many instances a kind has (R1). -/
def kindSize : Kind → Nat
  | .channel => 4 | .timebase => 1 | .trigger => 1 | .cursor => 4 | .measurement => 8 | .object => 64
  | .binding => 60 | .lamp => 32 | .palette => 32 | .display => 1 | .panel => 1 | .notice => 1

/-- The created kinds of R1. -/
def kindCreated : Kind → Bool
  | .cursor | .measurement | .object => true
  | _ => false

/-- The reference value none, VOID for readout bindings (R190). -/
abbrev noRef : Int := -1

/-- Four spaces, packed as R190 packs CHANNEL.LABEL. -/
def blankLabel : Int := 538976288

def int64Min : Int := -9223372036854775808
def int64Max : Int := 9223372036854775807

/-- CHANNEL (R27). -/
def channelSpecs : List FieldSpec :=
  [ ⟨"DISPLAY", .view, .onOff, 0⟩, ⟨"COUPLING", .restart, .enum 3, 0⟩, ⟨"SCALE", .restart, .numeric 0 11, 6⟩,
    ⟨"PROBE", .restart, .enum 3, 0⟩, ⟨"OFFSET_UV", .restart, .numeric (-10000000000) 10000000000, 0⟩,
    ⟨"POSITION", .view, .numeric (-250) 250, 0⟩, ⟨"BWLIMIT", .restart, .enum 2, 0⟩, ⟨"COLOR", .view, .numeric 0 31, 2⟩,
    ⟨"LAYER", .view, .numeric 0 7, 3⟩, ⟨"LABEL", .view, .label, blankLabel⟩,
    ⟨"KNOT0", .config, .numeric (-32) 31, 0⟩, ⟨"KNOT1", .config, .numeric (-32) 31, 0⟩,
    ⟨"KNOT2", .config, .numeric (-32) 31, 0⟩, ⟨"KNOT3", .config, .numeric (-32) 31, 0⟩,
    ⟨"KNOT4", .config, .numeric (-32) 31, 0⟩, ⟨"KNOT5", .config, .numeric (-32) 31, 0⟩,
    ⟨"KNOT6", .config, .numeric (-32) 31, 0⟩, ⟨"KNOT7", .config, .numeric (-32) 31, 0⟩,
    ⟨"KNOT8", .config, .numeric (-32) 31, 0⟩, ⟨"GAIN_TRIM", .config, .numeric 24576 40960, 32768⟩,
    ⟨"CLIP", .result, .enum 4, 0⟩, ⟨"LOCKED", .result, .onOff, 0⟩,
    ⟨"SCALE_UV", .result, .numeric 1000 500000000, 100000⟩ ]

/-- TIMEBASE (R44). -/
def timebaseSpecs : List FieldSpec :=
  [ ⟨"SCALE", .restart, .numeric 0 24, 9⟩, ⟨"MODE", .restart, .enum 4, 0⟩, ⟨"AVG_SHIFT", .restart, .numeric 1 8, 4⟩,
    ⟨"TRIG_COLUMN", .restart, .numeric 0 999, 500⟩, ⟨"SWEEP_MODE", .sweep, .enum 2, 0⟩, ⟨"STATE", .result, .enum 6, 0⟩,
    ⟨"SWEEP_COUNT", .result, .numeric 0 4294967295, 0⟩, ⟨"AVG_DEPTH", .result, .numeric 0 65535, 0⟩,
    ⟨"SAMPLES_PER_COLUMN", .result, .numeric 1 100000000, 1000⟩ ]

/-- TRIGGER (R64). -/
def triggerSpecs : List FieldSpec :=
  [ ⟨"SOURCE", .restart, .enum 4, 0⟩, ⟨"SLOPE", .sweep, .enum 3, 0⟩,
    ⟨"LEVEL_UV", .sweep, .numeric (-100000000000) 100000000000, 0⟩, ⟨"HYSTERESIS", .sweep, .numeric 1 100, 4⟩,
    ⟨"HOLDOFF", .sweep, .numeric 0 10000000000, 0⟩, ⟨"AUTO_LEVEL", .sweep, .onOff, 0⟩,
    ⟨"AL_DELTA", .sweep, .numeric 1 64, 8⟩, ⟨"AL_STABLE", .sweep, .numeric 0 100, 4⟩,
    ⟨"AL_WIDE", .sweep, .numeric 0 200, 16⟩, ⟨"AL_EVERY", .sweep, .numeric 1 15, 4⟩,
    ⟨"LEVEL_CODE", .result, .numeric 0 1023, 512⟩, ⟨"LEVEL_CLIPPED", .result, .onOff, 0⟩,
    ⟨"AL_HOLDING", .result, .onOff, 0⟩, ⟨"LAST_KIND", .result, .enum 4, 0⟩ ]

/-- CURSOR (R88). -/
def cursorSpecs : List FieldSpec :=
  [ ⟨"AXIS", .view, .enum 2, 0⟩, ⟨"SOURCE", .view, .enum 4, 0⟩, ⟨"POSITION", .view, .numeric 0 1023, 250⟩,
    ⟨"COLOR", .view, .numeric 0 31, 7⟩, ⟨"VISIBLE", .view, .onOff, 1⟩ ]

/-- MEASUREMENT (R90). -/
def measurementSpecs : List FieldSpec :=
  [ ⟨"KIND", .sweep, .enum 11, 2⟩, ⟨"SOURCE", .sweep, .enum 4, 0⟩, ⟨"GATE", .sweep, .enum 2, 0⟩,
    ⟨"GATE_A", .sweep, .cursorRef, noRef⟩, ⟨"GATE_B", .sweep, .cursorRef, noRef⟩, ⟨"LIMIT_MODE", .sweep, .enum 3, 0⟩,
    ⟨"LIMIT_LO", .sweep, .numeric (-10000000000000000) 10000000000000000, 0⟩,
    ⟨"LIMIT_HI", .sweep, .numeric (-10000000000000000) 10000000000000000, 0⟩,
    ⟨"STATUS", .result, .enum 8, 0⟩, ⟨"LAST", .result, .numeric int64Min int64Max, 0⟩,
    ⟨"STAT_MIN", .result, .numeric int64Min int64Max, 0⟩, ⟨"STAT_MAX", .result, .numeric int64Min int64Max, 0⟩,
    ⟨"STAT_MEAN", .result, .numeric int64Min int64Max, 0⟩, ⟨"STAT_COUNT", .result, .numeric 0 4294967295, 0⟩,
    ⟨"OUTCOME", .result, .enum 4, 0⟩, ⟨"FAIL_COUNT", .result, .numeric 0 65535, 0⟩ ]

/-- OBJECT (R145). -/
def objectSpecs : List FieldSpec :=
  [ ⟨"KIND", .view, .enum 7, 0⟩, ⟨"X", .view, .numeric 0 1023, 0⟩, ⟨"Y", .view, .numeric 0 599, 0⟩,
    ⟨"W", .view, .numeric 1 1024, 8⟩, ⟨"H", .view, .numeric 1 600, 16⟩, ⟨"COLOR", .view, .numeric 0 31, 1⟩,
    ⟨"BG", .view, .numeric 0 32, 32⟩, ⟨"LAYER", .view, .numeric 0 7, 4⟩, ⟨"VISIBLE", .view, .onOff, 1⟩,
    ⟨"GLYPH", .view, .numeric 0 15, 0⟩, ⟨"TEXT", .view, .text, 0⟩, ⟨"BIND", .view, .bindRef, noRef⟩,
    ⟨"BIND2", .view, .bindRef, noRef⟩, ⟨"FORM", .view, .enum 6, 0⟩ ]

/-- BINDING (R118). -/
def bindingSpecs : List FieldSpec :=
  [ ⟨"KIND", .config, .enum 6, 1⟩, ⟨"TARGET", .config, .fieldRef, noRef⟩, ⟨"STEP", .config, .numeric 1 65535, 1⟩,
    ⟨"SCALED", .config, .onOff, 0⟩, ⟨"ACCEL", .config, .onOff, 0⟩, ⟨"WRAP", .config, .onOff, 0⟩,
    ⟨"ACTION", .config, .enum 6, 0⟩, ⟨"LOCK_EXEMPT", .config, .onOff, 0⟩ ]

/-- LAMP (R128). -/
def lampSpecs : List FieldSpec :=
  [ ⟨"SOURCE", .config, .enum 8, 0⟩, ⟨"FIELD", .config, .fieldRef, noRef⟩,
    ⟨"VALUE", .config, .numeric int64Min int64Max, 0⟩, ⟨"BLINK", .config, .onOff, 0⟩ ]

/-- PALETTE (R133). -/
def paletteSpecs : List FieldSpec :=
  [ ⟨"RED", .view, .numeric 0 255, 0⟩, ⟨"GREEN", .view, .numeric 0 255, 0⟩, ⟨"BLUE", .view, .numeric 0 255, 0⟩ ]

/-- DISPLAY (R132). -/
def displaySpecs : List FieldSpec :=
  [ ⟨"ENABLE", .view, .enum 2, 1⟩, ⟨"BACKGROUND", .view, .numeric 0 31, 0⟩, ⟨"GRID_STYLE", .view, .enum 4, 2⟩,
    ⟨"GRID_COLOR", .view, .numeric 0 31, 6⟩, ⟨"OVERFLOW", .result, .numeric 0 65535, 0⟩,
    ⟨"FRAME_COUNT", .result, .numeric 0 4294967295, 0⟩ ]

/-- PANEL (R127). -/
def panelSpecs : List FieldSpec := [ ⟨"LOCK", .config, .onOff, 0⟩ ]

/-- NOTICE (R185). -/
def noticeSpecs : List FieldSpec :=
  [ ⟨"ENABLE", .config, .numeric 0 524287, 7⟩, ⟨"ALERT_SET", .config, .numeric 0 524287, 262166⟩ ]

/-- The field table of a kind. -/
def specsOf : Kind → List FieldSpec
  | .channel => channelSpecs | .timebase => timebaseSpecs | .trigger => triggerSpecs | .cursor => cursorSpecs
  | .measurement => measurementSpecs | .object => objectSpecs | .binding => bindingSpecs | .lamp => lampSpecs
  | .palette => paletteSpecs | .display => displaySpecs | .panel => panelSpecs | .notice => noticeSpecs

/-- The table row of a field; none where the kind has no such field (R3). -/
def specAt (k : Kind) (num : Nat) : Option FieldSpec := (specsOf k)[num]?

/-- The palette of R133. -/
def paletteDefault (i : Nat) : List Int :=
  if 16 ≤ i then List.replicate 3 (17 * (i - 16) : Nat)
  else ([ [0, 0, 0], [255, 255, 255], [255, 224, 0], [0, 208, 255], [255, 64, 192], [64, 224, 64], [96, 96, 96],
    [255, 144, 0], [255, 0, 0], [32, 64, 255], [0, 0, 96], [40, 40, 40], [192, 192, 192], [255, 192, 64],
    [0, 96, 0], [128, 0, 0] ] : List (List Int)).getD i [0, 0, 0]

/-- The default or reset value of each field of one record: the table's, but for the fields whose default depends
on the instance (R27 DISPLAY and COLOR, R118 KIND, ACTION and LOCK_EXEMPT, R133). -/
def defaultVals (k : Kind) (inst : Nat) : List Int :=
  let base := (specsOf k).map (·.dflt)
  match k with
  | .channel => (base.set 0 (if inst = 0 then 1 else 0)).set 7 (2 + inst : Nat)
  | .binding =>
    let kind : Int := if inst = 40 ∨ inst = 41 ∨ inst = 42 ∨ inst = 47 then 5 else 1
    let action : Int := if inst = 41 then 1 else if inst = 42 then 2 else if inst = 47 then 5 else 0
    ((base.set 0 kind).set 6 action).set 7 (if inst = 47 then 1 else 0)
  | .palette => paletteDefault inst
  | _ => base

end Sys2Proof.Machine

/-! Names of the fields the rules speak of. -/
namespace Sys2Proof.Machine.Fld

abbrev chDisplay (c : Nat) : FieldId := ⟨.channel, c, 0⟩
abbrev chCoupling (c : Nat) : FieldId := ⟨.channel, c, 1⟩
abbrev chScale (c : Nat) : FieldId := ⟨.channel, c, 2⟩
abbrev chProbe (c : Nat) : FieldId := ⟨.channel, c, 3⟩
abbrev chOffsetUv (c : Nat) : FieldId := ⟨.channel, c, 4⟩
abbrev chPosition (c : Nat) : FieldId := ⟨.channel, c, 5⟩
abbrev chBwLimit (c : Nat) : FieldId := ⟨.channel, c, 6⟩
abbrev chColor (c : Nat) : FieldId := ⟨.channel, c, 7⟩
abbrev chLayer (c : Nat) : FieldId := ⟨.channel, c, 8⟩
abbrev chLabel (c : Nat) : FieldId := ⟨.channel, c, 9⟩
abbrev chKnot (c k : Nat) : FieldId := ⟨.channel, c, 10 + k⟩
abbrev chGainTrim (c : Nat) : FieldId := ⟨.channel, c, 19⟩
abbrev chClip (c : Nat) : FieldId := ⟨.channel, c, 20⟩
abbrev chLocked (c : Nat) : FieldId := ⟨.channel, c, 21⟩
abbrev chScaleUv (c : Nat) : FieldId := ⟨.channel, c, 22⟩
abbrev tbScale : FieldId := ⟨.timebase, 0, 0⟩
abbrev tbMode : FieldId := ⟨.timebase, 0, 1⟩
abbrev tbAvgShift : FieldId := ⟨.timebase, 0, 2⟩
abbrev tbTrigColumn : FieldId := ⟨.timebase, 0, 3⟩
abbrev tbSweepMode : FieldId := ⟨.timebase, 0, 4⟩
abbrev tbState : FieldId := ⟨.timebase, 0, 5⟩
abbrev tbSweepCount : FieldId := ⟨.timebase, 0, 6⟩
abbrev tbAvgDepth : FieldId := ⟨.timebase, 0, 7⟩
abbrev tbSamplesPerColumn : FieldId := ⟨.timebase, 0, 8⟩
abbrev trSource : FieldId := ⟨.trigger, 0, 0⟩
abbrev trSlope : FieldId := ⟨.trigger, 0, 1⟩
abbrev trLevelUv : FieldId := ⟨.trigger, 0, 2⟩
abbrev trHysteresis : FieldId := ⟨.trigger, 0, 3⟩
abbrev trHoldoff : FieldId := ⟨.trigger, 0, 4⟩
abbrev trAutoLevel : FieldId := ⟨.trigger, 0, 5⟩
abbrev trAlDelta : FieldId := ⟨.trigger, 0, 6⟩
abbrev trAlStable : FieldId := ⟨.trigger, 0, 7⟩
abbrev trAlWide : FieldId := ⟨.trigger, 0, 8⟩
abbrev trAlEvery : FieldId := ⟨.trigger, 0, 9⟩
abbrev trLevelCode : FieldId := ⟨.trigger, 0, 10⟩
abbrev trLevelClipped : FieldId := ⟨.trigger, 0, 11⟩
abbrev trAlHolding : FieldId := ⟨.trigger, 0, 12⟩
abbrev trLastKind : FieldId := ⟨.trigger, 0, 13⟩
abbrev cuAxis (i : Nat) : FieldId := ⟨.cursor, i, 0⟩
abbrev cuSource (i : Nat) : FieldId := ⟨.cursor, i, 1⟩
abbrev cuPosition (i : Nat) : FieldId := ⟨.cursor, i, 2⟩
abbrev cuColor (i : Nat) : FieldId := ⟨.cursor, i, 3⟩
abbrev cuVisible (i : Nat) : FieldId := ⟨.cursor, i, 4⟩
abbrev meKind (i : Nat) : FieldId := ⟨.measurement, i, 0⟩
abbrev meSource (i : Nat) : FieldId := ⟨.measurement, i, 1⟩
abbrev meGate (i : Nat) : FieldId := ⟨.measurement, i, 2⟩
abbrev meGateA (i : Nat) : FieldId := ⟨.measurement, i, 3⟩
abbrev meGateB (i : Nat) : FieldId := ⟨.measurement, i, 4⟩
abbrev meLimitMode (i : Nat) : FieldId := ⟨.measurement, i, 5⟩
abbrev meLimitLo (i : Nat) : FieldId := ⟨.measurement, i, 6⟩
abbrev meLimitHi (i : Nat) : FieldId := ⟨.measurement, i, 7⟩
abbrev meStatus (i : Nat) : FieldId := ⟨.measurement, i, 8⟩
abbrev meLast (i : Nat) : FieldId := ⟨.measurement, i, 9⟩
abbrev meStatMin (i : Nat) : FieldId := ⟨.measurement, i, 10⟩
abbrev meStatMax (i : Nat) : FieldId := ⟨.measurement, i, 11⟩
abbrev meStatMean (i : Nat) : FieldId := ⟨.measurement, i, 12⟩
abbrev meStatCount (i : Nat) : FieldId := ⟨.measurement, i, 13⟩
abbrev meOutcome (i : Nat) : FieldId := ⟨.measurement, i, 14⟩
abbrev meFailCount (i : Nat) : FieldId := ⟨.measurement, i, 15⟩
abbrev obKind (i : Nat) : FieldId := ⟨.object, i, 0⟩
abbrev obVisible (i : Nat) : FieldId := ⟨.object, i, 8⟩
abbrev obText (i : Nat) : FieldId := ⟨.object, i, 10⟩
abbrev obBind (i : Nat) : FieldId := ⟨.object, i, 11⟩
abbrev obBind2 (i : Nat) : FieldId := ⟨.object, i, 12⟩
abbrev obForm (i : Nat) : FieldId := ⟨.object, i, 13⟩
abbrev biKind (i : Nat) : FieldId := ⟨.binding, i, 0⟩
abbrev biTarget (i : Nat) : FieldId := ⟨.binding, i, 1⟩
abbrev biStep (i : Nat) : FieldId := ⟨.binding, i, 2⟩
abbrev biScaled (i : Nat) : FieldId := ⟨.binding, i, 3⟩
abbrev biAccel (i : Nat) : FieldId := ⟨.binding, i, 4⟩
abbrev biWrap (i : Nat) : FieldId := ⟨.binding, i, 5⟩
abbrev biAction (i : Nat) : FieldId := ⟨.binding, i, 6⟩
abbrev biLockExempt (i : Nat) : FieldId := ⟨.binding, i, 7⟩
abbrev laSource (i : Nat) : FieldId := ⟨.lamp, i, 0⟩
abbrev laField (i : Nat) : FieldId := ⟨.lamp, i, 1⟩
abbrev laValue (i : Nat) : FieldId := ⟨.lamp, i, 2⟩
abbrev laBlink (i : Nat) : FieldId := ⟨.lamp, i, 3⟩
abbrev diEnable : FieldId := ⟨.display, 0, 0⟩
abbrev diBackground : FieldId := ⟨.display, 0, 1⟩
abbrev diGridStyle : FieldId := ⟨.display, 0, 2⟩
abbrev diGridColor : FieldId := ⟨.display, 0, 3⟩
abbrev diOverflow : FieldId := ⟨.display, 0, 4⟩
abbrev diFrameCount : FieldId := ⟨.display, 0, 5⟩
abbrev paLock : FieldId := ⟨.panel, 0, 0⟩
abbrev noEnable : FieldId := ⟨.notice, 0, 0⟩
abbrev noAlertSet : FieldId := ⟨.notice, 0, 1⟩

end Sys2Proof.Machine.Fld
end

