-- ==== Sys2Proof/Syntax.lean ====
section
/-! DEFINITION. The commands of the block, one constructor per row of spec/opcode_table.json. A link command is
the event at which it is TAKEN (R181): the arrival of its last parameter byte, or of its command byte where it has
no parameters. Its operands are the parameter fields at their wire widths (R189). -/

namespace Sys2Proof

inductive Instr where
  /-- NOP (R179). -/
  | nop
  /-- IDENTIFY (R183). -/
  | identify
  /-- READ: handle, field number, option (R5). -/
  | read (handle : BitVec 16) (field : Byte) (option : Byte)
  /-- WRITE: handle, field number, value (R7). -/
  | write (handle : BitVec 16) (field : Byte) (value : BitVec 64)
  /-- WRITE_TEXT: handle, field number and the text bytes that follow the length byte (R9). -/
  | writeText (handle : BitVec 16) (field : Byte) (text : List Byte)
  /-- CREATE: kind and object kind (R12). -/
  | create (kind : Byte) (objectKind : Byte)
  /-- RETIRE: handle (R13). -/
  | retire (handle : BitVec 16)
  /-- GROUP_OPEN: group (R16). -/
  | groupOpen (group : Byte)
  /-- GROUP_LAUNCH: group (R17). -/
  | groupLaunch (group : Byte)
  /-- GROUP_DISCARD: group (R18). -/
  | groupDiscard (group : Byte)
  /-- GROUP_STATUS (R18). -/
  | groupStatus
  /-- RUN (R79). -/
  | run
  /-- STOP (R80). -/
  | stop
  /-- SINGLE (R81). -/
  | single
  /-- FORCE (R82). -/
  | force
  /-- CLEAR_STATS (R109). -/
  | clearStats
  /-- COLUMNS: channel, first column, count (R63). -/
  | columns (channel : Byte) (first : BitVec 16) (count : BitVec 16)
  /-- PANEL_READ (R117). -/
  | panelRead
  /-- NOTICE_READ (R187). -/
  | noticeRead
  /-- NOTICE_CLEAR: source set (bit n is source n) and FAIL set (R187). -/
  | noticeClear (sources : BitVec 24) (fails : Byte)
  /-- SAVE: slot, and the level of the CAL_EN pin at the check (R164, log 7). -/
  | save (slot : Byte) (calEn : Bool)
  /-- ERASE: slot, and the level of the CAL_EN pin at the check (R168, log 7). -/
  | erase (slot : Byte) (calEn : Bool)
  /-- RECALL: slot (R170). -/
  | recallSetup (slot : Byte)
  /-- ABORT (R169). -/
  | abort
  /-- SETUP_STATUS (R162). -/
  | setupStatus
  /-- RESET (R184). -/
  | reset
  /-- UNKNOWN_COMMAND: a command byte that names no command (R181). -/
  | unknownCommand (byte : Byte)
  /-- CS_N_FALL (R179, R180). -/
  | csNFall
  /-- RESPONSE_END: the last response byte has been sent (R179). -/
  | responseEnd
  /-- CS_N_RISE: `clocked` says whether at least one bit was clocked since CS_N fell (R182). -/
  | csNRise (clocked : Bool)
  /-- POWER_ON (R184). -/
  | powerOn
  /-- RESET_N driven low (R184). -/
  | resetN
  /-- SUPPLY_RESET: VSENSE falls below 0.95 V (R176). -/
  | supplyReset
  /-- RESET_RELEASE: the level of VSENSE in µV at the release (R175), and the bits the directory scan
  finds disturbed (log 8). -/
  | resetRelease (vsense : Nat) (flips : Flips)
  /-- STARTUP_COMPLETION (R178). -/
  | startupCompletion
  /-- SUPPLY_FALL: VSENSE falls below 1.10 V (R175). -/
  | supplyFall
  /-- SUPPLY_RISE: VSENSE rises above 1.15 V (R175). -/
  | supplyRise
  /-- SAMPLE_WORD: a word at one port (port 0 is CH1's), whether it is well-framed, and its raw code (R36, R43). -/
  | sampleWord (port : Fin 4) (framed : Bool) (code : BitVec 10)
  /-- FE_FRAME_LATCH (R33). -/
  | feFrameLatch
  /-- SETTLE_EXPIRY (R72). -/
  | settleExpiry
  /-- HOLDOFF_EXPIRY (R78). -/
  | holdoffExpiry
  /-- AUTO_TIMER_EXPIRY (R74). -/
  | autoTimerExpiry
  /-- PASS_COMPLETION (R95). -/
  | passCompletion
  /-- KEY_SCAN: the raw readings, bit k set where key k reads pressed (R112, R113). -/
  | keyScan (raw : BitVec 48)
  /-- ENCODER_SAMPLE: the input pairs; encoder 48 + i has A in bit 2i + 1 and B in bit 2i (R114). -/
  | encoderSample (pairs : BitVec 24)
  /-- CARRY_RETRY (R123). -/
  | carryRetry
  /-- LAMP_REFRESH (R130). -/
  | lampRefresh
  /-- BLINK_TOGGLE (R129). -/
  | blinkToggle
  /-- FRAME_START (R134). -/
  | frameStart
  /-- LINE: line y is composed (R149). -/
  | line (y : Fin 600)
  /-- FRAME_END (R137). -/
  | frameEnd
  /-- PUMP_CHECK: whether the programming supply reached its level (R165). -/
  | pumpCheck (ok : Bool)
  /-- VOID_MARK (R165). -/
  | voidMark
  /-- WIPE (R165). -/
  | wipe
  /-- ENTRY_PROGRAM: one attempt, with the bits of the cells that failed to turn to zero (R166, log 8). -/
  | entryProgram (stuck : Flips)
  /-- HEADER_PROGRAM: one attempt, with the bits that failed to turn to zero (R167, log 8). -/
  | headerProgram (stuck : Flips)
  /-- SEAL (R167). -/
  | seal
  /-- HEADER_REREAD: with the bits that read wrong (R171, log 8). -/
  | headerReread (flips : Flips)
  /-- ENTRY_READ: with the bits that read wrong (R171, log 8). -/
  | entryRead (flips : Flips)
  /-- GROUP3_LAUNCH_RETRY (R172). -/
  | group3LaunchRetry
  /-- COMMAND_BYTE: a command byte naming a command that takes parameters (R179). -/
  | commandByte (byte : Byte)
  /-- PARAMETER_BYTE: a parameter byte other than the last (R179). -/
  | parameterByte (byte : Byte)
  deriving DecidableEq, Repr

end Sys2Proof
end

