-- ==== Sys2Proof/Machine/State.lean ====
section
/-! DEFINITION. The state of the part, block by block (00_scope.md 2), as plain data; its reset; the outcomes. -/

namespace Sys2Proof.Machine

/-! ## Record store (R1 to R26) -/

/-- One record: live or free, its generation, its field values by field number, and OBJECT.TEXT (R1, R2, R3). -/
structure Rec where
  live : Bool
  gen  : Nat
  vals : List Int
  text : List Byte
  deriving DecidableEq, Repr

/-- An entry's value: a number, or a text for OBJECT.TEXT (R19). -/
inductive Val where
  | int (v : Int)
  | text (t : List Byte)
  deriving DecidableEq, Repr

/-- An entry of a group or a change (R19). -/
structure Entry where
  id  : FieldId
  val : Val
  deriving DecidableEq, Repr

/-- The states of a change group (R16). -/
inductive GroupState where
  | empty | holding | launched
  deriving DecidableEq, Repr

/-- A change group: its state, its entries while HOLDING, and the pool entries group 3 has taken and not yet
filled (R16). A LAUNCHED group's entries stand in its change. -/
structure Group where
  state    : GroupState
  entries  : List Entry
  reserved : Nat
  deriving DecidableEq, Repr

/-- Where a change came from (R20). -/
inductive Origin where
  | group (g : Nat)
  | loose
  | panel
  | recall
  deriving DecidableEq, Repr

/-- A change of the launch queue (R20). Its class follows from its entries. -/
structure Change where
  origin   : Origin
  entries  : List Entry
  released : Bool
  deriving DecidableEq, Repr

structure Store where
  channels     : List Rec
  timebase     : List Rec
  trigger      : List Rec
  cursors      : List Rec
  measurements : List Rec
  objects      : List Rec
  bindings     : List Rec
  lamps        : List Rec
  palette      : List Rec
  display      : List Rec
  panel        : List Rec
  notice       : List Rec
  groups       : List Group
  /-- oldest change first -/
  queue        : List Change
  dropped      : Nat
  deriving DecidableEq, Repr

/-! ## Sample path (R27 to R43) -/

/-- The six front-end settings of a channel (R32). -/
structure FeSettings where
  coupling  : Nat
  highRange : Bool
  gainStep  : Nat
  tier      : Nat
  offset    : Int
  bandwidth : Nat
  deriving DecidableEq, Repr

structure SamplePath where
  lockCount : List Nat
  image     : List FeSettings
  pending   : List (Option FeSettings)
  sending   : Option (Nat × FeSettings)
  latched   : Option (BitVec 48)
  deriving DecidableEq, Repr

/-! ## Column combiner (R44 to R63) -/

/-- TIMEBASE.MODE (R44). -/
inductive Mode where
  | sample | peak | hires | average
  deriving DecidableEq, Repr

/-- A trigger kind; `none` before a trigger (R64, R71). -/
inductive TrigKind where
  | none | normal | auto | forced
  deriving DecidableEq, Repr

/-- A column record (R54). -/
structure Column where
  valid  : Bool
  min    : Nat
  max    : Nat
  avgQ6  : Nat
  clipLo : Bool
  clipHi : Bool
  deriving DecidableEq, Repr

/-- A bank header (R55). -/
structure Header where
  mode       : Mode
  n          : Nat
  p          : Nat
  scaleUv    : Int
  offsetUv   : Int
  trigKind   : TrigKind
  sweepNo    : Nat
  validCount : Nat
  sweepMin   : Nat
  sweepMax   : Nat
  clipLo     : Bool
  clipHi     : Bool
  avgDepth   : Nat
  deriving DecidableEq, Repr

/-- Bank roles (R56). -/
inductive Role where
  | free | filling | shown | held
  deriving DecidableEq, Repr

/-- The three lenders (R56). -/
inductive Lender where
  | renderer | measurement | link
  deriving DecidableEq, Repr

/-- A lend set (R56). -/
structure Lends where
  renderer    : Bool
  measurement : Bool
  link        : Bool
  deriving DecidableEq, Repr

/-- A column bank (R56). `cols` is in ring slot order; `origin` is the ring slot of bank column 0 (R58). -/
structure Bank where
  role   : Role
  lends  : Lends
  header : Header
  origin : Nat
  cols   : List Column
  deriving DecidableEq, Repr

/-- A column-in-progress accumulator (03, section 3.3): `any` says a valid sample has been examined. -/
structure Acc where
  any    : Bool
  min    : Nat
  max    : Nat
  sum    : Nat
  mv     : Nat
  clipLo : Bool
  clipHi : Bool
  deriving DecidableEq, Repr

/-- What a capture takes from the TIMEBASE record at its start (R57, R73). -/
structure Capture where
  n        : Nat
  d        : Nat
  m        : Nat
  mode     : Mode
  avgShift : Nat
  p        : Nat
  deriving DecidableEq, Repr

structure Comb where
  banks : List (List Bank)
  accs  : List Acc
  place : Nat
  /-- the ports whose item of the current sample period has been taken -/
  got   : List Bool
  slot  : Nat
  cap   : Capture
  deriving DecidableEq, Repr

/-! ## Sweep controller and trigger unit (R64 to R87) -/

/-- The acquisition states (R71). -/
inductive Acq where
  | stopped | settling | arming | waiting | capturing | holdoff
  deriving DecidableEq, Repr

/-- The sweep controller; a timer is idle (`none`) or holds its duration. -/
structure Sweep where
  acq      : Acq
  /-- remaining time, µs -/
  settle   : Option Nat
  /-- ns -/
  holdoff  : Option Nat
  /-- ns -/
  auto     : Option Nat
  colCount : Nat
  single   : Bool
  force    : Bool
  trigKind : TrigKind
  deriving DecidableEq, Repr

structure Trig where
  armedRise : Bool
  armedFall : Bool
  alCount   : Nat
  deriving DecidableEq, Repr

/-! ## Measurement unit (R88 to R111) -/

/-- MEASUREMENT.STATUS (R90). -/
inductive MStatus where
  | notYet | valid | noData | sourceOff | tooFew | noEdge | clipped | gateInvalid
  deriving DecidableEq, Repr

/-- A member of a pass, latched at pass start (05, section 5.3). -/
structure Member where
  inst   : Nat
  stamp  : Nat
  kind   : Int
  source : Nat
  gateLo : Nat
  gateHi : Nat
  start  : Option MStatus
  deriving DecidableEq, Repr

/-- A running pass. -/
structure Pass where
  members : List Member
  lent    : List Nat
  exclude : Bool
  /-- duration of the completion timer, µs -/
  timer   : Nat
  deriving DecidableEq, Repr

structure Meas where
  /-- IDLE is `none` -/
  pass   : Option Pass
  stamps : List Nat
  sums   : List Int
  deriving DecidableEq, Repr

/-! ## Panel unit (R112 to R130) -/

structure Key where
  pressed : Bool
  agree   : Nat
  count   : Nat
  deriving DecidableEq, Repr

structure Enc where
  /-- (A, B) last sampled -/
  last    : Option (Bool × Bool)
  phase   : Int
  /-- encoder samples since the previous detent -/
  since   : Option Nat
  pending : Int
  carry   : Int
  deriving DecidableEq, Repr

structure Panel where
  keys     : List Key
  encs     : List Enc
  /-- bit order of R190 -/
  mask     : Byte
  blinkOn  : Bool
  lamps    : List Bool
  retryDue : Bool
  deriving DecidableEq, Repr

/-! ## Renderer and readout formatter (R131 to R160) -/

/-- A pixel, or a palette entry: red, green, blue. -/
structure Rgb where
  r : Int
  g : Int
  b : Int
  deriving DecidableEq, Repr

/-- A channel's settings latched at frame start (R134). -/
structure ChanLatch where
  display  : Bool
  position : Int
  color    : Int
  layer    : Int
  label    : Int
  deriving DecidableEq, Repr

/-- A cursor latched at frame start (R134). -/
structure CurLatch where
  inst     : Nat
  axis     : Int
  source   : Nat
  position : Int
  color    : Int
  visible  : Bool
  deriving DecidableEq, Repr

/-- An entry of the frame list (R135); `text` is the produced text for a READOUT. -/
structure FrameObj where
  inst : Nat
  vals : List Int
  text : List Byte
  deriving DecidableEq, Repr

/-- The latched state of a frame in progress (R134). -/
structure Frame where
  blank      : Bool
  background : Int
  gridStyle  : Int
  gridColor  : Int
  palette    : List Rgb
  chans      : List ChanLatch
  cursors    : List CurLatch
  objects    : List FrameObj
  deriving DecidableEq, Repr

structure Rend where
  frame    : Option Frame
  /-- how many lines of the frame have been composed: the next line of the raster (R131) -/
  nextLine : Nat
  drops    : Nat
  /-- the line last composed -/
  line     : List Rgb
  deriving DecidableEq, Repr

/-! ## Setup unit (R161 to R178) -/

/-- The flash: (address, byte) pairs, addresses strictly rising, no byte 0xFF (an unlisted address is blank). -/
abbrev Memory := List Host.Cell

/-- The operations of the last-operation record (R162). -/
inductive SetupOp where
  | none | start | save | erase | recall
  deriving DecidableEq, Repr

/-- Results of an operation (R162). -/
inductive SetupResult where
  | ok | okCorrected | partially | failPump | failVerify | failHeader | aborted | supplyLow
  deriving DecidableEq, Repr

/-- Where an operation stands: the steps of ERASING (R165), PROGRAMMING (R166), SEALING (R167) and READING
(R171, R172). -/
inductive Phase where
  | idle
  | pumpCheck | voidMark | wipe
  | program
  | sealHeader | sealMarker
  | readHeader | readEntries | launchWait
  deriving DecidableEq, Repr

/-- The five counts of R162. -/
structure Counts where
  done          : Nat
  corrected     : Nat
  uncorrectable : Nat
  unknown       : Nat
  retries       : Nat
  deriving DecidableEq, Repr

/-- The last-operation record (R162). -/
structure LastOp where
  op     : SetupOp
  slot   : Nat
  result : SetupResult
  counts : Counts
  deriving DecidableEq, Repr

/-- Directory states (R163). -/
inductive DirState where
  | erased | valid | bad
  deriving DecidableEq, Repr

/-- A directory entry (R163). Its kind is the slot number's (log 11). -/
structure DirEntry where
  state : DirState
  count : Nat
  deriving DecidableEq, Repr

/-- The parts of the start-up result (R178); `absent` is MISSING or DEFAULTS. -/
inductive StartResult where
  | none | loaded | corrected | partially | absent
  deriving DecidableEq, Repr

structure Setup where
  /-- the start-up load is not complete -/
  starting    : Bool
  phase       : Phase
  op          : SetupOp
  slot        : Nat
  /-- entries programmed or taken -/
  progress    : Nat
  /-- entry places read so far -/
  place       : Nat
  /-- failed attempts at the present entry or header -/
  attempts    : Nat
  counts      : Counts
  /-- field id codes and values -/
  snapshot    : List (Nat × Int)
  calBuf      : List (FieldId × Int)
  lastTaken   : Option Nat
  last        : LastOp
  dir         : List DirEntry
  supplyLow   : Bool
  calResult   : StartResult
  setupResult : StartResult
  flash       : Memory
  deriving DecidableEq, Repr

/-! ## Link and notice unit (R179 to R190) -/

/-- The frame parser (R179). `waitHigh` is the wait for CS_N high after a reset. In `parameters`, the command
byte, the parameter bytes received, and how many are still expected. -/
inductive Parser where
  | waitHigh
  | idle
  | command
  | parameters (code : Byte) (got : List Byte) (expected : Nat)
  | response
  | spent
  deriving DecidableEq, Repr

/-- What PANEL_READ reported and will subtract (R117). -/
structure PanelSnap where
  counts  : List Nat
  pending : List Int
  mask    : Byte
  deriving DecidableEq, Repr

/-- Work tied to the response in progress (R63, R117, R184). -/
inductive Tie where
  | none
  | columns (ch : Nat)
  | panel (snap : PanelSnap)
  | reset
  deriving DecidableEq, Repr

structure Link where
  csLow    : Bool
  parser   : Parser
  summary  : Byte
  response : List Byte
  tie      : Tie
  deriving DecidableEq, Repr

/-- Pending flags of sources 0-18 (bit 5, MEAS_LIMIT, is derived and stays 0) and FAIL flags 0-7 (R186). -/
structure Notices where
  flags : BitVec 19
  fails : Byte
  deriving DecidableEq, Repr

/-- The reset causes (R184). -/
inductive Cause where
  | power | pin | command | supply
  deriving DecidableEq, Repr

/-! ## The whole part -/

structure State where
  store   : Store
  path    : SamplePath
  comb    : Comb
  sweep   : Sweep
  trig    : Trig
  meas    : Meas
  panel   : Panel
  rend    : Rend
  setup   : Setup
  link    : Link
  notices : Notices
  /-- the part is held in reset (R184) -/
  held    : Bool
  cause   : Cause
  /-- the model's own: how many free values have been drawn (log 25) -/
  free    : Nat
  /-- the model's own: the commands that wait, first in, first out -/
  pending : List Instr
  deriving DecidableEq, Repr

/-- Nothing in the spec stops the part, so no fault can be raised. Safe: the type is empty. -/
inductive Fault where
  deriving DecidableEq, Repr

/-- Refusals: raised by no meaning of this model. -/
inductive Refusal where
  /-- Raised by an arm of exec whose command has no meaning yet. Safe. No arm raises it. -/
  | notModelled (mnemonic : String)
  deriving DecidableEq, Repr

/-- The outcome of a command. -/
abbrev Out := Host.Outcome State Fault Refusal

/-! ## Reset values -/

/-- A record at its reset value: a fixed record live, a created instance free, generation 0 (R1). -/
def resetRec (k : Kind) (inst : Nat) : Rec :=
  { live := !kindCreated k, gen := 0, vals := defaultVals k inst, text := [] }

def resetRecs (k : Kind) : List Rec := (List.range (kindSize k)).map (resetRec k)

def Group.reset : Group := { state := .empty, entries := [], reserved := 0 }

/-- The store after reset (R1, R16, R18, R20). -/
def Store.reset : Store :=
  { channels := resetRecs .channel, timebase := resetRecs .timebase, trigger := resetRecs .trigger,
    cursors := resetRecs .cursor, measurements := resetRecs .measurement, objects := resetRecs .object,
    bindings := resetRecs .binding, lamps := resetRecs .lamp, palette := resetRecs .palette,
    display := resetRecs .display, panel := resetRecs .panel, notice := resetRecs .notice,
    groups := List.replicate 4 Group.reset, queue := [], dropped := 0 }

/-- DC, HIGH range, gain step 0, 10 V tier, input offset 0, FULL (R35). -/
def FeSettings.reset : FeSettings :=
  { coupling := 0, highRange := true, gainStep := 0, tier := 1, offset := 0, bandwidth := 0 }

/-- The sample path after reset (R35, R36); nothing latched yet is a DESIGN CHOICE (log 29, unsafe). -/
def SamplePath.reset : SamplePath :=
  { lockCount := List.replicate 4 0, image := List.replicate 4 FeSettings.reset,
    pending := List.replicate 4 none, sending := none, latched := none }

/-- An invalid column (R54). -/
def Column.invalid : Column :=
  { valid := false, min := 0, max := 0, avgQ6 := 0, clipLo := false, clipHi := false }

def Lends.none : Lends := { renderer := false, measurement := false, link := false }

def Header.zero : Header :=
  { mode := .sample, n := 0, p := 0, scaleUv := 0, offsetUv := 0, trigKind := .none, sweepNo := 0,
    validCount := 0, sweepMin := 0, sweepMax := 0, clipLo := false, clipHi := false, avgDepth := 0 }

/-- A bank after reset: FREE, no lends (R56); its contents are a DESIGN CHOICE (log 29, unsafe). -/
def Bank.reset : Bank :=
  { role := .free, lends := Lends.none, header := Header.zero, origin := 0,
    cols := List.replicate 1000 Column.invalid }

def Acc.clear : Acc := { any := false, min := 0, max := 0, sum := 0, mv := 0, clipLo := false, clipHi := false }

/-- The combiner after reset (R56); counters and the capture's settings are a DESIGN CHOICE (log 29, unsafe). -/
def Comb.reset : Comb :=
  { banks := List.replicate 4 (List.replicate 5 Bank.reset), accs := List.replicate 4 Acc.clear, place := 0,
    got := List.replicate 4 false, slot := 0,
    cap := { n := 1000, d := 1, m := 1000, mode := .sample, avgShift := 4, p := 500 } }

/-- R71. -/
def Sweep.reset : Sweep :=
  { acq := .stopped, settle := none, holdoff := none, auto := none, colCount := 0, single := false,
    force := false, trigKind := .none }

/-- R70, R85. -/
def Trig.reset : Trig := { armedRise := false, armedFall := false, alCount := 0 }

/-- R91, R92. -/
def Meas.reset : Meas := { pass := none, stamps := List.replicate 8 0, sums := List.replicate 8 0 }

def Key.reset : Key := { pressed := false, agree := 0, count := 0 }
def Enc.reset : Enc := { last := none, phase := 0, since := none, pending := 0, carry := 0 }

/-- R113, R114, R116, R129; the lamp chain keeps what it was left with (R130). -/
def Panel.reset (lamps : List Bool) : Panel :=
  { keys := List.replicate 48 Key.reset, encs := List.replicate 12 Enc.reset, mask := 0, blinkOn := true,
    lamps := lamps, retryDue := false }

/-- R131, R137. -/
def Rend.reset : Rend := { frame := none, nextLine := 0, drops := 0, line := [] }

def Counts.zero : Counts := { done := 0, corrected := 0, uncorrectable := 0, unknown := 0, retries := 0 }

/-- The setup unit after reset (R162, R163, R176); the flash is kept (R161). The supply state NORMAL until the release judges it
(R175), the settings of an operation, and no field taken are a DESIGN CHOICE (log 29, unsafe). -/
def Setup.reset (flash : Memory) : Setup :=
  { starting := true, phase := .idle, op := .none, slot := 0, progress := 0, place := 0, attempts := 0,
    counts := Counts.zero, snapshot := [], calBuf := [], lastTaken := none,
    last := { op := .none, slot := 0, result := .ok, counts := Counts.zero },
    dir := List.replicate 16 { state := .erased, count := 0 }, supplyLow := false, calResult := .none,
    setupResult := .none, flash := flash }

/-- R179: with CS_N low the parser waits for it to be high. -/
def Link.reset (csLow : Bool) : Link :=
  { csLow := csLow, parser := if csLow then .waitHigh else .idle, summary := 0, response := [], tie := .none }

def Notices.reset : Notices := { flags := 0, fails := 0 }

/-- The part in reset: every piece of state at its reset value; what a reset does not touch is passed in
(the flash, the lamp chain, the CS_N pin, and the model's own counter and queue). -/
def State.inReset (cause : Cause) (flash : Memory) (lamps : List Bool) (csLow : Bool) (free : Nat)
    (pending : List Instr) : State :=
  { store := Store.reset, path := SamplePath.reset, comb := Comb.reset, sweep := Sweep.reset, trig := Trig.reset,
    meas := Meas.reset, panel := Panel.reset lamps, rend := Rend.reset, setup := Setup.reset flash,
    link := Link.reset csLow, notices := Notices.reset, held := true, cause := cause, free := free,
    pending := pending }

/-- The machine right after power-on reset, before RESET_RELEASE (log 2). The blank flash (log 3), the dark lamp
chain (log 12) and CS_N high (log 29) are DESIGN CHOICES, unsafe. -/
def State.reset : State :=
  State.inReset .power [] (List.replicate 32 false) false 0 []

end Sys2Proof.Machine
end

