-- ==== Sys2Proof/Machine/Operands.lean ====
section
/-! DEFINITION. Operand forms and pure arithmetic: rounding words (00_scope.md 4.3), handles and field ids (R2, R3,
R190), byte layouts (R189, R190), status codes (R181) and the command table (R189). -/

namespace Sys2Proof.Machine

/-! ## Arithmetic words -/

/-- Quotient rounded half away from zero; the divisor is positive. -/
def roundAway (a b : Int) : Int :=
  if 0 ≤ a then (2 * a + b) / (2 * b) else -((2 * (-a) + b) / (2 * b))

/-- Limited to lo-hi. -/
def limit (lo hi v : Int) : Int := if v < lo then lo else if hi < v then hi else v

def isOn (v : Int) : Bool := decide (v ≠ 0)

def ofBool (b : Bool) : Int := if b then 1 else 0

/-! ## Handles and field ids -/

/-- A handle taken apart (R2, R189). -/
structure Handle where
  kind : Nat
  inst : Nat
  gen  : Nat
  deriving DecidableEq, Repr

/-- Kind in bits 15-12, instance in bits 11-4, generation in bits 3-0 (R189). -/
def handleOf (w : Nat) : Handle := { kind := w / 4096 % 16, inst := w / 16 % 256, gen := w % 16 }

/-- The handle of a record as a value (R189, R190). -/
def handleCode (k : Kind) (inst gen : Nat) : Nat := kindCode k * 4096 + inst * 16 + gen % 16

/-- Kind in bits 14-11, instance in bits 10-5, field number in bits 4-0 (R190). -/
def fieldCode (f : FieldId) : Nat := kindCode f.kind * 2048 + f.inst * 32 + f.num

/-- The field id of a 16-bit code, where bit 15 is 0 and the kind exists (R190). -/
def fieldOf (w : Nat) : Option FieldId :=
  if w < 32768 then (kindOf (w / 2048)).map fun k => { kind := k, inst := w / 32 % 64, num := w % 32 } else none

/-! ## Bytes -/

/-- The n bytes of an integer, most significant first, two's complement (11, opening). -/
def beBytes : Nat → Int → List Byte
  | 0, _ => []
  | n + 1, v => BitVec.ofInt 8 (v / 256 ^ n) :: beBytes n v

/-- The number that bytes spell, most significant first. -/
def beNat (bs : List Byte) : Nat := bs.foldl (fun a b => a * 256 + b.toNat) 0

/-- The signed 64-bit value that a number below 2^64 spells. -/
def signed64 (n : Nat) : Int := (BitVec.ofNat 64 n).toInt

/-- The printable set: codes 32 to 126 (R148, R190). -/
def printable (b : Byte) : Bool := decide (32 ≤ b.toNat ∧ b.toNat ≤ 126)

/-- An unprintable character becomes '?' (R9, R28). -/
def printed (b : Byte) : Byte := if printable b then b else 63

/-! ## Status codes -/

/-- The status codes of R181, in the order of its table. -/
inductive Status where
  | ok | clamped | busy | starting | noRecord | noField | readOnly | badValue | badReference | tableFull
  | groupFull | queueFull | groupBusy | wrongState | protectedSlot | emptySlot | badSlot | supplyLow | noData
  | unknownCommand
  deriving DecidableEq, Repr

/-- The status byte: the position in the table, OK as 0 (R189). -/
def statusCode : Status → Byte
  | .ok => 0 | .clamped => 1 | .busy => 2 | .starting => 3 | .noRecord => 4 | .noField => 5 | .readOnly => 6
  | .badValue => 7 | .badReference => 8 | .tableFull => 9 | .groupFull => 10 | .queueFull => 11
  | .groupBusy => 12 | .wrongState => 13 | .protectedSlot => 14 | .emptySlot => 15 | .badSlot => 16
  | .supplyLow => 17 | .noData => 18 | .unknownCommand => 19

/-! ## The command table (R189) -/

/-- Parameter bytes by command byte 0x00 to 0x19; for WRITE_TEXT those up to its length byte. -/
def paramTable : List Nat :=
  [0, 0, 4, 11, 4, 2, 2, 1, 1, 1, 0, 0, 0, 0, 0, 0, 5, 0, 0, 4, 1, 1, 1, 0, 0, 0]

/-- Parameter bytes of a command byte; none where it names no command (R181, R189). -/
def paramCount (b : Byte) : Option Nat := paramTable[b.toNat]?

/-- WRITE_TEXT's command byte. -/
def writeTextCode : Byte := 0x04

/-- A link command as the host sends it: its command byte and its parameter bytes (R189); none for an event, which no frame
carries. The level of CAL_EN is a pin's, not a parameter (log 7). -/
def wire : Instr → Option (Byte × List Byte)
  | .nop => some (0x00, [])
  | .identify => some (0x01, [])
  | .read handle field option => some (0x02, beBytes 2 handle.toNat ++ [field, option])
  | .write handle field value => some (0x03, beBytes 2 handle.toNat ++ [field] ++ beBytes 8 value.toNat)
  | .writeText handle field text => some (0x04, beBytes 2 handle.toNat ++ [field] ++ beBytes 1 text.length ++ text)
  | .create kind objectKind => some (0x05, [kind, objectKind])
  | .retire handle => some (0x06, beBytes 2 handle.toNat)
  | .groupOpen group => some (0x07, [group])
  | .groupLaunch group => some (0x08, [group])
  | .groupDiscard group => some (0x09, [group])
  | .groupStatus => some (0x0A, [])
  | .run => some (0x0B, [])
  | .stop => some (0x0C, [])
  | .single => some (0x0D, [])
  | .force => some (0x0E, [])
  | .clearStats => some (0x0F, [])
  | .columns channel first count => some (0x10, [channel] ++ beBytes 2 first.toNat ++ beBytes 2 count.toNat)
  | .panelRead => some (0x11, [])
  | .noticeRead => some (0x12, [])
  | .noticeClear sources fails => some (0x13, beBytes 3 sources.toNat ++ [fails])
  | .save slot _ => some (0x14, [slot])
  | .erase slot _ => some (0x15, [slot])
  | .recallSetup slot => some (0x16, [slot])
  | .abort => some (0x17, [])
  | .setupStatus => some (0x18, [])
  | .reset => some (0x19, [])
  | _ => none

/-- The commands answered while STARTING: NOP, IDENTIFY, NOTICE_READ, SETUP_STATUS (R181). -/
def allowedStarting : Instr → Bool
  | .nop | .identify | .noticeRead | .setupStatus => true
  | _ => false

/-! ## Encodings of enumerations -/

/-- TIMEBASE.STATE and the summary byte (R44, R189). -/
def acqCode : Acq → Nat
  | .stopped => 0 | .settling => 1 | .arming => 2 | .waiting => 3 | .capturing => 4 | .holdoff => 5

/-- TIMEBASE.MODE (R44). -/
def modeOf (v : Int) : Mode := if v = 0 then .sample else if v = 1 then .peak else if v = 2 then .hires else .average

def modeCode : Mode → Nat
  | .sample => 0 | .peak => 1 | .hires => 2 | .average => 3

/-- TRIGGER.LAST_KIND (R64). -/
def trigKindCode : TrigKind → Nat
  | .none => 0 | .normal => 1 | .auto => 2 | .forced => 3

/-- The trigger kind byte of a bank header: NORMAL 0, AUTO 1, FORCED 2 (R190). -/
def trigKindWire : TrigKind → Nat
  | .none => 0 | .normal => 0 | .auto => 1 | .forced => 2

/-- MEASUREMENT.STATUS (R90). -/
def mstatusCode : MStatus → Int
  | .notYet => 0 | .valid => 1 | .noData => 2 | .sourceOff => 3 | .tooFew => 4 | .noEdge => 5 | .clipped => 6
  | .gateInvalid => 7

/-- R189. -/
def causeCode : Cause → Int
  | .power => 0 | .pin => 1 | .command => 2 | .supply => 3

/-- R189. -/
def startResultCode : StartResult → Int
  | .none => 0 | .loaded => 1 | .corrected => 2 | .partially => 3 | .absent => 4

/-- R189. -/
def setupOpCode : SetupOp → Int
  | .none => 0 | .start => 1 | .save => 2 | .erase => 3 | .recall => 4

/-- R189. -/
def setupResultCode : SetupResult → Int
  | .ok => 0 | .okCorrected => 1 | .partially => 2 | .failPump => 3 | .failVerify => 4 | .failHeader => 5
  | .aborted => 6 | .supplyLow => 7

/-- R189. -/
def dirStateCode : DirState → Int
  | .erased => 0 | .valid => 1 | .bad => 2

/-- R189. -/
def groupStateCode : GroupState → Int
  | .empty => 0 | .holding => 1 | .launched => 2

/-! ## Scales and the timebase -/

/-- Base scales, µV per division (R30). -/
def baseScale (i : Int) : Int :=
  ([1000, 2000, 5000, 10000, 20000, 50000, 100000, 200000, 500000, 1000000, 2000000, 5000000] : List Int).getD i.toNat 0

/-- 1 for X1, 10 for X10, 100 for X100 (R30). -/
def probeFactor (p : Int) : Int := if p = 0 then 1 else if p = 1 then 10 else 100

/-- The offset limit of a SCALE and PROBE (R30). -/
def offsetLimit (scale probe : Int) : Int :=
  (if scale ≤ 5 then 1000000 else if scale ≤ 8 then 10000000 else 100000000) * probeFactor probe

/-- N of a timebase index (R45). -/
def samplesPerColumn (i : Int) : Nat :=
  ([1, 2, 5, 10, 20, 50, 100, 200, 500, 1000, 2000, 5000, 10000, 20000, 50000, 100000, 200000, 500000, 1000000,
    2000000, 5000000, 10000000, 20000000, 50000000, 100000000] : List Nat).getD i.toNat 1

/-- M, the kept places of a column (R45). -/
def keptPlaces (n : Nat) : Nat := if n ≤ 4096 then n else 2500

/-- D, the decimation step (R45). -/
def decimation (n : Nat) : Nat := if n ≤ 4096 then 1 else n / 2500

/-- R_M = round(2^24 / M) (R45). -/
def reciprocal (m : Nat) : Nat := (33554432 + m) / (2 * m)

/-- value_uv of a q6 value (R31). -/
def valueUv (v scaleUv offsetUv : Int) : Int :=
  limit int64Min int64Max (roundAway ((v - 32768) * scaleUv) 6400 - offsetUv)

/-- LEVEL_UV to a code, before limiting (R65). -/
def levelCodeRaw (levelUv scaleUv offsetUv : Int) : Int := 512 + roundAway ((levelUv + offsetUv) * 100) scaleUv

/-- A code to LEVEL_UV (R68). -/
def levelOfCode (c scaleUv offsetUv : Int) : Int := (c - 512) * scaleUv / 100 - offsetUv

end Sys2Proof.Machine
end

