-- ==== Sys2Proof/Decode.lean ====
section
/-! DEFINITION. The command that the bytes of a frame spell (R189), and the one that a word spells. No row of
spec/opcode_table.json gives bits, so a word is read as R189's bytes of a link command (log 2); an event has no bytes. -/

namespace Sys2Proof

open Machine

/-- The command that a command byte and its parameter bytes spell; none where they spell no whole command (R179, R189). CAL_EN
is a pin's level, not a byte's (log 7). -/
def decodeCommand (calEn : Bool) : List Byte → Option Instr
  | [] => none
  | code :: params =>
    match code.toNat, params with
    | 0x00, [] => some .nop
    | 0x01, [] => some .identify
    | 0x02, [h1, h0, field, option] => some (.read (h1 ++ h0) field option)
    | 0x03, h1 :: h0 :: field :: value =>
      if value.length = 8 then some (.write (h1 ++ h0) field (BitVec.ofNat 64 (beNat value))) else none
    | 0x04, h1 :: h0 :: field :: n :: text =>
      if text.length = n.toNat then some (.writeText (h1 ++ h0) field text) else none
    | 0x05, [kind, objectKind] => some (.create kind objectKind)
    | 0x06, [h1, h0] => some (.retire (h1 ++ h0))
    | 0x07, [group] => some (.groupOpen group)
    | 0x08, [group] => some (.groupLaunch group)
    | 0x09, [group] => some (.groupDiscard group)
    | 0x0A, [] => some .groupStatus
    | 0x0B, [] => some .run
    | 0x0C, [] => some .stop
    | 0x0D, [] => some .single
    | 0x0E, [] => some .force
    | 0x0F, [] => some .clearStats
    | 0x10, [channel, f1, f0, c1, c0] => some (.columns channel (f1 ++ f0) (c1 ++ c0))
    | 0x11, [] => some .panelRead
    | 0x12, [] => some .noticeRead
    | 0x13, [s2, s1, s0, fails] => some (.noticeClear (s2 ++ s1 ++ s0) fails)
    | 0x14, [slot] => some (.save slot calEn)
    | 0x15, [slot] => some (.erase slot calEn)
    | 0x16, [slot] => some (.recallSetup slot)
    | 0x17, [] => some .abort
    | 0x18, [] => some .setupStatus
    | 0x19, [] => some .reset
    | _, _ => none

/-- The level of CAL_EN that a command samples; low for those that do not (log 7). -/
def calLevel : Instr → Bool
  | .save _ calEn => calEn
  | .erase _ calEn => calEn
  | _ => false

/-- Byte k of a word, byte 0 its least significant. -/
def wordByte (w k : Nat) : Byte := BitVec.ofNat 8 (w / 256 ^ k)

/-- The link command that a word's bytes spell: byte 0 is the command byte, and it says how many bytes follow (R189); bits
above nbits are 0. A word of no whole byte, and a byte that names no command, spell none. CAL_EN is low (log 2). -/
def decodeTableWord (nbits w : Nat) : Option Instr :=
  if nbits < 8 then none
  else
    let v := w % 2 ^ nbits
    match paramCount (wordByte v 0) with
    | none => none
    | some n =>
      let total := if wordByte v 0 = writeTextCode then n + (wordByte v n).toNat else n
      decodeCommand false ((List.range (total + 1)).map (wordByte v))

end Sys2Proof
end

