-- ==== Sys2Proof/Config.lean ====
section
/-! DEFINITION. What the spec leaves open: each is an opaque constant, so that nothing can be proved of its
value and a statement about it holds for every value. -/

namespace Sys2Proof.Config

/-- Whether the character generator's pattern for a printable code has ink at column x, row y of its 8 × 16
cell (R148 gives no patterns but that of the space, which has no ink). DESIGN CHOICE, log 13, safe. -/
opaque charInk : Nat → Nat → Nat → Bool

/-- Whether marker shape g has ink at column x, row y of its 16 × 16 cell, inside the extent it is centred in (R147 names the
shapes and gives no patterns). DESIGN CHOICE, log 13, safe. -/
opaque markerInk : Nat → Nat → Nat → Bool

/-- How far marker shape g reaches from its centre pixel, along the columns (axis 0) or the rows (axis 1) (R147 gives no sizes).
DESIGN CHOICE, log 13, safe. -/
opaque markerReach : Nat → Nat → Nat

/-- Where marker shape g touches a side of its extent: left 0, right 1, top 2, bottom 3 (R147 gives no patterns). DESIGN CHOICE,
log 13, safe. -/
opaque markerTouch : Nat → Nat → Nat

/-- Bits of a flash byte whose program or erase step was cut off partway (R169, R176 leave them open).
DESIGN CHOICE, log 9, safe. -/
opaque cutBits : Nat → Byte

/-- How many bytes of a slot, in wipe order, a cut-off wipe had finished (R165). DESIGN CHOICE, log 9, safe. -/
opaque wipeProgress : Nat → Nat

/-- Whether the first program step of a save has begun when an event that tells comes between the end of the wipe and the end of
the first attempt (R163, R166, R169 give both outcomes). DESIGN CHOICE, log 10, safe. -/
opaque firstStepBegun : Nat → Bool

/-- What MISO carries with CS_N low while the parser waits for CS_N high after a reset (R179 states none). DESIGN CHOICE,
log 19, safe. -/
opaque waitMiso : Byte

/-- The entry count shown by the directory entry of a slot the scan judged BAD (R163 states none).
DESIGN CHOICE, log 11, safe. -/
opaque badCount : Nat → Byte

/-- The lamp chain's own power-up state (R130). DESIGN CHOICE, log 12, safe. -/
opaque lampPowerUp : Nat → Bool

end Sys2Proof.Config
end

