-- ==== Sys2Proof/Machine/Flags.lean ====
section
/-! DEFINITION. The notice set (R186) and the two notice lines (R188). -/

namespace Sys2Proof.Machine

/-- The notice sources of R186. -/
inductive Source where
  | startDone | supplyLow | setupFail | setupDone | laneLost | measLimit | singleDone | sweepDone | measDone
  | levelClipped | autoLevelOff | panelInput | panelChanged | bindingLost | readoutVoid | changeDropped
  | displayOverflow | frameError | calMissing
  deriving DecidableEq, Repr

/-- The number of a source (R186). -/
def sourceNo : Source → Nat
  | .startDone => 0 | .supplyLow => 1 | .setupFail => 2 | .setupDone => 3 | .laneLost => 4 | .measLimit => 5
  | .singleDone => 6 | .sweepDone => 7 | .measDone => 8 | .levelClipped => 9 | .autoLevelOff => 10
  | .panelInput => 11 | .panelChanged => 12 | .bindingLost => 13 | .readoutVoid => 14 | .changeDropped => 15
  | .displayOverflow => 16 | .frameError => 17 | .calMissing => 18

/-- To raise a source is to set its flag, whatever its enable (R186). -/
def raise (n : Source) (s : State) : State :=
  { s with notices := { s.notices with flags := s.notices.flags ||| BitVec.ofNat 19 (2 ^ sourceNo n) } }

def raiseIf (b : Bool) (n : Source) (s : State) : State := if b then raise n s else s

/-- Clear one source's flag. -/
def clearFlag (n : Source) (s : State) : State :=
  { s with notices := { s.notices with flags := s.notices.flags &&& ~~~ BitVec.ofNat 19 (2 ^ sourceNo n) } }

/-- Set a measurement's FAIL flag (R110). -/
def setFail (i : Nat) (s : State) : State :=
  { s with notices := { s.notices with fails := s.notices.fails ||| BitVec.ofNat 8 (2 ^ i) } }

/-- Clear a measurement's FAIL flag (R15). -/
def clearFail (i : Nat) (s : State) : State :=
  { s with notices := { s.notices with fails := s.notices.fails &&& ~~~ BitVec.ofNat 8 (2 ^ i) } }

/-- The pending sources: the flags, with MEAS_LIMIT pending while any FAIL flag is set (R186). -/
def pendingSources (n : Notices) : BitVec 19 :=
  (n.flags &&& ~~~ 32) ||| (if n.fails = 0 then 0 else 32)

/-- The highest pending source: the lowest number pending (R186). -/
def highestPending (n : Notices) : Option Nat := (List.range 19).find? fun i => (pendingSources n).getLsbD i

/-- NOTICE_CLEAR on the set (R187). -/
def clearNotices (sources : BitVec 24) (fails : Byte) (n : Notices) : Notices :=
  { flags := n.flags &&& ~~~ sources.truncate 19,
    fails := if sources.getLsbD 5 then 0 else n.fails &&& ~~~ fails }

end Sys2Proof.Machine
end

