-- ==== Sys2Proof/Machine/Ops.lean ====
section
/-! DEFINITION. The named operations over the state: record fields, groups, queue and pool, the flash, list places. -/

namespace Sys2Proof.Machine

/-! ## Outcomes -/

/-- A command that the part takes only while it is not in reset (R184, log 6). -/
def awake (s t : State) : Out := .next (if s.held then s else t)

/-! ## Record table -/

def Store.table (st : Store) : Kind → List Rec
  | .channel => st.channels | .timebase => st.timebase | .trigger => st.trigger | .cursor => st.cursors
  | .measurement => st.measurements | .object => st.objects | .binding => st.bindings | .lamp => st.lamps
  | .palette => st.palette | .display => st.display | .panel => st.panel | .notice => st.notice

def Store.setTable (st : Store) (k : Kind) (t : List Rec) : Store :=
  match k with
  | .channel => { st with channels := t } | .timebase => { st with timebase := t }
  | .trigger => { st with trigger := t } | .cursor => { st with cursors := t }
  | .measurement => { st with measurements := t } | .object => { st with objects := t }
  | .binding => { st with bindings := t } | .lamp => { st with lamps := t }
  | .palette => { st with palette := t } | .display => { st with display := t }
  | .panel => { st with panel := t } | .notice => { st with notice := t }

/-- What a place outside the tables reads as: a free record. -/
def Rec.absent : Rec := { live := false, gen := 0, vals := [], text := [] }

/-- The record of a kind and instance. -/
def State.recAt (s : State) (k : Kind) (i : Nat) : Rec := (s.store.table k).getD i Rec.absent

def State.isLive (s : State) (k : Kind) (i : Nat) : Bool := (s.recAt k i).live

/-- Change one record. -/
def modRec (k : Kind) (i : Nat) (g : Rec → Rec) (s : State) : State :=
  { s with store := s.store.setTable k ((s.store.table k).modify i g) }

/-- The live value of a field. TIMEBASE.STATE is the sweep controller's state (R71, log 28). -/
def State.get (s : State) (f : FieldId) : Int :=
  if f = Fld.tbState then acqCode s.sweep.acq else (s.recAt f.kind f.inst).vals.getD f.num 0

/-- Write a field of a live record. -/
def setVal (f : FieldId) (v : Int) (s : State) : State :=
  modRec f.kind f.inst (fun r => { r with vals := r.vals.set f.num v }) s

/-- Write OBJECT.TEXT. -/
def setText (i : Nat) (t : List Byte) (s : State) : State := modRec .object i (fun r => { r with text := t }) s

/-- The live instances of a kind, ascending. -/
def State.liveOf (s : State) (k : Kind) : List Nat := (List.range (kindSize k)).filter (s.isLive k)

/-- The record a handle names (R2). -/
def State.lookup (s : State) (h : Handle) : Option (Kind × Nat) :=
  match kindOf h.kind with
  | none => none
  | some k => if h.inst < kindSize k ∧ s.isLive k h.inst = true ∧ (s.recAt k h.inst).gen = h.gen then some (k, h.inst) else none

/-- The record that a reference value names, if it is a handle of a live record of one of the kinds (R7 check 5, R190). -/
def State.refersTo (s : State) (ks : List Kind) (v : Int) : Option (Kind × Nat) :=
  if 0 ≤ v ∧ v ≤ 65535 then
    match s.lookup (handleOf v.toNat) with
    | some (k, i) => if ks.contains k then some (k, i) else none
    | none => none
  else none

/-- The field of a live record that a reference value names (R190). -/
def State.namesField (s : State) (v : Int) : Option (FieldId × FieldSpec) :=
  if 0 ≤ v ∧ v ≤ 65535 then
    match fieldOf v.toNat with
    | some f =>
      match specAt f.kind f.num with
      | some sp => if f.inst < kindSize f.kind ∧ s.isLive f.kind f.inst = true then some (f, sp) else none
      | none => none
    | none => none
  else none

/-! ## Classes, groups, queue and pool -/

/-- The class of a field (R4). -/
def classOf (f : FieldId) : FClass :=
  match specAt f.kind f.num with
  | some sp => sp.cls
  | none => .result

/-- Whether any entry is of a field of the class. -/
def anyClass (c : FClass) (es : List Entry) : Bool := es.any fun e => classOf e.id == c

/-- The class of a change (R20). -/
def Change.cls (c : Change) : FClass :=
  if anyClass .restart c.entries then .restart else if anyClass .sweep c.entries then .sweep else .view

def Change.fields (c : Change) : List FieldId := c.entries.map (·.id)

/-- The value a list of entries holds for a field. -/
def entryFor (f : FieldId) (es : List Entry) : Option Val := (es.find? fun e => e.id == f).map (·.val)

/-- The newest queued change holding a field (R6, R21). -/
def newestHolding (f : FieldId) (q : List Change) : Option Change := q.reverse.find? fun c => c.fields.contains f

/-- PENDING (R5). -/
def State.pendingField (s : State) (f : FieldId) : Bool := s.store.queue.any fun c => c.fields.contains f

/-- The value in the newest queued entry for a field. -/
def State.queued (s : State) (f : FieldId) : Option Val :=
  (newestHolding f s.store.queue).bind fun c => entryFor f c.entries

/-- The effective value of a numeric field (R6). -/
def State.eff (s : State) (f : FieldId) : Int :=
  match s.queued f with
  | some (.int v) => v
  | _ => s.get f

/-- The effective text of an object (R6). -/
def State.effText (s : State) (i : Nat) : List Byte :=
  match s.queued (Fld.obText i) with
  | some (.text t) => t
  | _ => (s.recAt .object i).text

def Store.group (st : Store) (g : Nat) : Group := st.groups.getD g Group.reset

def setGroup (g : Nat) (x : Group) (s : State) : State :=
  { s with store := { s.store with groups := s.store.groups.set g x } }

def setQueue (q : List Change) (s : State) : State := { s with store := { s.store with queue := q } }

/-- Pool entries in use: those of HOLDING groups, group 3's unfilled ones among them, and of queued changes (R19). -/
def State.poolUsed (s : State) : Nat :=
  (s.store.groups.map fun g => if g.state = .holding then g.entries.length + g.reserved else 0).sum
    + (s.store.queue.map fun c => c.entries.length).sum

/-- Free pool entries (R19). -/
def State.poolFree (s : State) : Nat := 192 - s.poolUsed

/-- The HOLDING host group, at most one of 0-2 (R16). -/
def State.holdingGroup (s : State) : Option Nat :=
  [0, 1, 2].find? fun g => (s.store.group g).state == .holding

/-- A carry retry is owed once pool or queue room has freed (R123, log 18). -/
def oweRetry (s : State) : State := { s with panel := { s.panel with retryDue := true } }

/-- The group a change came from becomes EMPTY when the change leaves the queue (R14, R17, R24). -/
def emptyOrigin (o : Origin) (s : State) : State :=
  match o with
  | .group g => setGroup g Group.reset s
  | .recall => setGroup 3 Group.reset s
  | _ => s

/-! ## Encoder state used by more than one block -/

def modEnc (i : Nat) (g : Enc → Enc) (s : State) : State :=
  { s with panel := { s.panel with encs := s.panel.encs.modify i g } }

/-- Set the carry of a control's encoder; a key has none (R118, R123). -/
def setCarry (control : Nat) (v : Int) (s : State) : State :=
  if 48 ≤ control then modEnc (control - 48) (fun e => { e with carry := v }) s else s

/-! ## Flash (R161, R191) -/

/-- A blank byte: all bits one (R161). What an unlisted address reads as. -/
def blankByte : Byte := 0xFF

def flashSize : Nat := 32768

def Memory.read (m : Memory) (a : Nat) : Byte :=
  match m with
  | [] => blankByte
  | (b, v) :: rest => if a = b then v else Memory.read rest a

/-- Drop an address from the list. -/
def Memory.drop (m : Memory) (a : Nat) : Memory :=
  match m with
  | [] => []
  | (b, v) :: rest => if a = b then rest else (b, v) :: Memory.drop rest a

/-- Put a byte at its place in the list, in the place of what stood there. -/
def Memory.put (m : Memory) (a : Nat) (x : Byte) : Memory :=
  match m with
  | [] => [(a, x)]
  | (b, v) :: rest =>
    if a < b then (a, x) :: (b, v) :: rest else if a = b then (a, x) :: rest else (b, v) :: Memory.put rest a x

/-- Write one byte: a blank byte is not listed; an address beyond the flash has no cell (log 24). -/
def Memory.write (m : Memory) (a : Nat) (x : Byte) : Memory :=
  if flashSize ≤ a then m else if x = blankByte then Memory.drop m a else Memory.put m a x

/-- The canonical form: addresses strictly rising and inside the flash, no blank byte listed. -/
def Memory.wfFrom (lo : Nat) : Memory → Bool
  | [] => true
  | (b, v) :: rest => decide (lo ≤ b ∧ b < flashSize ∧ v ≠ blankByte) && Memory.wfFrom (b + 1) rest

def Memory.wf (m : Memory) : Bool := Memory.wfFrom 0 m

/-- n bytes from an address. -/
def Memory.bytes (m : Memory) (a n : Nat) : List Byte := (List.range n).map fun i => Memory.read m (a + i)

/-- Write bytes from an address on. -/
def Memory.writeBytes (m : Memory) (a : Nat) : List Byte → Memory
  | [] => m
  | x :: xs => Memory.writeBytes (Memory.write m a x) (a + 1) xs

/-- The mask a disturbance list gives an address. -/
def flipAt (fl : Flips) (a : Nat) : Byte :=
  match fl with
  | [] => 0
  | (b, v) :: rest => if a = b then v else flipAt rest a

/-- Bytes as read, the disturbed bits turned (R191, log 8). -/
def Memory.bytesAsRead (m : Memory) (fl : Flips) (a n : Nat) : List Byte :=
  (List.range n).map fun i => Memory.read m (a + i) ^^^ flipAt fl (a + i)

/-- Programming turns bits from one to zero only (R191); the bits of `stuck` stay as they are (log 8). -/
def Memory.program (m : Memory) (stuck : Flips) (a : Nat) : List Byte → Memory
  | [] => m
  | x :: xs => Memory.program (Memory.write m a (Memory.read m a &&& (x ||| flipAt stuck a))) stuck (a + 1) xs

/-- The first byte of a slot (R191). -/
def slotBase (slot : Nat) : Nat := slot * 2048

/-- The first byte of entry place k, 1-184 (R191). -/
def placeBase (slot k : Nat) : Nat := slotBase slot + 16 + 11 * (k - 1)

end Sys2Proof.Machine
end

