-- ==== Sys2Proof/Machine/Banks.lean ====
section
/-! DEFINITION. The column combiner (R46 to R62): building columns, bank roles, headers and lends. -/

namespace Sys2Proof.Machine

/-! ## Building a column -/

/-- An item handed over by the sample path (R43): a corrected code with its clip indications, or nothing. -/
structure Sample where
  code   : Nat
  clipLo : Bool
  clipHi : Bool
  deriving DecidableEq, Repr

/-- Take an examined sample into minimum, maximum and clip flags (R47). -/
def Acc.examine (a : Acc) (x : Sample) : Acc :=
  { a with any := true, min := if a.any then Nat.min a.min x.code else x.code,
           max := if a.any then Nat.max a.max x.code else x.code,
           clipLo := a.clipLo || x.clipLo, clipHi := a.clipHi || x.clipHi }

/-- Take a kept sample into the sum and the count. -/
def Acc.keep (a : Acc) (x : Sample) : Acc := { a with sum := a.sum + x.code, mv := a.mv + 1 }

/-- One item at a place of the column (R47, R48, R49, R50). The kept places are 0, D, 2D, ... (R46). -/
def accumulate (mode : Mode) (d place : Nat) (item : Option Sample) (a : Acc) : Acc :=
  match item with
  | none => a
  | some x =>
    let kept := place % d = 0
    match mode with
    | .sample => if a.any then a else (a.examine x).keep x
    | .peak => if kept then (a.examine x).keep x else a.examine x
    | .hires | .average => if kept then (a.examine x).keep x else a

/-- The mean of a column, before limiting (R51). -/
def meanRaw (m : Nat) (a : Acc) : Nat :=
  if a.mv = m then (a.sum * reciprocal m + 131072) / 262144 else (128 * a.sum + a.mv) / (2 * a.mv)

/-- The mean limited to 64·min to 64·max (R51). -/
def meanQ6 (m : Nat) (a : Acc) : Nat := Nat.max (64 * a.min) (Nat.min (64 * a.max) (meanRaw m a))

/-- avg_q6 of a column with an examined sample (R48, R49, R51). -/
def avgOf (mode : Mode) (m : Nat) (a : Acc) : Nat :=
  match mode with
  | .sample => 64 * a.min
  | .peak => if a.mv = 0 then 32 * (a.min + a.max) else meanQ6 m a
  | .hires | .average => meanQ6 m a

/-- The column record of an accumulator, unblended (R47, R54). -/
def columnOf (mode : Mode) (m : Nat) (a : Acc) : Column :=
  if a.any then
    { valid := true, min := a.min, max := a.max, avgQ6 := avgOf mode m a, clipLo := a.clipLo, clipHi := a.clipHi }
  else Column.invalid

/-- j of the AVERAGE weight (R52). -/
def averageShift (depth avgShift : Nat) : Nat := Nat.min (Nat.log2 (depth + 1)) avgShift

/-- The AVERAGE blend of one value (R52). -/
def blend (j old cur : Nat) : Nat :=
  if j = 0 then cur else ((old : Int) + ((cur : Int) - old + 2 ^ (j - 1)) / 2 ^ j).toNat

/-- Blend a column with the same column of the shown bank; where there is none, or it is invalid, old is cur (R52). -/
def blendColumn (j : Nat) (old : Column) (cur : Column) : Column :=
  if cur.valid then { cur with avgQ6 := blend j (if old.valid then old.avgQ6 else cur.avgQ6) cur.avgQ6 } else cur

/-! ## Banks of a channel -/

/-- Column c of a bank (R58). -/
def Bank.col (b : Bank) (c : Nat) : Column := b.cols.getD ((b.origin + c) % 1000) Column.invalid

/-- The bank's columns in column order. -/
def Bank.inOrder (b : Bank) : List Column := (List.range 1000).map b.col

def Lends.has (l : Lends) : Lender → Bool
  | .renderer => l.renderer | .measurement => l.measurement | .link => l.link

def Lends.put (l : Lends) (who : Lender) (b : Bool) : Lends :=
  match who with
  | .renderer => { l with renderer := b } | .measurement => { l with measurement := b } | .link => { l with link := b }

def Lends.any (l : Lends) : Bool := l.renderer || l.measurement || l.link

def Comb.chan (cb : Comb) (ch : Nat) : List Bank := cb.banks.getD ch []

/-- The channel's bank of a role, if it has one. -/
def bankOf (r : Role) (bs : List Bank) : Option Bank := bs.find? fun b => b.role == r

def State.shownBank (s : State) (ch : Nat) : Option Bank := bankOf .shown (s.comb.chan ch)

/-- The bank of a channel that a lender holds (R62). -/
def State.lentBank (s : State) (who : Lender) (ch : Nat) : Option Bank :=
  (s.comb.chan ch).find? fun b => b.lends.has who

def modBanks (ch : Nat) (g : List Bank → List Bank) (s : State) : State :=
  { s with comb := { s.comb with banks := s.comb.banks.modify ch g } }

/-- The shown bank stops being SHOWN: FREE if its lend set is empty, HELD otherwise (R59, R61). -/
def Bank.unshow (b : Bank) : Bank :=
  if b.role = .shown then { b with role := if b.lends.any then .held else .free } else b

/-- Clear a channel's shown bank (R61). -/
def clearShown (ch : Nat) (s : State) : State := modBanks ch (List.map Bank.unshow) s

/-- Take a lender off a bank; a HELD bank with no lends left becomes FREE (R62). -/
def Bank.release (who : Lender) (b : Bank) : Bank :=
  if b.lends.has who then
    let l := b.lends.put who false
    { b with lends := l, role := if b.role = .held ∧ l.any = false then .free else b.role }
  else b

def releaseLend (who : Lender) (ch : Nat) (s : State) : State := modBanks ch (List.map (Bank.release who)) s

def Bank.lend (who : Lender) (b : Bank) : Bank :=
  if b.role = .shown then { b with lends := b.lends.put who true } else b

/-- A lend request (R62): an earlier lend of the lender is released, then the shown bank, if any, is lent. -/
def requestLend (who : Lender) (ch : Nat) (s : State) : State :=
  modBanks ch (fun bs => (bs.map (Bank.release who)).map (Bank.lend who)) s

/-- Change the first bank that a test picks. -/
def modFirst (p : Bank → Bool) (g : Bank → Bank) : List Bank → List Bank
  | [] => []
  | b :: bs => if p b then g b :: bs else b :: modFirst p g bs

/-- Change a channel's filling bank. -/
def modFilling (ch : Nat) (g : Bank → Bank) (s : State) : State :=
  modBanks ch (modFirst (fun b => b.role == .filling) g) s

/-- Run an action for CH1 to CH4 in turn. -/
def forChannels (g : Nat → State → State) (s : State) : State := [0, 1, 2, 3].foldl (fun s ch => g ch s) s

/-! ## Capture start, trigger, column completion, abandonment -/

/-- Capture start at the combiner (R57), with the header fields of R55. The trigger kind and the sweep-end fields, which R55 fills
later, are NONE and 0 until then (log 39). -/
def startBank (ch : Nat) (s : State) : State :=
  let h : Header :=
    { Header.zero with
      mode := modeOf (s.get Fld.tbMode), n := samplesPerColumn (s.get Fld.tbScale),
      p := (s.get Fld.tbTrigColumn).toNat, scaleUv := s.get (Fld.chScaleUv ch), offsetUv := s.get (Fld.chOffsetUv ch) }
  modBanks ch (modFirst (fun b => b.role == .free) fun b =>
    { b with role := .filling, header := h, origin := 0, cols := List.replicate 1000 Column.invalid }) s

/-- N, D, M, MODE, AVG_SHIFT and P of the live TIMEBASE record (R57, R73). -/
def State.captureNow (s : State) : Capture :=
  let n := samplesPerColumn (s.get Fld.tbScale)
  { n := n, d := decimation n, m := keptPlaces n, mode := modeOf (s.get Fld.tbMode),
    avgShift := (s.get Fld.tbAvgShift).toNat, p := (s.get Fld.tbTrigColumn).toNat }

def noneGot : List Bool := List.replicate 4 false

/-- The combiner's part of a capture start (R57). -/
def combStart (s : State) : State :=
  let s := forChannels startBank s
  { s with comb := { s.comb with cap := s.captureNow, place := 0, got := noneGot, slot := 0,
                                 accs := List.replicate 4 Acc.clear } }

/-- The combiner's part of an abandonment (R60): filling banks become FREE, the accumulators are cleared. -/
def combAbandon (s : State) : State :=
  let s := forChannels (fun ch => modFilling ch fun b => { b with role := .free }) s
  { s with comb := { s.comb with accs := List.replicate 4 Acc.clear } }

/-- The average depth n: TIMEBASE.AVG_DEPTH (R53). -/
def State.avgDepth (s : State) : Nat := (s.get Fld.tbAvgDepth).toNat

/-- Blend columns 0 to P - 1 of the filling bank in place at the trigger (R52). -/
def blendBefore (j p : Nat) (old : Option Bank) (b : Bank) : Bank :=
  (List.range p).foldl (fun b c =>
    let i := (b.origin + c) % 1000
    let o := match old with
      | some x => x.col c
      | none => Column.invalid
    { b with cols := b.cols.modify i (blendColumn j o) }) b

/-- The combiner's part of a trigger: slot t, the ring slot of the column in progress, becomes column P (R58), the
header takes the kind (R55), and in AVERAGE mode the columns already completed are blended (R52). -/
def combTrigger (kind : TrigKind) (s : State) : State :=
  let cap := s.comb.cap
  let j := averageShift s.avgDepth cap.avgShift
  forChannels (fun ch s =>
    let old := s.shownBank ch
    modFilling ch (fun b =>
      let b := { b with origin := (s.comb.slot + 1000 - cap.p) % 1000, header := { b.header with trigKind := kind } }
      if cap.mode = .average then blendBefore j cap.p old b else b) s) s

/-- The combiner's part of a column completion (R46): each channel's record goes to its filling bank, blended in
AVERAGE mode once the trigger has fixed the column numbers (R52). -/
def combComplete (s : State) : State :=
  let cap := s.comb.cap
  let slot := s.comb.slot
  let j := averageShift s.avgDepth cap.avgShift
  let s := forChannels (fun ch s =>
    let cur := columnOf cap.mode cap.m (s.comb.accs.getD ch Acc.clear)
    let old := s.shownBank ch
    modFilling ch (fun b =>
      let c := (slot + 1000 - b.origin) % 1000
      let o := match old with
        | some x => x.col c
        | none => Column.invalid
      let rec_ := if cap.mode = .average ∧ s.sweep.acq = .capturing then blendColumn j o cur else cur
      { b with cols := b.cols.set slot rec_ }) s) s
  { s with comb := { s.comb with slot := (slot + 1) % 1000, place := 0, accs := List.replicate 4 Acc.clear } }

/-! ## Sweep end at the combiner -/

/-- The sweep-end header fields (R55). -/
def finishHeader (sweepNo depth : Nat) (b : Bank) : Header :=
  let vs := b.cols.filter (·.valid)
  { b.header with
    sweepNo := sweepNo, avgDepth := depth, validCount := vs.length,
    sweepMin := match vs with
      | [] => 0
      | c :: cs => cs.foldl (fun m x => Nat.min m x.min) c.min,
    sweepMax := vs.foldl (fun m x => Nat.max m x.max) 0,
    clipLo := b.cols.any (·.clipLo), clipHi := b.cols.any (·.clipHi) }

/-- CHANNEL.CLIP of a header's clip flags: NONE, LOW, HIGH, BOTH (R29). -/
def clipCode (h : Header) : Int :=
  if h.clipLo then (if h.clipHi then 3 else 1) else (if h.clipHi then 2 else 0)

/-- The filling bank becomes SHOWN with its header complete and an empty lend set (R59 steps 1 and 3). -/
def Bank.complete (sweepNo depth : Nat) (b : Bank) : Bank :=
  if b.role = .filling then
    { b with role := .shown, lends := Lends.none, header := finishHeader sweepNo depth b }
  else b

/-- One channel's sweep end (R59): steps 1 to 3 on the banks, then CLIP. -/
def showChannel (sweepNo depth ch : Nat) (s : State) : State :=
  match bankOf .filling (s.comb.chan ch) with
  | none => s
  | some f =>
    let s := modBanks ch (fun bs => (bs.map Bank.unshow).map (Bank.complete sweepNo depth)) s
    setVal (Fld.chClip ch) (clipCode (finishHeader sweepNo depth f)) s

/-- The depth recorded at a sweep end (R53). -/
def State.endDepth (s : State) : Nat := if s.comb.cap.mode = .average then Nat.min (s.avgDepth + 1) 65535 else 0

/-- The value SWEEP_COUNT takes at the next sweep end (R77). -/
def State.nextSweepNo (s : State) : Nat := ((s.get Fld.tbSweepCount).toNat + 1) % 4294967296

/-- Phase 1 of a sweep end (R59, R53). -/
def combSweepEnd (s : State) : State :=
  let depth := s.endDepth
  let no := s.nextSweepNo
  let s' := forChannels (showChannel no depth) s
  if s.comb.cap.mode = .average then setVal Fld.tbAvgDepth depth s' else s'

end Sys2Proof.Machine
end

