-- ==== Sys2Proof/Machine/Consequences.lean ====
section
/-! DEFINITION. What the owning blocks do with an applied change (R26): the front-end line and settle (R32 to R35),
shown-bank clearing (R61), the trigger level (R65 to R67, R70, R85, R87), measurement definitions and statistics (R91,
R97, R109), the auto timer (R74). -/

namespace Sys2Proof.Machine

/-! ## Front end (R32, R33, R34) -/

/-- The front-end settings that a channel's live values call for (R32). -/
def State.feSettings (s : State) (ch : Nat) : FeSettings :=
  let sc := s.get (Fld.chScale ch)
  { coupling := (s.get (Fld.chCoupling ch)).toNat, highRange := decide (6 ≤ sc), gainStep := (sc % 6).toNat,
    tier := if sc ≤ 5 then 0 else if sc ≤ 8 then 1 else 2,
    offset := roundAway (s.get (Fld.chOffsetUv ch)) (probeFactor (s.get (Fld.chProbe ch))),
    bandwidth := (s.get (Fld.chBwLimit ch)).toNat }

/-- The 48-bit frame of a channel (R32). -/
def feFrame (ch : Nat) (f : FeSettings) : BitVec 48 :=
  BitVec.ofNat 2 ch ++ BitVec.ofNat 2 f.coupling ++ BitVec.ofBool f.highRange ++ BitVec.ofNat 3 f.gainStep
    ++ BitVec.ofNat 2 f.tier ++ BitVec.ofNat 1 f.bandwidth ++ (0 : BitVec 5) ++ BitVec.ofInt 32 f.offset

/-- Start the frame of the lowest-numbered pending channel, if the line is idle (R33). -/
def feStart (s : State) : State :=
  match s.path.sending with
  | some _ => s
  | none =>
    match [0, 1, 2, 3].find? fun ch => (s.path.pending.getD ch none).isSome with
    | none => s
    | some ch =>
      match s.path.pending.getD ch none with
      | none => s
      | some f => { s with path := { s.path with sending := some (ch, f), pending := s.path.pending.set ch none } }

/-- Put a channel in the pending set with new settings, which its image takes (R33). -/
def fePut (ch : Nat) (f : FeSettings) (s : State) : State :=
  { s with path := { s.path with pending := s.path.pending.set ch (some f), image := s.path.image.set ch f } }

/-- A channel's settings against its image (R33). -/
def feUpdate (ch : Nat) (s : State) : State :=
  let f := s.feSettings ch
  if s.path.image.getD ch FeSettings.reset = f then s else fePut ch f s

/-- The channel fields that reach the front end (R33). -/
def feFields (ch : Nat) : List FieldId :=
  [Fld.chCoupling ch, Fld.chScale ch, Fld.chProbe ch, Fld.chOffsetUv ch, Fld.chBwLimit ch]

def wroteAny (wrote fs : List FieldId) : Bool := fs.any wrote.contains

/-- A channel's settle time in µs, by the values before and after the change (R34). -/
def settleTime (before after : State) (ch : Nat) : Option Nat :=
  let changed := fun f => decide (before.get f ≠ after.get f)
  if changed (Fld.chCoupling ch) then some 10000
  else if decide (before.get (Fld.chScale ch) ≤ 5) != decide (after.get (Fld.chScale ch) ≤ 5) then some 10000
  else if changed (Fld.chScale ch) || changed (Fld.chOffsetUv ch) || changed (Fld.chBwLimit ch) then some 1000
  else none

/-- The longer of two times, where either may be absent. -/
def longer : Option Nat → Option Nat → Option Nat
  | none, b => b
  | some a, none => some a
  | some a, some b => some (Nat.max a b)

/-- A settle request (R72): starts the timer or lengthens it. -/
def settleRequest (t : Option Nat) (s : State) : State :=
  { s with sweep := { s.sweep with settle := longer s.sweep.settle t } }

/-! ## Trigger level -/

/-- The channel that the live TRIGGER.SOURCE names. -/
def State.source (s : State) : Nat := (s.get Fld.trSource).toNat

/-- Recompute LEVEL_CODE and LEVEL_CLIPPED (R65, R66, R67). -/
def levelRecompute (s : State) : State :=
  let raw := levelCodeRaw (s.get Fld.trLevelUv) (s.get (Fld.chScaleUv s.source)) (s.get (Fld.chOffsetUv s.source))
  let clipped := decide (raw < 0 ∨ 1023 < raw)
  let was := isOn (s.get Fld.trLevelClipped)
  raiseIf (clipped && !was) .levelClipped
    (setVal Fld.trLevelClipped (ofBool clipped) (setVal Fld.trLevelCode (limit 0 1023 raw) s))

/-- Both halves of the comparator disarm (R70). -/
def disarm (s : State) : State := { s with trig := { s.trig with armedRise := false, armedFall := false } }

/-- Holding off and the sweep counter 0 (R85). -/
def trackingOff (s : State) : State :=
  let s := setVal Fld.trAlHolding 0 s
  { s with trig := { s.trig with alCount := 0 } }

/-- AUTO_LEVEL over the application of a change (R85, R87). -/
def autoLevelAfter (before : State) (levelEntry : Bool) (s : State) : State :=
  let on := isOn (s.get Fld.trAutoLevel)
  let was := isOn (before.get Fld.trAutoLevel)
  if levelEntry then trackingOff (setVal Fld.trAutoLevel 0 (raiseIf on .autoLevelOff s))
  else if was && !on then trackingOff s
  else if !was && on then { s with trig := { s.trig with alCount := 0 } }
  else s

/-- The comparator is disarmed if a parameter of its differs from before the change (R70). -/
def disarmIfChanged (before : State) (s : State) : State :=
  if before.get Fld.trLevelCode ≠ s.get Fld.trLevelCode ∨ before.get Fld.trSlope ≠ s.get Fld.trSlope
      ∨ before.get Fld.trHysteresis ≠ s.get Fld.trHysteresis ∨ before.get Fld.trSource ≠ s.get Fld.trSource
  then disarm s else s

/-! ## Measurements -/

/-- Clear one measurement's statistics (R109). -/
def clearStats (i : Nat) (s : State) : State :=
  let s := [Fld.meStatMin i, Fld.meStatMax i, Fld.meStatMean i, Fld.meStatCount i, Fld.meFailCount i].foldl
    (fun s f => setVal f 0 s) s
  { s with meas := { s.meas with sums := s.meas.sums.set i 0 } }

/-- Clear the statistics of every live measurement, and exclude a running pass from them (R97, R109). -/
def clearAllStats (s : State) : State :=
  let s := (s.liveOf .measurement).foldl (fun s i => clearStats i s) s
  { s with meas := { s.meas with pass := s.meas.pass.map fun p => { p with exclude := true } } }

/-- A definition change (R91): stamp, statistics, STATUS, OUTCOME. -/
def definitionChange (i : Nat) (s : State) : State :=
  let s := clearStats i s
  let s := setVal (Fld.meStatus i) (mstatusCode .notYet) (setVal (Fld.meOutcome i) 0 s)
  { s with meas := { s.meas with stamps := s.meas.stamps.modify i fun n => (n + 1) % 2 ^ 64 } }

/-- The definition fields of a measurement (R91). -/
def definitionFields (i : Nat) : List FieldId :=
  [Fld.meKind i, Fld.meSource i, Fld.meGate i, Fld.meGateA i, Fld.meGateB i]

/-! ## Auto timer (R74) -/

/-- The auto timer's duration in ns: the longer of 40 ms and the sweep time (R74). -/
def State.autoDuration (s : State) : Nat := Nat.max 40000000 (1000 * s.comb.cap.n)

def setAuto (t : Option Nat) (s : State) : State := { s with sweep := { s.sweep with auto := t } }

/-- A change that writes SWEEP_MODE during WAITING (R74). -/
def sweepModeWritten (before : State) (s : State) : State :=
  if s.sweep.acq = .waiting then
    if before.get Fld.tbSweepMode = 0 ∧ s.get Fld.tbSweepMode ≠ 0 then setAuto none s
    else if before.get Fld.tbSweepMode ≠ 0 ∧ s.get Fld.tbSweepMode = 0 then setAuto (some s.autoDuration) s
    else s
  else s

/-! ## Step 3 of an application (R26) -/

def foldIf (b : Bool) (g : State → State) (s : State) : State := if b then g s else s

/-- SCALE_UV of a channel whose SCALE or PROBE was written (R29). -/
def rescale (wrote : List FieldId) (ch : Nat) (s : State) : State :=
  foldIf (wroteAny wrote [Fld.chScale ch, Fld.chProbe ch])
    (fun s => setVal (Fld.chScaleUv ch) (baseScale (s.get (Fld.chScale ch)) * probeFactor (s.get (Fld.chProbe ch))) s) s

/-- Whether a change clears a channel's shown bank (R61). -/
def clearsShown (wrote : List FieldId) (ch : Nat) : Bool :=
  wroteAny wrote (feFields ch)
    || wroteAny wrote [Fld.tbScale, Fld.tbMode, Fld.tbAvgShift, Fld.tbTrigColumn, Fld.trSource]

/-- Whether a change calls for a level recompute (R66). An OFFSET_UV that the re-clamp moved counts as written. -/
def recomputes (before : State) (wrote : List FieldId) (s : State) : Bool :=
  let c := s.source
  wroteAny wrote [Fld.trSource, Fld.trLevelUv, Fld.chScale c, Fld.chProbe c, Fld.chOffsetUv c]
    || decide (before.get (Fld.chOffsetUv c) ≠ s.get (Fld.chOffsetUv c))

/-- The settle request of a change: the longest of the touched channels' times (R34). -/
def changeSettle (before : State) (wrote : List FieldId) (s : State) : Option Nat :=
  [0, 1, 2, 3].foldl (fun t ch => if wroteAny wrote (feFields ch) then longer t (settleTime before s ch) else t) none

/-- Step 3 of R24: what every owner does, given the state before the change, the fields it wrote, its entries, and
the measurements whose GATE the re-clamp moved. -/
def consequences (before : State) (wrote : List FieldId) (es : List Entry) (gateMoved : List Nat) (s : State) : State :=
  let s := forChannels (rescale wrote) s
  let s := foldIf (wrote.contains Fld.tbScale)
    (fun s => setVal Fld.tbSamplesPerColumn (samplesPerColumn (s.get Fld.tbScale)) s) s
  let s := forChannels (fun ch => foldIf (wroteAny wrote (feFields ch)) (feUpdate ch)) s
  let s := settleRequest (changeSettle before wrote s) (feStart s)
  let s := forChannels (fun ch => foldIf (clearsShown wrote ch) (clearShown ch)) s
  let s := foldIf (anyClass .restart es) clearAllStats s
  let s := foldIf (recomputes before wrote s) levelRecompute s
  let s := autoLevelAfter before (wrote.contains Fld.trLevelUv) s
  let s := disarmIfChanged before s
  let s := (List.range 8).foldl
    (fun s i => foldIf (wroteAny wrote (definitionFields i) || gateMoved.contains i) (definitionChange i) s) s
  foldIf (wrote.contains Fld.tbSweepMode) (sweepModeWritten before) s

end Sys2Proof.Machine
end

