-- ==== Sys2Proof/Machine/Apply.lean ====
section
/-! DEFINITION. Records made and retired (R12 to R15), and changes applied (R23 to R26, R153, R173). -/

namespace Sys2Proof.Machine

/-! ## Creating and retiring -/

/-- Make a record live with every field at its default, its generation unchanged (R12). A measurement's stamp and
statistics start at 0 (R91, R108). -/
def createRec (k : Kind) (i : Nat) (s : State) : State :=
  let s := modRec k i (fun r => { live := true, gen := r.gen, vals := defaultVals k i, text := [] }) s
  if k = .measurement then
    { s with meas := { s.meas with stamps := s.meas.stamps.set i 0, sums := s.meas.sums.set i 0 } }
  else s

/-- Free an instance: generation + 1 modulo 16, its values discarded (R13). -/
def freeRec (k : Kind) (i : Nat) (s : State) : State :=
  modRec k i (fun r => { live := false, gen := (r.gen + 1) % 16, vals := defaultVals k i, text := [] }) s

def ofRecord (k : Kind) (i : Nat) (f : FieldId) : Bool := f.kind == k && f.inst == i

def withoutRecord (k : Kind) (i : Nat) (es : List Entry) : List Entry := es.filter fun e => !ofRecord k i e.id

/-- Remove a retired record's entries from the HOLDING groups and from the queue; a change left with none leaves
the queue and its group becomes EMPTY (R14). -/
def removeEntries (k : Kind) (i : Nat) (s : State) : State :=
  let inUse := s.poolUsed
  let gone := s.store.queue.filter fun c => (withoutRecord k i c.entries).isEmpty
  let groups := s.store.groups.map fun g =>
    if g.state = .holding then { g with entries := withoutRecord k i g.entries } else g
  let queue := (s.store.queue.map fun c => { c with entries := withoutRecord k i c.entries }).filter
    fun c => !c.entries.isEmpty
  let s := { s with store := { s.store with groups := groups, queue := queue } }
  let s := gone.foldl (fun s c => emptyOrigin c.origin s) s
  foldIf (decide (s.poolUsed < inUse)) oweRetry s

/-- Whether a reference value is a field id of the record. -/
def refersField (k : Kind) (i : Nat) (v : Int) : Bool :=
  if 0 ≤ v ∧ v ≤ 65535 then
    match fieldOf v.toNat with
    | some f => ofRecord k i f
    | none => false
  else false

/-- OBJECT.KIND READOUT (R145). -/
def readoutKind : Int := 6

/-- BIND and BIND2 of one object that name the retired record become VOID (R15). -/
def voidBinds (h : Int) (o : Nat) (s : State) : State :=
  let hit1 := decide (s.get (Fld.obBind o) = h)
  let hit2 := decide (s.get (Fld.obBind2 o) = h)
  let readout := decide (s.get (Fld.obKind o) = readoutKind)
  let s := foldIf hit1 (setVal (Fld.obBind o) noRef) s
  let s := foldIf hit2 (setVal (Fld.obBind2 o) noRef) s
  raiseIf ((hit1 || hit2) && readout) .readoutVoid s

/-- A binding whose TARGET is a field of the retired record falls back; an encoder's carry becomes 0 (R15, R119). -/
def dropBinding (k : Kind) (i b : Nat) (s : State) : State :=
  if refersField k i (s.get (Fld.biTarget b)) then
    raise .bindingLost (setCarry b 0 (setVal (Fld.biKind b) 1 (setVal (Fld.biTarget b) noRef s)))
  else s

/-- A lamp whose FIELD is a field of the retired record falls back (R15). -/
def dropLamp (k : Kind) (i l : Nat) (s : State) : State :=
  if refersField k i (s.get (Fld.laField l)) then
    let src := s.get (Fld.laSource l)
    raise .bindingLost
      (foldIf (decide (src = 2 ∨ src = 3)) (setVal (Fld.laSource l) 0) (setVal (Fld.laField l) noRef s))
  else s

/-- A measurement gated by the retired cursor falls back, which is a definition change (R15, R91). -/
def dropGate (h : Int) (m : Nat) (s : State) : State :=
  let hitA := decide (s.get (Fld.meGateA m) = h)
  let hitB := decide (s.get (Fld.meGateB m) = h)
  if hitA || hitB then
    let s := foldIf hitA (setVal (Fld.meGateA m) noRef) s
    let s := foldIf hitB (setVal (Fld.meGateB m) noRef) s
    definitionChange m (foldIf (decide (s.get (Fld.meGate m) = 1)) (setVal (Fld.meGate m) 0) s)
  else s

/-- A retired measurement leaves the running pass, and its FAIL flag is cleared (R15, R96). -/
def dropMeasurement (i : Nat) (s : State) : State :=
  let s := clearFail i s
  { s with meas := { s.meas with pass := s.meas.pass.map fun p =>
      { p with members := p.members.filter fun m => m.inst != i } } }

/-- Retirement of a live record with its whole clean-up (R13, R14, R15). -/
def retireRec (k : Kind) (i : Nat) (s : State) : State :=
  let h : Int := handleCode k i (s.recAt k i).gen
  let s := removeEntries k i (freeRec k i s)
  let s := (s.liveOf .object).foldl (fun s o => voidBinds h o s) s
  let s := (List.range 60).foldl (fun s b => dropBinding k i b s) s
  let s := (List.range 32).foldl (fun s l => dropLamp k i l s) s
  let s := if k = .cursor then (s.liveOf .measurement).foldl (fun s m => dropGate h m s) s else s
  if k = .measurement then dropMeasurement i s else s

/-! ## Applying a change -/

/-- A LABEL value brought to its stored form: unprintable characters become '?', the part above bit 31 zero (R28). -/
def labelAdjusted (v : Int) : Int :=
  (beNat ((beBytes 4 (v % 4294967296)).map printed) : Nat)

/-- The GATE entry of a recall, a kind and instance, as the handle of the record live there (R173). -/
def recalledGate (s : State) (v : Int) : Option Int :=
  if v = noRef then some noRef
  else if 0 ≤ v ∧ v ≤ 65535 then
    let h := handleOf v.toNat
    if h.kind = kindCode .cursor ∧ h.inst < kindSize .cursor ∧ s.isLive .cursor h.inst = true then
      some (handleCode .cursor h.inst (s.recAt .cursor h.inst).gen)
    else none
  else none

/-- A recalled HOLDOFF is reduced to a multiple of 10 like any other (R64; DEDUCED, log 21). -/
def tens (v : Int) : Int := if 0 ≤ v then v - v % 10 else v + (-v) % 10

/-- A value limited to the static range of its field (R173, R174). -/
def limitedTo (f : FieldId) (v : Int) : Int :=
  match specAt f.kind f.num with
  | some { ty := .numeric lo hi, .. } => limit lo hi v
  | _ => v

/-- The value an entry writes at apply, or none where it is dropped (R25; for a recall R173). -/
def applyValue (s : State) (isRecall : Bool) (f : FieldId) (v : Int) : Option Int :=
  match specAt f.kind f.num with
  | none => none
  | some sp =>
    match sp.ty with
    | .cursorRef =>
      if isRecall then recalledGate s v
      else if v = noRef ∨ (s.refersTo [.cursor] v).isSome then some v else none
    | .bindRef => if v = noRef ∨ (s.refersTo [.measurement, .cursor] v).isSome then some v else none
    | .enum n => if isRecall && !decide (0 ≤ v ∧ v < n) then none else some v
    | .onOff => if isRecall && !decide (0 ≤ v ∧ v < 2) then none else some v
    | .numeric lo hi =>
      if isRecall then some (if f = Fld.trHoldoff then tens (limit lo hi v) else limit lo hi v) else some v
    | .label => some (if isRecall then labelAdjusted v else v)
    | _ => some v

/-- Count a dropped entry and raise CHANGE_DROPPED (R18, R25). -/
def dropEntry (s : State) : State :=
  raise .changeDropped { s with store := { s.store with dropped := Nat.min 255 (s.store.dropped + 1) } }

/-- Apply one entry; the field is listed if it was written. -/
def applyEntry (isRecall : Bool) (acc : State × List FieldId) (e : Entry) : State × List FieldId :=
  match e.val with
  | .text t => (setText e.id.inst t acc.1, acc.2 ++ [e.id])
  | .int v =>
    match applyValue acc.1 isRecall e.id v with
    | some w => (setVal e.id w acc.1, acc.2 ++ [e.id])
    | none => (dropEntry acc.1, acc.2)

/-- Insert an entry at its place in field id order (R3, R24). -/
def insertEntry (e : Entry) : List Entry → List Entry
  | [] => [e]
  | x :: xs => if fieldCode e.id < fieldCode x.id then e :: x :: xs else x :: insertEntry e xs

/-- Entries in field id order (R24). -/
def inFieldOrder (es : List Entry) : List Entry := es.foldr insertEntry []

def touches (es : List Entry) (k : Kind) (i : Nat) : Bool := es.any fun e => ofRecord k i e.id

/-- OFFSET_UV within the limit of the live SCALE and PROBE (R25, R30). -/
def reclampOffset (ch : Nat) (s : State) : State :=
  let lim := offsetLimit (s.get (Fld.chScale ch)) (s.get (Fld.chProbe ch))
  setVal (Fld.chOffsetUv ch) (limit (-lim) lim (s.get (Fld.chOffsetUv ch))) s

/-- The upper end of POSITION by AXIS (R8, R25, R88). -/
def positionMax (axis : Int) : Int := if axis = 0 then 999 else 1023

/-- POSITION within the range of the live AXIS (R25). -/
def reclampPosition (i : Nat) (s : State) : State :=
  setVal (Fld.cuPosition i) (limit 0 (positionMax (s.get (Fld.cuAxis i))) (s.get (Fld.cuPosition i))) s

/-- AL_WIDE not below AL_STABLE (R25). -/
def reclampWide (s : State) : State := setVal Fld.trAlWide (max (s.get Fld.trAlWide) (s.get Fld.trAlStable)) s

/-- Whether both gates name live cursors. -/
def State.gatesLive (s : State) (a b : Int) : Bool :=
  (s.refersTo [.cursor] a).isSome && (s.refersTo [.cursor] b).isSome

/-- LIMIT_HI not below LIMIT_LO; GATE set to SCREEN without two live cursors (R25). -/
def reclampMeasurement (i : Nat) (s : State) : State :=
  let s := setVal (Fld.meLimitHi i) (max (s.get (Fld.meLimitHi i)) (s.get (Fld.meLimitLo i))) s
  if s.get (Fld.meGate i) = 1 ∧ s.gatesLive (s.get (Fld.meGateA i)) (s.get (Fld.meGateB i)) = false then
    setVal (Fld.meGate i) 0 s
  else s

/-- The kinds that BIND may name under a FORM (R151): VALUE 0, MEAN 1, MIN 2, MAX 3, DELTA 4, RECIP 5. -/
def bindKinds (form : Int) : List Kind :=
  if form = 0 then [.measurement, .cursor] else if form ≤ 3 then [.measurement] else [.cursor]

/-- The kinds that BIND2 may name under a FORM (R151). -/
def bind2Kinds (form : Int) : List Kind := if form ≤ 3 then [] else [.cursor]

/-- Whether a binding is VOID or names a live record of one of the kinds. -/
def State.agrees (s : State) (ks : List Kind) (v : Int) : Bool := decide (v = noRef) || (s.refersTo ks v).isSome

/-- The agreement of a READOUT made good after a change that wrote its bindings (R153). -/
def readoutAgree (o : Nat) (s : State) : State :=
  if s.isLive .object o ∧ s.get (Fld.obKind o) = readoutKind then
    let form := s.get (Fld.obForm o)
    let bad1 := !s.agrees (bindKinds form) (s.get (Fld.obBind o))
    let bad2 := !s.agrees (bind2Kinds form) (s.get (Fld.obBind2 o))
    let s := foldIf bad1 (setVal (Fld.obBind o) noRef) s
    let s := foldIf bad2 (setVal (Fld.obBind2 o) noRef) s
    raiseIf (bad1 || bad2) .readoutVoid s
  else s

/-- Step 2 of R24: the re-clamps of R25 in the records the change holds entries for, then R153. -/
def reclamps (es : List Entry) (wrote : List FieldId) (s : State) : State :=
  let s := forChannels (fun ch => foldIf (touches es .channel ch) (reclampOffset ch)) s
  let s := foldIf (touches es .trigger 0) reclampWide s
  let s := (List.range 4).foldl (fun s i => foldIf (touches es .cursor i) (reclampPosition i) s) s
  let s := (List.range 8).foldl (fun s i => foldIf (touches es .measurement i) (reclampMeasurement i) s) s
  (List.range 64).foldl
    (fun s o => foldIf (wroteAny wrote [Fld.obBind o, Fld.obBind2 o, Fld.obForm o]) (readoutAgree o) s) s

/-- What a recall's change does before step 1 (R173): every cursor and measurement is retired, and those the change
holds entries for are made again. The change itself has been taken off the queue, so its entries stay. -/
def recallRecords (es : List Entry) (s : State) : State :=
  let s := (s.liveOf .cursor).foldl (fun s i => retireRec .cursor i s) s
  let s := (s.liveOf .measurement).foldl (fun s i => retireRec .measurement i s) s
  let s := (List.range 4).foldl (fun s i => foldIf (touches es .cursor i) (createRec .cursor i) s) s
  (List.range 8).foldl (fun s i => foldIf (touches es .measurement i) (createRec .measurement i) s) s

/-- Apply a change that has been taken off the queue (R24, R25, R26). -/
def applyChange (c : Change) (before : State) : State :=
  let isRecall := c.origin == .recall
  let es := inFieldOrder c.entries
  let s := if isRecall then recallRecords es before else before
  let written := es.foldl (applyEntry isRecall) (s, [])
  let s := reclamps es written.2 written.1
  let gateMoved := (List.range 8).filter fun i => decide (written.1.get (Fld.meGate i) ≠ s.get (Fld.meGate i))
  let s := consequences before written.2 es gateMoved s
  oweRetry (emptyOrigin c.origin s)

/-! ## The examination of the queue (R23) -/

/-- The first released change that no earlier change holds back, and the queue without it (R23). -/
def pickReady (earlier : List FieldId) : List Change → Option (Change × List Change)
  | [] => none
  | c :: rest =>
    if c.released && !(c.fields.any earlier.contains) then some (c, rest)
    else (pickReady (earlier ++ c.fields) rest).map fun p => (p.1, c :: p.2)

/-- Apply every change that is ready, from the head, each whole before the next (R23). The count is a bound on the
changes in the queue: each application takes one away. -/
def drain : Nat → State → State
  | 0, s => s
  | n + 1, s =>
    match pickReady [] s.store.queue with
    | none => s
    | some (c, rest) => drain n (applyChange c (setQueue rest s))

/-- One activity of the store: the examination of R23. -/
def examine (s : State) : State := drain s.store.queue.length s

/-- Every change in the queue is released (R22). -/
def releaseAll (s : State) : State :=
  setQueue (s.store.queue.map fun c => { c with released := true }) s

end Sys2Proof.Machine
end

