-- ==== Sys2Proof/Machine/Sweep.lean ====
section
/-! DEFINITION. The sweep controller (R71 to R84) with the restart event, the launch of changes (R17, R20, R22), the
sweep end (R77) with its tracking step (R85, R86) and pass start (R93, R94). -/

namespace Sys2Proof.Machine

def setAcq (a : Acq) (s : State) : State := { s with sweep := { s.sweep with acq := a } }

/-! ## Trigger, capture start, WAITING -/

/-- A trigger event taken in WAITING (R75). The fire is taken before the completion of its column (log 5). -/
def triggerEvent (kind : TrigKind) (s : State) : State :=
  let s := combTrigger kind s
  { s with sweep := { s.sweep with trigKind := kind, auto := none, colCount := 0, acq := .capturing } }

/-- Entry to WAITING (R73, R74). -/
def enterWaiting (s : State) : State :=
  if s.sweep.force then
    triggerEvent .forced { s with sweep := { s.sweep with force := false } }
  else
    { s with sweep := { s.sweep with
        acq := .waiting,
        auto := if s.get Fld.tbSweepMode = 0 then some s.autoDuration else s.sweep.auto } }

/-- Capture start: the entry into ARMING (R73). With P = 0 it goes on to WAITING. That the trigger kind returns to NONE here is
log 37's choice. -/
def captureStart (s : State) : State :=
  let s := combStart s
  let s := { s with sweep := { s.sweep with acq := .arming, colCount := 0, trigKind := .none } }
  if s.comb.cap.p = 0 then enterWaiting s else s

/-- A capture is in progress (R60). -/
def Acq.capture : Acq → Bool
  | .arming | .waiting | .capturing => true
  | _ => false

/-- The capture in progress is abandoned (R60, R80, R81): its banks are dropped, force pending cleared, the auto timer idle,
the column count zeroed (log 32), and the state leaves the capture. The state it is left in here, SETTLING, stands only until
the caller chooses the next one in the same event (log 22). -/
def abandon (s : State) : State :=
  if s.sweep.acq.capture then
    let s := combAbandon s
    { s with sweep := { s.sweep with acq := .settling, force := false, auto := none, colCount := 0 } }
  else s

/-- An abandonment outside a RESTART releases every change, and the store applies the queue (R22, R23). -/
def abandonAndFlush (s : State) : State :=
  if s.sweep.acq.capture then examine (releaseAll (abandon s)) else s

/-- SETTLING while the settle timer runs, otherwise a capture start (R79, R81, R84). -/
def settleOrArm (s : State) : State :=
  match s.sweep.settle with
  | some _ => setAcq .settling s
  | none => captureStart s

/-! ## The restart event (R83, R84) -/

/-- Phase 1 (R83). -/
def restartAbandon (s : State) : State :=
  let s := setVal Fld.tbAvgDepth 0 (abandon s)
  { s with sweep := { s.sweep with force := false, auto := none, holdoff := none, colCount := 0 } }

/-- Phase 3: the next state, from the state the event began in (R84). -/
def restartNext (start : Acq) (s : State) : State :=
  match start with
  | .stopped => s
  | .settling => s
  | _ => settleOrArm s

def restartEvent (s : State) : State :=
  restartNext s.sweep.acq (examine (releaseAll (restartAbandon s)))

/-! ## A change joins the queue (R20, R22) -/

/-- A change joins at the tail; its release is decided, and what is ready applies (R17, R22, R23). -/
def joinQueue (o : Origin) (es : List Entry) (s : State) : State :=
  let c : Change := { origin := o, entries := es, released := false }
  match c.cls with
  | .restart => restartEvent (setQueue (s.store.queue ++ [c]) s)
  | .sweep =>
    examine (setQueue (s.store.queue ++ [{ c with released := decide (s.sweep.acq ≠ .capturing) }]) s)
  | _ => examine (setQueue (s.store.queue ++ [{ c with released := true }]) s)

/-! ## Commands to the sweep controller (R79 to R82) -/

/-- RUN (R79). -/
def takeRun (s : State) : State :=
  if s.sweep.acq = .stopped then settleOrArm s else s

/-- STOP (R80). Entry to STOPPED disarms the comparator (R70). -/
def takeStop (s : State) : State :=
  let s := if s.sweep.acq.capture then examine (releaseAll (setAcq .stopped (abandon s))) else s
  disarm { s with sweep := { s.sweep with acq := .stopped, holdoff := none, auto := none, single := false, force := false } }

/-- SINGLE (R81). -/
def takeSingle (s : State) : State :=
  let pend := fun (s : State) => { s with sweep := { s.sweep with single := true } }
  match s.sweep.acq with
  | .stopped => takeRun (pend s)
  | .arming | .waiting | .capturing => settleOrArm (pend (abandonAndFlush s))
  | .settling | .holdoff => pend s

/-- FORCE (R82); none where it is refused with WRONG_STATE. -/
def takeForce (s : State) : Option State :=
  match s.sweep.acq with
  | .waiting => some (triggerEvent .forced s)
  | .arming => some { s with sweep := { s.sweep with force := true } }
  | _ => none

/-- RUNSTOP of the panel (R126). -/
def takeRunStop (s : State) : State := if s.sweep.acq = .stopped then takeRun s else takeStop s

/-! ## Auto-level tracking (R85, R86) -/

def sign (x : Int) : Int := if x < 0 then -1 else if x = 0 then 0 else 1

/-- The tracking step against a bank header (R86). -/
def trackStep (h : Header) (s : State) : State :=
  if h.validCount = 0 then s
  else
    let target : Int := ((h.sweepMin + h.sweepMax) / 2 : Nat)
    let l := s.get Fld.trLevelCode
    let e := target - l
    let mag : Int := e.natAbs
    let was := isOn (s.get Fld.trAlHolding)
    let holding := if was then !decide (s.get Fld.trAlWide < mag) else decide (mag ≤ s.get Fld.trAlStable)
    let s := setVal Fld.trAlHolding (ofBool holding) s
    if holding then s
    else
      let l' := limit 0 1023 (l + sign e * min mag (s.get Fld.trAlDelta))
      if l' = l then s
      else
        let uv := levelOfCode l' (s.get (Fld.chScaleUv s.source)) (s.get (Fld.chOffsetUv s.source))
        disarm (setVal Fld.trLevelClipped 0 (setVal Fld.trLevelUv uv (setVal Fld.trLevelCode l' s)))

/-- Phase 4 of a sweep end (R85). -/
def track (s : State) : State :=
  if isOn (s.get Fld.trAutoLevel) then
    let n := s.trig.alCount + 1
    if (n : Int) < s.get Fld.trAlEvery then { s with trig := { s.trig with alCount := n } }
    else
      let s := { s with trig := { s.trig with alCount := 0 } }
      match s.shownBank s.source with
      | some b => trackStep b.header s
      | none => s
  else s

/-! ## Pass start (R93, R94) -/

/-- A member latched at pass start, its start status NO_DATA apart (R94 steps 1 and 2, R98). -/
def latchMember (s : State) (i : Nat) : Member :=
  let src := (s.get (Fld.meSource i)).toNat
  let off := !isOn (s.get (Fld.chDisplay src))
  let cur := fun (v : Int) => match s.refersTo [.cursor] v with
    | some (_, c) => if s.get (Fld.cuAxis c) = 0 then some (s.get (Fld.cuPosition c)).toNat else none
    | none => none
  let a := cur (s.get (Fld.meGateA i))
  let b := cur (s.get (Fld.meGateB i))
  let base : Member :=
    { inst := i, stamp := s.meas.stamps.getD i 0, kind := s.get (Fld.meKind i), source := src, gateLo := 0,
      gateHi := 999, start := none }
  if off then { base with start := some .sourceOff }
  else if s.get (Fld.meGate i) = 1 then
    match a, b with
    | some x, some y => { base with gateLo := Nat.min x y, gateHi := Nat.max x y }
    | _, _ => { base with start := some .gateInvalid }
  else base

/-- A member with no start status whose channel has no shown bank takes NO_DATA (R94 step 3). -/
def markNoData (s : State) (m : Member) : Member :=
  if m.start = none ∧ (s.shownBank m.source).isNone = true then { m with start := some .noData } else m

/-- A pass starts (R94). -/
def passStart (s : State) : State :=
  let ms := ((s.liveOf .measurement).map (latchMember s)).map (markNoData s)
  let lent := [0, 1, 2, 3].filter fun ch => ms.any fun m => m.start == none && m.source == ch
  let s := lent.foldl (fun s ch => requestLend .measurement ch s) s
  { s with meas := { s.meas with pass := some { members := ms, lent := lent, exclude := false, timer := 10 * ms.length } } }

/-- The sweep end as the measurement unit takes it (R93). -/
def measSweepEnd (s : State) : State :=
  match s.meas.pass with
  | some _ => s
  | none => if (s.liveOf .measurement).isEmpty then s else passStart s

/-! ## The sweep end (R77) -/

/-- Phase 2: the counts (R77). -/
def sweepCounts (s : State) : State :=
  raise .sweepDone
    (setVal Fld.trLastKind (trigKindCode s.sweep.trigKind) (setVal Fld.tbSweepCount s.nextSweepNo s))

/-- Phase 5: the next state (R77). -/
def sweepNext (s : State) : State :=
  if s.sweep.single then
    raise .singleDone (disarm { s with sweep := { s.sweep with single := false, acq := .stopped } })
  else if 0 < s.get Fld.trHoldoff then
    { s with sweep := { s.sweep with acq := .holdoff, holdoff := some (s.get Fld.trHoldoff).toNat } }
  else captureStart s

/-- The sweep end: its five phases, then the measurement unit (R77, R93). -/
def sweepEnd (s : State) : State :=
  let s := sweepCounts (combSweepEnd s)
  let s := examine (releaseAll s)
  measSweepEnd (sweepNext (track s))

/-- A column completion: the combiner's part, then the sweep controller's count (R46, R73, R76). -/
def columnComplete (s : State) : State :=
  let s := combComplete s
  match s.sweep.acq with
  | .arming =>
    let n := s.sweep.colCount + 1
    let s := { s with sweep := { s.sweep with colCount := n } }
    if n = s.comb.cap.p then enterWaiting s else s
  | .capturing =>
    let n := s.sweep.colCount + 1
    let s := { s with sweep := { s.sweep with colCount := n } }
    if n = 1000 - s.comb.cap.p then sweepEnd s else s
  | _ => s

end Sys2Proof.Machine
end

