-- ==== Sys2Proof/Machine/Writes.lean ====
section
/-! DEFINITION. Field writes (R7 to R11) with the owners' checks (R28, R64, R118, R119, R127, R128, R152, R185), and
panel adjustments at the store (R21). -/

namespace Sys2Proof.Machine

/-- The path a write takes (R10, R11), which also says whose reference values it is checked against (R8). -/
inductive WritePath where
  | live
  | held (g : Nat)
  | loose
  deriving DecidableEq, Repr

def State.pathFor (s : State) (c : FClass) : WritePath :=
  if c = .config then .live
  else match s.holdingGroup with
    | some g => .held g
    | none => .loose

/-- The reference value of a field (R8). -/
def State.refVal (s : State) (p : WritePath) (f : FieldId) : Int :=
  match p with
  | .live => s.get f
  | .loose => s.eff f
  | .held g =>
    match entryFor f (s.store.group g).entries with
    | some (.int v) => v
    | _ => s.eff f

/-! ## Checks 3 to 5 of R7 -/

/-- BINDING.KIND values (R118). -/
def kindAdjust : Int := 2
def kindToggle : Int := 3
def kindCycle : Int := 4
def kindAction : Int := 5

/-- Whether a field suits a binding of the kind (R119). -/
def suits (kind : Int) (ty : FType) : Bool :=
  match ty with
  | .numeric _ _ => kind == kindAdjust
  | .onOff => kind == kindToggle || kind == kindCycle
  | .enum _ => kind == kindCycle
  | _ => false

/-- Whether a BINDING.KIND needs a target (R119). -/
def needsTarget (kind : Int) : Bool := kind == kindAdjust || kind == kindToggle || kind == kindCycle

/-- Whether a field may be a binding's TARGET at all (R119). -/
def targetable (f : FieldId) (sp : FieldSpec) : Bool :=
  sp.cls != .result && f.kind != .binding && !(f.kind == .object && f.num == 0)
    && (match sp.ty with
        | .text | .label | .cursorRef | .bindRef | .fieldRef => false
        | _ => true)

/-- Whether a TARGET value names a field that suits the kind. -/
def State.targetSuits (s : State) (kind v : Int) : Bool :=
  match s.namesField v with
  | some (f, sp) => targetable f sp && suits kind sp.ty
  | none => false

/-- Check 4: an enumeration value within its set (R7); a BINDING.KIND that suits the control (R119). -/
def enumOk (f : FieldId) (sp : FieldSpec) (v : Int) : Bool :=
  match sp.ty with
  | .text => false
  | .onOff => decide (0 ≤ v ∧ v < 2)
  | .enum n =>
    decide (0 ≤ v ∧ v < n)
      && !(f.kind == .binding && f.num == 0 &&
            ((v == kindAdjust && decide (f.inst < 48)) || (v == kindAction && decide (48 ≤ f.inst))))
  | _ => true

/-- GATE, GATE_A and GATE_B with the written value in place (R8). A reference value that a waiting recall's entry gives, a kind
and instance, is judged as a handle of generation 0 (log 36); its GATE outside the set is not CURSORS (log 41). -/
def State.gatesOk (s : State) (p : WritePath) (f : FieldId) (v : Int) : Bool :=
  let val := fun (g : FieldId) => if g = f then v else s.refVal p g
  if val (Fld.meGate f.inst) = 1 then s.gatesLive (val (Fld.meGateA f.inst)) (val (Fld.meGateB f.inst)) else true

/-- BIND, BIND2 and FORM of a READOUT with the written value in place (R152). A reference value agrees only while its record is
live (log 34). -/
def State.readoutOk (s : State) (p : WritePath) (f : FieldId) (v : Int) : Bool :=
  if s.get (Fld.obKind f.inst) = readoutKind then
    let val := fun (g : FieldId) => if g = f then v else s.refVal p g
    if v = noRef ∧ f.num ≠ 13 then true
    else
      let form := val (Fld.obForm f.inst)
      s.agrees (bindKinds form) (val (Fld.obBind f.inst)) && s.agrees (bind2Kinds form) (val (Fld.obBind2 f.inst))
  else true

/-- The owner's part of check 5 for a binding (R119). -/
def State.bindingOk (s : State) (f : FieldId) (v : Int) : Bool :=
  if f.num = 0 then !needsTarget v || s.targetSuits v (s.get (Fld.biTarget f.inst))
  else if f.num = 1 then
    let kind := s.get (Fld.biKind f.inst)
    if v = noRef then !needsTarget kind
    else match s.namesField v with
      | some (t, sp) => targetable t sp && (!needsTarget kind || suits kind sp.ty)
      | none => false
  else true

/-- The owner's part of check 5 for a lamp (R128): SOURCE EQUALS 2 and NONZERO 3 need a FIELD. -/
def State.lampOk (s : State) (f : FieldId) (v : Int) : Bool :=
  if f.num = 0 then !(decide (v = 2 ∨ v = 3) && decide (s.get (Fld.laField f.inst) = noRef))
  else if f.num = 1 then
    if v = noRef then !decide (s.get (Fld.laSource f.inst) = 2 ∨ s.get (Fld.laSource f.inst) = 3)
    else match s.namesField v with
      | some (_, sp) => sp.ty != .text
      | none => false
  else true

/-- Check 5 (R7). -/
def State.refOk (s : State) (p : WritePath) (f : FieldId) (sp : FieldSpec) (v : Int) : Bool :=
  (match sp.ty with
    | .cursorRef => decide (v = noRef) || (s.refersTo [.cursor] v).isSome
    | .bindRef => decide (v = noRef) || (s.refersTo [.measurement, .cursor] v).isSome
    | _ => true)
  && (match f.kind with
    | .measurement => if 2 ≤ f.num ∧ f.num ≤ 4 then s.gatesOk p f v else true
    | .object => if 11 ≤ f.num ∧ f.num ≤ 13 then s.readoutOk p f v else true
    | .binding => s.bindingOk f v
    | .lamp => s.lampOk f v
    | _ => true)

/-- Checks 3 to 5 of R7 on a numeric write: the status of the first that fails. -/
def State.writeCheck (s : State) (p : WritePath) (f : FieldId) (sp : FieldSpec) (v : Int) : Option Status :=
  if sp.cls = .result ∨ (f.kind = .object ∧ f.num = 0) then some .readOnly
  else if enumOk f sp v = false then some .badValue
  else if s.refOk p f sp v = false then some .badReference
  else none

/-! ## The value as stored (R8 and the owners' adjustments) -/

/-- The dependent part of the clamp of R8, after the static range. The reference value may be the entry of a waiting recall, which
nothing has limited yet (R173). An AL_STABLE or LIMIT_LO beyond its static range then counts as the end of that range, the value the
recall will write, so that the field clamped stays within its own (R25's last sentence); a SCALE beyond its range as the nearer end,
a PROBE outside its set as X100 and an AXIS outside its set as LEVEL (DESIGN CHOICE, log 41). -/
def State.dependentClamp (s : State) (p : WritePath) (f : FieldId) (v : Int) : Int :=
  match f.kind, f.num with
  | .channel, 4 =>
    let lim := offsetLimit (s.refVal p (Fld.chScale f.inst)) (s.refVal p (Fld.chProbe f.inst))
    limit (-lim) lim v
  | .cursor, 2 => limit 0 (positionMax (s.refVal p (Fld.cuAxis f.inst))) v
  | .trigger, 8 => max v (limitedTo Fld.trAlStable (s.refVal p Fld.trAlStable))
  | .trigger, 4 => tens v
  | .measurement, 7 => max v (limitedTo (Fld.meLimitLo f.inst) (s.refVal p (Fld.meLimitLo f.inst)))
  | _, _ => v

/-- The value as stored, and whether the status is CLAMPED (R8, R28, R64, R185). -/
def State.storedValue (s : State) (p : WritePath) (f : FieldId) (sp : FieldSpec) (v : Int) : Int × Bool :=
  match sp.ty with
  | .numeric lo hi =>
    let w := if f.kind = .notice then v % 524288 else s.dependentClamp p f (limit lo hi v)
    (w, decide (w ≠ v))
  | .label => (labelAdjusted v, decide (v < 0 ∨ 4294967296 ≤ v))
  | _ => (v, false)

/-! ## Storing -/

/-- Setting PANEL.LOCK from off to on clears the carries of the encoders that are not exempt (R127). -/
def lockCarries (s : State) : State :=
  (List.range 12).foldl
    (fun s i => foldIf (!isOn (s.get (Fld.biLockExempt (48 + i)))) (setCarry (48 + i) 0) s) s

/-- A CONFIG write (R10) with what follows from it at once: any write to an encoder's binding clears its carry (R118). -/
def configWrite (f : FieldId) (v : Int) (s : State) : State :=
  let was := s.get f
  let s := setVal f v s
  match f.kind with
  | .binding => setCarry f.inst 0 s
  | .panel => foldIf (decide (was = 0) && decide (v = 1)) lockCarries s
  | _ => s

/-- Replace a field's entry in place. -/
def replaceEntry (f : FieldId) (v : Val) (es : List Entry) : List Entry :=
  es.map fun e => if e.id = f then { e with val := v } else e

/-- Check 6 and the write along its path (R10, R11). -/
def storeWrite (p : WritePath) (f : FieldId) (v : Val) (s : State) : Except Status State :=
  match p with
  | .live =>
    match v with
    | .int w => .ok (configWrite f w s)
    | .text t => .ok (setText f.inst t s)
  | .held g =>
    let grp := s.store.group g
    if (entryFor f grp.entries).isSome then .ok (setGroup g { grp with entries := replaceEntry f v grp.entries } s)
    else if s.poolFree = 0 then .error .groupFull
    else .ok (setGroup g { grp with entries := grp.entries ++ [{ id := f, val := v }] } s)
  | .loose =>
    if 16 ≤ s.store.queue.length then .error .queueFull
    else if s.poolFree = 0 then .error .groupFull
    else .ok (joinQueue .loose [{ id := f, val := v }] s)

/-! ## Panel adjustments (R21) -/

/-- Put a value in the newest change of the queue that holds the field. -/
def coalesce (f : FieldId) (v : Val) : List Change → List Change
  | [] => []
  | c :: rest =>
    if rest.any fun d => d.fields.contains f then c :: coalesce f v rest
    else { c with entries := replaceEntry f v c.entries } :: rest

/-- A panel adjustment of a VIEW, SWEEP or RESTART field; none where the store refuses it (R21). -/
def panelAdjust (f : FieldId) (v : Int) (s : State) : Option State :=
  match newestHolding f s.store.queue with
  | some c =>
    if c.origin = .panel then some (setQueue (coalesce f (.int v) s.store.queue) s)
    else if s.store.queue.length < 16 ∧ 0 < s.poolFree then some (joinQueue .panel [{ id := f, val := .int v }] s)
    else none
  | none =>
    if s.store.queue.length < 16 ∧ 0 < s.poolFree then some (joinQueue .panel [{ id := f, val := .int v }] s) else none

end Sys2Proof.Machine
end

