-- ==== Sys2Proof/Machine/Link.lean ====
section
/-! DEFINITION. The link (R179 to R184): the frame parser, the taking of a command, the response, the summary byte and
the notice lines. -/

namespace Sys2Proof.Machine

/-- What a block answers to a command: a status, data, the state after it, and work tied to the response. -/
structure Reply where
  status : Status
  data   : List Byte
  st     : State
  tie    : Tie

/-- A refused command sends its status byte alone and changes nothing (R181, R189). -/
def refuse (st : Status) (s : State) : Reply := { status := st, data := [], st := s, tie := .none }

/-- An accepted command with its data (R181). -/
def accept (data : List Byte) (s : State) : Reply := { status := .ok, data := data, st := s, tie := .none }

/-- Where the parser stands as a command's last byte arrives (R179): in COMMAND for a command without parameters, otherwise
with every parameter byte but the last received and one expected. -/
def awaiting (code : Byte) (params : List Byte) : Parser :=
  match params with
  | [] => .command
  | _ => .parameters code params.dropLast 1

/-- Whether the byte that completes this very command is the one the parser expects now: the bytes received before it are the
command's own, and with it they spell the command (R179, R189). -/
def expects (i : Instr) (s : State) : Bool :=
  match wire i with
  | some (code, params) =>
    s.link.parser == awaiting code params && decodeCommand (calLevel i) (code :: params) == some i
  | none => false

/-- The response of a reply (R179 step 4, R189). -/
def respond (r : Reply) : State :=
  { r.st with link := { r.st.link with parser := .response, response := statusCode r.status :: r.data, tie := r.tie } }

/-- A command taken (R181): refused with STARTING during the start-up load, but for the four that are not; otherwise
its own checks and effect. Bytes that come in any other parser state are not a command (R179, log 6). -/
def takeCommand (i : Instr) (body : State → Reply) (s : State) : Out :=
  awake s
    (if expects i s then
      (if s.setup.starting && !allowedStarting i then respond (refuse .starting s) else respond (body s))
    else s)

/-! ## Lines and summary byte -/

/-- The sources that drive a line: pending and in ENABLE (R188). -/
def State.enabledPending (s : State) : BitVec 19 := pendingSources s.notices &&& BitVec.ofInt 19 (s.get Fld.noEnable)

/-- ALERT_N is asserted (R188). -/
def State.alertAsserted (s : State) : Bool := decide (s.enabledPending &&& BitVec.ofInt 19 (s.get Fld.noAlertSet) ≠ 0)

/-- ATTN_N is asserted (R188). -/
def State.attnAsserted (s : State) : Bool := decide (s.enabledPending &&& ~~~ BitVec.ofInt 19 (s.get Fld.noAlertSet) ≠ 0)

/-- The setup unit's operation state is not IDLE (R162, R180). -/
def State.setupBusy (s : State) : Bool := s.setup.starting || s.setup.phase != .idle

/-- The summary byte (R180, R189). -/
def State.summaryByte (s : State) : Byte :=
  BitVec.ofBool (!s.setup.starting) ++ BitVec.ofBool s.alertAsserted ++ BitVec.ofBool s.attnAsserted
    ++ BitVec.ofBool s.setupBusy ++ (0 : BitVec 1) ++ BitVec.ofNat 3 (acqCode s.sweep.acq)

/-- What the part drives on MISO (R179). -/
inductive Miso where
  /-- high-impedance: CS_N is high -/
  | highZ
  /-- one byte again and again: the summary byte once, or filler -/
  | byte (b : Byte)
  /-- the status byte and the data, then filler -/
  | response (bs : List Byte)
  deriving DecidableEq, Repr

/-- MISO by the state of the parser (R179, R180): the summary byte during the command byte, filler bytes of 0 during the
parameters and in SPENT, the response. The wait after a reset is log 19. -/
def State.miso (s : State) : Miso :=
  if s.link.csLow then
    match s.link.parser with
    | .command => .byte s.link.summary
    | .parameters _ _ _ | .spent => .byte 0
    | .response => .response s.link.response
    | .idle | .waitHigh => .byte Config.waitMiso
  else .highZ

/-! ## Frame events -/

def setParser (p : Parser) (s : State) : State := { s with link := { s.link with parser := p } }

def setCsLow (b : Bool) (s : State) : State := { s with link := { s.link with csLow := b } }

/-- CS_N_FALL: the frame opens and the summary byte is formed (R179 step 1, R180). A fall while the part is in reset
only moves the pin: that frame's bytes are not taken (R179). -/
def execCsNFall (s : State) : Out :=
  .next
    (if s.held then setParser .waitHigh (setCsLow true s)
    else match s.link.parser with
      | .idle =>
        { s with link := { s.link with csLow := true, parser := .command, summary := s.summaryByte, response := [], tie := .none } }
      | _ => setCsLow true s)

/-- COMMAND_BYTE: a command that takes parameters is identified (R179 step 2). -/
def execCommandByte (b : Byte) (s : State) : Out :=
  awake s
    (if s.link.parser = .command then
      match paramCount b with
      | some (n + 1) => setParser (.parameters b [] (n + 1)) s
      | _ => s
    else s)

/-- PARAMETER_BYTE: the byte is received and the count expected falls by 1; WRITE_TEXT's fourth byte says how many text
bytes follow (R179 steps 2 and 3, R189). -/
def execParameterByte (b : Byte) (s : State) : Out :=
  awake s
    (match s.link.parser with
      | .parameters c got n =>
        if 2 ≤ n then setParser (.parameters c (got ++ [b]) (n - 1)) s
        else if n = 1 ∧ c = writeTextCode ∧ got.length = 3 ∧ b ≠ 0 then setParser (.parameters c (got ++ [b]) b.toNat) s
        else s
      | _ => s)

/-- UNKNOWN_COMMAND: answered as soon as the command byte is complete (R181 check 1). -/
def execUnknownCommand (b : Byte) (s : State) : Out :=
  awake s
    (if s.link.parser = .command ∧ paramCount b = none then respond (refuse .unknownCommand s) else s)

/-- The PANEL_READ subtraction (R117). -/
def panelSubtract (snap : PanelSnap) (s : State) : State :=
  let keys := s.panel.keys.zipWith (fun k (n : Nat) => { k with count := k.count - n }) snap.counts
  let encs := s.panel.encs.zipWith (fun e (d : Int) => { e with pending := limit (-127) 127 (e.pending - d) }) snap.pending
  let mask := s.panel.mask &&& ~~~ snap.mask
  let s := { s with panel := { s.panel with keys := keys, encs := encs, mask := mask } }
  let quiet := (keys.all fun k => k.count == 0) && (encs.all fun e => e.pending == 0)
  let s := if quiet then clearFlag .panelInput s else s
  if mask = 0 then clearFlag .panelChanged s else s

/-- RESPONSE_END: the parser becomes SPENT; a COLUMNS lend is released, or the PANEL_READ subtraction made (R179, R63,
R117). -/
def execResponseEnd (s : State) : Out :=
  awake s
    (if s.link.parser = .response then
      let t := setParser .spent s
      match s.link.tie with
      | .columns ch => releaseLend .link ch { t with link := { t.link with tie := .none } }
      | .panel snap => panelSubtract snap { t with link := { t.link with tie := .none } }
      | _ => t
    else s)

/-! ## Commands of the link itself -/

/-- NOP (10.3). -/
def execNop (s : State) : Out := takeCommand .nop (fun s => accept [] s) s

/-- IDENTIFY (R183, R189): part code, revision, reset cause, start-up result, which reads NONE while STARTING. -/
def identifyData (s : State) : List Byte :=
  beBytes 2 0x0440 ++ beBytes 1 1 ++ beBytes 1 (causeCode s.cause)
    ++ beBytes 1 (if s.setup.starting then 0 else startResultCode s.setup.calResult)
    ++ beBytes 1 (if s.setup.starting then 0 else startResultCode s.setup.setupResult)

def execIdentify (s : State) : Out := takeCommand .identify (fun s => accept (identifyData s) s) s

/-- RESET: answered OK; the reset is taken at the rise of CS_N that ends the frame (R184). -/
def execReset (s : State) : Out :=
  takeCommand .reset (fun s => { status := .ok, data := [], st := s, tie := .reset }) s

/-- NOTICE_READ (R187, R189). -/
def noticeData (n : Notices) : List Byte :=
  beBytes 3 (pendingSources n).toNat ++ [n.fails] ++ beBytes 1 (match highestPending n with
    | some i => (i : Int)
    | none => 255)

def execNoticeRead (s : State) : Out := takeCommand .noticeRead (fun s => accept (noticeData s.notices) s) s

/-- NOTICE_CLEAR (R187). -/
def execNoticeClear (sources : BitVec 24) (fails : Byte) (s : State) : Out :=
  takeCommand (.noticeClear sources fails) (fun s => accept [] { s with notices := clearNotices sources fails s.notices }) s

/-! ## Acquisition commands -/

/-- RUN (R79). -/
def execRun (s : State) : Out := takeCommand .run (fun s => accept [] (takeRun s)) s

/-- STOP (R80). -/
def execStop (s : State) : Out := takeCommand .stop (fun s => accept [] (takeStop s)) s

/-- SINGLE (R81). -/
def execSingle (s : State) : Out := takeCommand .single (fun s => accept [] (takeSingle s)) s

/-- FORCE (R82). -/
def execForce (s : State) : Out :=
  takeCommand .force (fun s => match takeForce s with
    | some t => accept [] t
    | none => refuse .wrongState s) s

/-- CLEAR_STATS (R109). -/
def execClearStats (s : State) : Out := takeCommand .clearStats (fun s => accept [] (clearAllStats s)) s

/-- A column record on the wire (R190). -/
def columnBytes (c : Column) : List Byte :=
  beBytes 1 ((if c.valid then 1 else 0) + (if c.clipLo then 2 else 0) + (if c.clipHi then 4 else 0))
    ++ beBytes 2 c.min ++ beBytes 2 c.max ++ beBytes 2 c.avgQ6

/-- A bank header on the wire, 33 bytes (R190). R190 gives bits 0 and 1 of byte 30; its other bits are sent as 0 (log 31). -/
def headerBytes (h : Header) : List Byte :=
  beBytes 4 h.sweepNo ++ beBytes 1 (trigKindWire h.trigKind : Nat) ++ beBytes 1 (modeCode h.mode : Nat)
    ++ beBytes 4 h.n ++ beBytes 2 h.p ++ beBytes 4 h.scaleUv ++ beBytes 8 h.offsetUv ++ beBytes 2 h.validCount
    ++ beBytes 2 h.sweepMin ++ beBytes 2 h.sweepMax
    ++ beBytes 1 ((if h.clipLo then 1 else 0) + (if h.clipHi then 2 else 0)) ++ beBytes 2 h.avgDepth

/-- The data of COLUMNS: count returned, header, records (R63, R190). -/
def columnsData (b : Bank) (first n : Nat) : List Byte :=
  beBytes 2 n ++ headerBytes b.header ++ ((List.range n).map fun i => columnBytes (b.col (first + i))).flatten

/-- COLUMNS (R63). -/
def execColumns (ch : Byte) (first count : BitVec 16) (s : State) : Out :=
  takeCommand (.columns ch first count) (fun s =>
    if 4 ≤ ch.toNat ∨ 1000 ≤ first.toNat ∨ count = 0 then refuse .badValue s
    else match s.shownBank ch.toNat with
      | none => refuse .noData s
      | some b =>
        let n := Nat.min count.toNat (1000 - first.toNat)
        { status := if n = count.toNat then .ok else .clamped, data := columnsData b first.toNat n,
          st := requestLend .link ch.toNat s, tie := .columns ch.toNat }) s

/-! ## PANEL_READ (R117, R190) -/

/-- Eight levels in a byte, key k in bit k modulo 8. -/
def levelByte (ks : List Key) : Byte :=
  BitVec.ofNat 8 (ks.foldr (fun k n => 2 * n + (if k.pressed then 1 else 0)) 0)

def chunk8 (ks : List Key) (i : Nat) : List Key := (ks.drop (8 * i)).take 8

/-- The 55 bytes of the snapshot (R190). -/
def panelBytes (p : Panel) : List Byte :=
  ((List.range 6).map fun i => levelByte (chunk8 p.keys i))
    ++ ((List.range 24).map fun i =>
      BitVec.ofNat 8 ((p.keys.getD (2 * i) Key.reset).count * 16 + (p.keys.getD (2 * i + 1) Key.reset).count))
    ++ (p.encs.map fun e => BitVec.ofInt 8 e.pending) ++ (p.encs.map fun e => BitVec.ofInt 8 e.carry) ++ [p.mask]

def panelSnap (p : Panel) : PanelSnap :=
  { counts := p.keys.map (·.count), pending := p.encs.map (·.pending), mask := p.mask }

/-- PANEL_READ: the snapshot is taken with the command byte; the subtraction waits for the end of the response (R117). -/
def execPanelRead (s : State) : Out :=
  takeCommand .panelRead (fun s =>
    { status := .ok, data := panelBytes s.panel, st := s, tie := .panel (panelSnap s.panel) }) s

end Sys2Proof.Machine
end

