-- ==== Sys2Proof/Machine/Measure.lean ====
section
/-! DEFINITION. The measurement unit's pass completion (R95 to R111). -/

namespace Sys2Proof.Machine

/-! ## Columns and thresholds (R98, R100) -/

/-- The columns of a gate, in column order; an invalid one is `none` (R98). -/
def gateColumns (b : Bank) (lo hi : Nat) : List (Option Column) :=
  (List.range (hi + 1 - lo)).map fun i =>
    let c := b.col (lo + i)
    if c.valid then some c else none

/-- Thresholds over the gated columns (R100). -/
structure Levels where
  top  : Int
  base : Int
  mid  : Int
  lo   : Int
  hi   : Int
  hyst : Int
  deriving DecidableEq, Repr

def levelsOf (first : Column) (rest : List Column) : Levels :=
  let top : Int := 64 * (rest.foldl (fun m c => Nat.max m c.max) first.max : Nat)
  let base : Int := 64 * (rest.foldl (fun m c => Nat.min m c.min) first.min : Nat)
  { top := top, base := base, mid := (top + base) / 2, lo := base + (top - base) / 10,
    hi := base + 9 * (top - base) / 10, hyst := max 64 ((top - base) / 20) }

/-! ## Crossings (R101, R102) -/

/-- Whether a detector of a direction arms at a value (R101). -/
def armsAt (rising : Bool) (t h v : Int) : Bool := if rising then decide (v < t - h) else decide (t + h < v)

/-- Whether a pair of values crosses the threshold (R101). -/
def crosses (rising : Bool) (t v w : Int) : Bool :=
  if rising then decide (v < t ∧ t ≤ w) else decide (t < v ∧ w ≤ t)

/-- The position of a crossing in 1/16 column (R102). For a falling crossing both differences are negative, so the
quotient is that of their magnitudes. -/
def crossX16 (rising : Bool) (t v w : Int) (c : Nat) : Int :=
  16 * c + (if rising then (t - v) * 16 / (w - v) else (v - t) * 16 / (v - w))

/-- One detector's walk over the gated columns from column c: the positions of its crossings, in order (R101). -/
def crossings (rising : Bool) (t h : Int) : Bool → Nat → List (Option Int) → List Int
  | _, _, [] => []
  | armed, c, none :: rest => crossings rising t h armed (c + 1) rest
  | armed, c, some v :: rest =>
    let armed := armed || armsAt rising t h v
    match rest with
    | some w :: _ =>
      if armed && crosses rising t v w then crossX16 rising t v w c :: crossings rising t h false (c + 1) rest
      else crossings rising t h armed (c + 1) rest
    | _ => crossings rising t h armed (c + 1) rest

/-- A time from a difference of positions, in ps (R102). -/
def timePs (d : Int) (n : Nat) : Int := (d * n * 125 + 1) / 2

/-- From the first of the opening crossings to the first of the closing ones that lies after it (R105, R106). -/
def fromTo (n : Nat) (opening closing : List Int) : Option Int :=
  match opening with
  | [] => none
  | a :: _ => (closing.find? fun b => decide (a < b)).map fun b => timePs (b - a) n

/-- PERIOD: from the first to the second rising crossing of mid (R104). -/
def periodOf (n : Nat) (rises : List Int) : Option Int :=
  match rises with
  | a :: b :: _ => some (timePs (b - a) n)
  | _ => none

/-- DELAY: from the trigger column to the first crossing of mid in either direction (R107). -/
def delayOf (n p : Nat) (rises falls : List Int) : Option Int :=
  let first := match rises, falls with
    | a :: _, b :: _ => some (min a b)
    | a :: _, [] => some a
    | [], b :: _ => some b
    | [], [] => none
  first.map fun x => timePs (x - 16 * p) n

/-! ## The value of each kind (R103 to R107) -/

/-- MEASUREMENT.KIND from PERIOD on (R99). -/
def timeKind (kind : Int) : Bool := decide (4 ≤ kind)

/-- vm: the mean of avg_q6 rounded half up (R103). -/
def meanOfColumns (cs : List Column) : Int :=
  let sum := (cs.map (·.avgQ6)).sum
  let k := cs.length
  ((2 * sum + k) / (2 * k) : Nat)

/-- The voltage kinds: VMAX 0, VMIN 1, VPP 2, VMEAN 3 (R103). -/
def voltageValue (h : Header) (l : Levels) (cs : List Column) (kind : Int) : Int :=
  if kind = 0 then valueUv l.top h.scaleUv h.offsetUv
  else if kind = 1 then valueUv l.base h.scaleUv h.offsetUv
  else if kind = 2 then roundAway ((l.top - l.base) * h.scaleUv) 6400
  else valueUv (meanOfColumns cs) h.scaleUv h.offsetUv

/-- The time kinds: PERIOD 4, FREQ 5, PWIDTH 6, NWIDTH 7, RISE 8, FALL 9, DELAY 10; none where a crossing is missing
(R104 to R107). -/
def timeValue (h : Header) (l : Levels) (start : Nat) (vs : List (Option Int)) (kind : Int) : Option Int :=
  let cr := fun (rising : Bool) (t : Int) => crossings rising t l.hyst false start vs
  if kind = 4 then periodOf h.n (cr true l.mid)
  else if kind = 5 then (periodOf h.n (cr true l.mid)).map fun p => roundAway 1000000000000000 p
  else if kind = 6 then fromTo h.n (cr true l.mid) (cr false l.mid)
  else if kind = 7 then fromTo h.n (cr false l.mid) (cr true l.mid)
  else if kind = 8 then fromTo h.n (cr true l.lo) (cr true l.hi)
  else if kind = 9 then fromTo h.n (cr false l.hi) (cr false l.lo)
  else delayOf h.n h.p (cr true l.mid) (cr false l.mid)

/-- Rows 4 to 7 of R99 on a bank: the status, and the value where there is one. -/
def bankResult (b : Bank) (m : Member) : MStatus × Option Int :=
  let gate := gateColumns b m.gateLo m.gateHi
  match gate.filterMap id with
  | c :: d :: rest =>
    let cs := c :: d :: rest
    let l := levelsOf c (d :: rest)
    let ok : MStatus := if cs.any fun c => c.clipLo || c.clipHi then .clipped else .valid
    if timeKind m.kind then
      if l.top - l.base < 256 then (.noEdge, none)
      else match timeValue b.header l m.gateLo (gate.map fun o => o.map fun c => (c.avgQ6 : Int)) m.kind with
        | some v => (ok, some v)
        | none => (.noEdge, none)
    else (ok, some (voltageValue b.header l cs m.kind))
  | _ => (.tooFew, none)

/-- A member's status and value (R99). Without a lent bank there is no data (log 24). -/
def State.memberResult (s : State) (m : Member) : MStatus × Option Int :=
  match m.start with
  | some st => (st, none)
  | none => match s.lentBank .measurement m.source with
    | some b => bankResult b m
    | none => (.noData, none)

/-! ## Writing the results (R95, R108, R110) -/

/-- STAT_COUNT's end (R108). -/
def countMax : Int := 4294967295

/-- A result joins the statistics, unless they are frozen (R108). -/
def statUpdate (i : Nat) (v : Int) (s : State) : State :=
  let n := s.get (Fld.meStatCount i)
  if n < countMax then
    let sum := s.meas.sums.getD i 0 + v
    let s := { s with meas := { s.meas with sums := s.meas.sums.set i sum } }
    let s := setVal (Fld.meStatMin i) (if n = 0 then v else min (s.get (Fld.meStatMin i)) v) s
    let s := setVal (Fld.meStatMax i) (if n = 0 then v else max (s.get (Fld.meStatMax i)) v) s
    setVal (Fld.meStatCount i) (n + 1) (setVal (Fld.meStatMean i) (roundAway sum (n + 1)) s)
  else s

/-- OUTCOME: NONE 0, BELOW 1, INSIDE 2, ABOVE 3 (R110). `tested` says the status is VALID or CLIPPED. -/
def outcomeOf (tested : Bool) (mode last lo hi : Int) : Int :=
  if mode = 0 ∨ tested = false then 0 else if last < lo then 1 else if hi < last then 3 else 2

/-- BELOW or ABOVE is a limit failure (R110). -/
def isFailure (outcome : Int) : Bool := decide (outcome = 1 ∨ outcome = 3)

/-- The limit test (R110); whether the member calls for a STOP, LIMIT_MODE 2 (R111). -/
def limitTest (i : Nat) (tested : Bool) (s : State) : State × Bool :=
  let mode := s.get (Fld.meLimitMode i)
  let o := outcomeOf tested mode (s.get (Fld.meLast i)) (s.get (Fld.meLimitLo i)) (s.get (Fld.meLimitHi i))
  let s := setVal (Fld.meOutcome i) o s
  if isFailure o then
    (setFail i (setVal (Fld.meFailCount i) (min 65535 (s.get (Fld.meFailCount i) + 1)) s), decide (mode = 2))
  else (s, false)

/-- One member at completion (R95): skipped where its stamp has moved. -/
def completeMember (exclude : Bool) (m : Member) (s : State) : State × Bool :=
  if s.meas.stamps.getD m.inst 0 ≠ m.stamp then (s, false)
  else
    let r := s.memberResult m
    let s := setVal (Fld.meStatus m.inst) (mstatusCode r.1) s
    match r.2 with
    | some v =>
      let s := setVal (Fld.meLast m.inst) v s
      limitTest m.inst true (if exclude then s else statUpdate m.inst v s)
    | none => limitTest m.inst false s

/-- The members in instance order; whether any calls for a STOP (R95). -/
def completeMembers (exclude : Bool) : List Member → State × Bool → State × Bool
  | [], acc => acc
  | m :: ms, acc =>
    let r := completeMember exclude m acc.1
    completeMembers exclude ms (r.1, acc.2 || r.2)

/-- What ends a pass: one STOP if called for, the lends released, MEAS_DONE, and IDLE (R95, R111). -/
def passFinish (p : Pass) (stop : Bool) (s : State) : State :=
  let s := if stop then takeStop s else s
  let s := p.lent.foldl (fun s ch => releaseLend .measurement ch s) s
  raise .measDone { s with meas := { s.meas with pass := none } }

/-- PASS_COMPLETION (R95). With no pass running the completion timer is idle and nothing happens (log 6). -/
def execPassCompletion (s : State) : Out :=
  awake s
    (match s.meas.pass with
      | none => s
      | some p =>
        let r := completeMembers p.exclude p.members (s, false)
        passFinish p r.2 r.1)

end Sys2Proof.Machine
end

