-- ==== Sys2Proof/Machine/Panel.lean ====
section
/-! DEFINITION. The panel unit (R112 to R130): debounce, encoder decoding, what a binding does with a press or a
detent, carry retries and the lamp chain. -/

namespace Sys2Proof.Machine

/-! ## The table and its notices -/

def modKey (k : Nat) (g : Key → Key) (s : State) : State :=
  { s with panel := { s.panel with keys := s.panel.keys.modify k g } }

/-- A press counted for the host (R121). -/
def notifyPress (k : Nat) (s : State) : State :=
  raise .panelInput (modKey k (fun x => { x with count := Nat.min 15 (x.count + 1) }) s)

/-- A detent counted for the host, with its multiplied steps (R121). -/
def notifyDetent (e : Nat) (steps : Int) (s : State) : State :=
  raise .panelInput (modEnc e (fun x => { x with pending := limit (-127) 127 (x.pending + steps) }) s)

/-- The category of a target in the changed mask (R125, bits as R190). -/
def categoryOf (f : FieldId) : Byte :=
  match f.kind with
  | .channel => BitVec.ofNat 8 (2 ^ f.inst)
  | .timebase => 16
  | .trigger => 32
  | .cursor => 64
  | .measurement => 128
  | _ => 0

/-- A taken adjustment (R125). -/
def markChanged (f : FieldId) (s : State) : State :=
  raise .panelChanged { s with panel := { s.panel with mask := s.panel.mask ||| categoryOf f } }

/-- The kind a control's binding is taken as (R120): NONE 0, NOTIFY 1, ADJUST 2, TOGGLE 3, CYCLE 4, ACTION 5. -/
def State.actingKind (s : State) (control : Nat) : Int :=
  let kind := s.get (Fld.biKind control)
  if kind = 0 then 0
  else if s.setup.starting then 1
  else if isOn (s.get Fld.paLock) && !isOn (s.get (Fld.biLockExempt control)) then 1
  else kind

/-! ## Adjustments (R122, R123, R124) -/

/-- The range of a numeric target, from the effective values it depends on (R122); those of a waiting recall count as for R8's
clamp (log 41). -/
def State.adjustRange (s : State) (f : FieldId) (lo hi : Int) : Int × Int :=
  match f.kind, f.num with
  | .channel, 4 =>
    let lim := offsetLimit (s.eff (Fld.chScale f.inst)) (s.eff (Fld.chProbe f.inst))
    (-lim, lim)
  | .cursor, 2 => (0, positionMax (s.eff (Fld.cuAxis f.inst)))
  | .measurement, 7 => (limitedTo (Fld.meLimitLo f.inst) (s.eff (Fld.meLimitLo f.inst)), hi)
  | .trigger, 8 => (limitedTo Fld.trAlStable (s.eff Fld.trAlStable), hi)
  | _, _ => (lo, hi)

/-- The step size q (R122). -/
def State.stepSize (s : State) (control : Nat) (f : FieldId) : Int :=
  let step := s.get (Fld.biStep control)
  if isOn (s.get (Fld.biScaled control)) then
    if f = Fld.trLevelUv then step * s.get (Fld.chScaleUv s.source) / 100
    else if f.kind = .channel ∧ f.num = 4 then step * s.get (Fld.chScaleUv f.inst) / 100
    else step
  else step

/-- A raw value brought to lo-hi, limited or wrapped (R122). -/
def intoRange (wrap : Bool) (lo hi raw : Int) : Int :=
  if wrap then lo + (raw - lo) % (hi - lo + 1) else limit lo hi raw

/-- The value an ADJUST of s steps gives (R122). -/
def State.adjusted (s : State) (control : Nat) (f : FieldId) (lo hi steps : Int) : Int :=
  let r := s.adjustRange f lo hi
  let v := intoRange (isOn (s.get (Fld.biWrap control))) r.1 r.2 (s.eff f + steps * s.stepSize control f)
  if f = Fld.trHoldoff then tens v else v

/-- A new value submitted by the panel (R123): a CONFIG target is checked as a write and written live, any other goes to
the store; none where it is refused. -/
def submit (f : FieldId) (sp : FieldSpec) (v : Int) (s : State) : Option State :=
  if sp.cls = .config then
    match s.writeCheck .live f sp v with
    | some _ => none
    | none => some (configWrite f (s.storedValue .live f sp v).1 s)
  else panelAdjust f v s

/-- An encoder's ADJUST with the given steps on top of its carry (R122, R123). -/
def adjust (e : Nat) (steps : Int) (s : State) : State :=
  let control := 48 + e
  match s.namesField (s.get (Fld.biTarget control)) with
  | some (f, sp) =>
    match sp.ty with
    | .numeric lo hi =>
      let n := limit (-127) 127 ((s.panel.encs.getD e Enc.reset).carry + steps)
      let v := s.adjusted control f lo hi n
      if v = s.eff f then setCarry control 0 s
      else match submit f sp v s with
        | some t => markChanged f (setCarry control 0 t)
        | none => setCarry control n s
    | _ => s
  | none => s

/-- The value of a TOGGLE or CYCLE of a field (R124): off becomes on, and on off. A waiting recall's value outside off and on counts as
on, so that what applies is in the set (R25; log 41). -/
def steppedValue (toggle : Bool) (ty : FType) (d e : Int) : Int :=
  if toggle then ofBool (!isOn e)
  else match ty with
    | .enum n => (e + d) % n
    | _ => (e + d) % 2

/-- A TOGGLE or CYCLE by a control, in direction d; none where it is refused (R124). -/
def stepTarget (control : Nat) (toggle : Bool) (d : Int) (s : State) : Option State :=
  match s.namesField (s.get (Fld.biTarget control)) with
  | some (f, sp) => (submit f sp (steppedValue toggle sp.ty d (s.eff f)) s).map (markChanged f)
  | none => none

/-! ## Actions (R126) -/

/-- LEVEL50 (R126). -/
def level50 (s : State) : State :=
  match s.shownBank s.source with
  | none => s
  | some b =>
    if b.header.validCount = 0 then s
    else
      let c : Int := ((b.header.sweepMin + b.header.sweepMax) / 2 : Nat)
      let v := levelOfCode c (s.get (Fld.chScaleUv s.source)) (s.get (Fld.chOffsetUv s.source))
      match panelAdjust Fld.trLevelUv v s with
      | some t => markChanged Fld.trLevelUv t
      | none => s

/-- LOCAL (R126). -/
def unlock (s : State) : State := setVal Fld.paLock 0 s

/-- RUNSTOP 0, SINGLE 1, FORCE 2, LEVEL50 3, CLEARSTATS 4, LOCAL 5 (R126). -/
def panelAction (a : Int) (s : State) : State :=
  if a = 0 then takeRunStop s
  else if a = 1 then takeSingle s
  else if a = 2 then (takeForce s).getD s
  else if a = 3 then level50 s
  else if a = 4 then clearAllStats s
  else unlock s

/-! ## Keys (R113) -/

/-- A press handed to its binding (R120, R121, R124, R126). -/
def press (k : Nat) (s : State) : State :=
  let kind := s.actingKind k
  if kind = 1 then notifyPress k s
  else if kind = kindToggle then (stepTarget k true 1 s).getD (notifyPress k s)
  else if kind = kindCycle then (stepTarget k false 1 s).getD (notifyPress k s)
  else if kind = kindAction then panelAction (s.get (Fld.biAction k)) s
  else s

/-- One scan of one key: the key after it, and whether it was pressed (R113). -/
def debounce (raw : Bool) (k : Key) : Key × Bool :=
  if raw = k.pressed then ({ k with agree := 0 }, false)
  else if k.agree + 1 < 3 then ({ k with agree := k.agree + 1 }, false)
  else ({ k with pressed := raw, agree := 0 }, raw)

/-- One scan of one key with what follows from it. -/
def scanKey (raw : Bool) (k : Nat) (s : State) : State :=
  let r := debounce raw (s.panel.keys.getD k Key.reset)
  let s := modKey k (fun _ => r.1) s
  if r.2 then press k s else s

/-- KEY_SCAN (R113): the keys in ascending order (log 14). -/
def execKeyScan (raw : BitVec 48) (s : State) : Out :=
  awake s ((List.range 48).foldl (fun s k => scanKey (raw.getLsbD k) k s) s)

/-! ## Encoders (R114, R115) -/

/-- The phase after a transition between two different pairs (R114). -/
def phaseAfter (phase : Int) : Bool × Bool → Bool × Bool → Int
  | (true, true), (true, false) | (true, false), (false, false)
  | (false, false), (false, true) | (false, true), (true, true) => phase + 1
  | (true, true), (false, true) | (false, true), (false, false)
  | (false, false), (true, false) | (true, false), (true, true) => phase - 1
  | _, _ => 0

/-- The interval count's end: 50 ms and more are alike (R115). -/
def sinceMax : Nat := 200

/-- One sample of one encoder: the encoder after it, and the sign of the detent made, or 0 (R114). The time since the
previous detent grows by a sample (R115, log 15). -/
def sampleEncoder (pair : Bool × Bool) (e : Enc) : Enc × Int :=
  let e := { e with since := e.since.map fun n => Nat.min sinceMax (n + 1) }
  match e.last with
  | none => ({ e with last := some pair }, 0)
  | some old =>
    if pair = old then (e, 0)
    else
      let p := phaseAfter e.phase old pair
      if pair = (true, true) then
        ({ e with last := some pair, phase := 0 }, if p = 4 then 1 else if p = -4 then -1 else 0)
      else ({ e with last := some pair, phase := p }, 0)

/-- The multiplier k (R115): 20 ms are 80 samples, 50 ms 200. -/
def multiplier (accel : Bool) (since : Option Nat) : Int :=
  if accel then
    match since with
    | none => 1
    | some n => if n < 80 then 5 else if n < 200 then 2 else 1
  else 1

/-- A detent handed to its binding (R115, R120 to R124). -/
def detent (e : Nat) (sign : Int) (s : State) : State :=
  let control := 48 + e
  let k := multiplier (isOn (s.get (Fld.biAccel control))) (s.panel.encs.getD e Enc.reset).since
  let steps := sign * k
  let s := modEnc e (fun x => { x with since := some 0 }) s
  let kind := s.actingKind control
  if kind = 1 then notifyDetent e steps s
  else if kind = kindAdjust then adjust e steps s
  else if kind = kindToggle then (stepTarget control true sign s).getD (notifyDetent e steps s)
  else if kind = kindCycle then (stepTarget control false sign s).getD (notifyDetent e steps s)
  else s

/-- One encoder at one sample with what follows from it. -/
def stepEncoder (pair : Bool × Bool) (e : Nat) (s : State) : State :=
  let r := sampleEncoder pair (s.panel.encs.getD e Enc.reset)
  let s := modEnc e (fun _ => r.1) s
  if r.2 = 0 then s else detent e r.2 s

/-- ENCODER_SAMPLE (R114): the encoders in ascending order (log 14). -/
def execEncoderSample (pairs : BitVec 24) (s : State) : Out :=
  awake s ((List.range 12).foldl
    (fun s e => stepEncoder (pairs.getLsbD (2 * e + 1), pairs.getLsbD (2 * e)) e s) s)

/-! ## Carry retries (R123) -/

/-- One encoder's retry (R123). -/
def retryCarry (e : Nat) (s : State) : State :=
  if (s.panel.encs.getD e Enc.reset).carry = 0 then s
  else if s.actingKind (48 + e) = kindAdjust then adjust e 0 s
  else setCarry (48 + e) 0 s

/-- CARRY_RETRY: taken where the store has freed room since the last one (R123, log 18). -/
def execCarryRetry (s : State) : Out :=
  awake s
    (if s.panel.retryDue then
      (List.range 12).foldl (fun s e => retryCarry e s) { s with panel := { s.panel with retryDue := false } }
    else s)

/-! ## Lamps (R129, R130) -/

/-- The live value of a lamp's FIELD. -/
def State.lampField (s : State) (i : Nat) : Option Int :=
  (s.namesField (s.get (Fld.laField i))).map fun p => s.get p.1

/-- A lamp's condition (R129): OFF 0, ON 1, EQUALS 2, NONZERO 3, RUNNING 4, ARMED 5, TRIGGERED 6, NOTICE 7. -/
def State.lampCondition (s : State) (i : Nat) : Bool :=
  let src := s.get (Fld.laSource i)
  let v := s.get (Fld.laValue i)
  if src = 1 then true
  else if src = 2 then s.lampField i == some v
  else if src = 3 then
    match s.lampField i with
    | some x => x != 0
    | none => false
  else if src = 4 then s.sweep.acq != .stopped
  else if src = 5 then s.sweep.acq == .arming || s.sweep.acq == .waiting
  else if src = 6 then s.get Fld.trLastKind == 1
  else if src = 7 then decide (0 ≤ v ∧ v ≤ 18) && (pendingSources s.notices).getLsbD v.toNat
  else false

/-- Whether a lamp is lit (R129). -/
def State.lampLit (s : State) (i : Nat) : Bool :=
  s.lampCondition i && (!isOn (s.get (Fld.laBlink i)) || s.panel.blinkOn)

/-- LAMP_REFRESH: the chain takes the 32 states together (R130). -/
def execLampRefresh (s : State) : Out :=
  awake s { s with panel := { s.panel with lamps := (List.range 32).map s.lampLit } }

/-- BLINK_TOGGLE: the blink clock's other half (R129). -/
def execBlinkToggle (s : State) : Out :=
  awake s { s with panel := { s.panel with blinkOn := !s.panel.blinkOn } }

end Sys2Proof.Machine
end

