-- ==== Sys2Proof/Machine/RecordStore.lean ====
section
/-! DEFINITION. The record and group commands of the link (R5 to R18). -/

namespace Sys2Proof.Machine

/-- Checks 1 and 2 of R7, R2 and R3: the field that a handle and field number name. -/
def State.fieldAt (s : State) (handle : BitVec 16) (field : Byte) : Except Status (FieldId × FieldSpec) :=
  match s.lookup (handleOf handle.toNat) with
  | none => .error .noRecord
  | some (k, i) =>
    match specAt k field.toNat with
    | none => .error .noField
    | some sp => .ok ({ kind := k, inst := i, num := field.toNat }, sp)

/-- The data of a text: its length and its characters (R189). -/
def textData (t : List Byte) : List Byte := beBytes 1 t.length ++ t

/-- READ's data: flags, then the value or the text (R5, R6, R189). R189 gives the flags byte's bit 0 alone; bits 7-1 are sent
as 0 (log 31). -/
def readData (s : State) (f : FieldId) (effective : Bool) : List Byte :=
  beBytes 1 (ofBool (s.pendingField f))
    ++ (if f.kind = .object ∧ f.num = 10 then
          textData (if effective then s.effText f.inst else (s.recAt .object f.inst).text)
        else beBytes 8 (if effective then s.eff f else s.get f))

/-- READ (R5, R6). -/
def execRead (handle : BitVec 16) (field option : Byte) (s : State) : Out :=
  takeCommand (.read handle field option) (fun s =>
    match s.fieldAt handle field with
    | .error e => refuse e s
    | .ok (f, _) =>
      if 2 ≤ option.toNat then refuse .badValue s else accept (readData s f (option == 1)) s) s

/-- The accepting status of a write (R7, R8). -/
def writeStatus (clamped : Bool) : Status := if clamped then .clamped else .ok

/-- A numeric write along its path, checks 3 to 6 of R7. -/
def numericWrite (f : FieldId) (sp : FieldSpec) (v : Int) (s : State) : Reply :=
  let p := s.pathFor sp.cls
  match s.writeCheck p f sp v with
  | some e => refuse e s
  | none =>
    let w := s.storedValue p f sp v
    match storeWrite p f (.int w.1) s with
    | .error e => refuse e s
    | .ok t => { status := writeStatus w.2, data := beBytes 8 w.1, st := t, tie := .none }

/-- WRITE (R7). -/
def execWrite (handle : BitVec 16) (field : Byte) (value : BitVec 64) (s : State) : Out :=
  takeCommand (.write handle field value) (fun s =>
    match s.fieldAt handle field with
    | .error e => refuse e s
    | .ok (f, sp) => numericWrite f sp value.toInt s) s

/-- A text as stored (R9). -/
def storedText (t : List Byte) : List Byte := (t.take 32).map printed

/-- WRITE_TEXT (R9). -/
def execWriteText (handle : BitVec 16) (field : Byte) (text : List Byte) (s : State) : Out :=
  takeCommand (.writeText handle field text) (fun s =>
    match s.fieldAt handle field with
    | .error e => refuse e s
    | .ok (f, sp) =>
      if sp.cls = .result ∨ (f.kind = .object ∧ f.num = 0) then refuse .readOnly s
      else if ¬ (f.kind = .object ∧ f.num = 10) then refuse .badValue s
      else match storeWrite (s.pathFor sp.cls) f (.text (storedText text)) s with
        | .error e => refuse e s
        | .ok t =>
          { status := writeStatus (decide (32 < text.length)), data := textData (storedText text), st := t, tie := .none }) s

/-- The lowest free instance of a kind (R12). -/
def State.freeInstance (s : State) (k : Kind) : Option Nat := (List.range (kindSize k)).find? fun i => !s.isLive k i

/-- CREATE (R12). Its two refusals are taken in the order R12 lists them: an object kind outside the set is BAD_VALUE even with
every object live (DESIGN CHOICE, log 40). -/
def execCreate (kind objectKind : Byte) (s : State) : Out :=
  takeCommand (.create kind objectKind) (fun s =>
    match kindOf kind.toNat with
    | none => refuse .badValue s
    | some k =>
      if kindCreated k = false ∨ (k = .object ∧ 7 ≤ objectKind.toNat) then refuse .badValue s
      else match s.freeInstance k with
        | none => refuse .tableFull s
        | some i =>
          let t := createRec k i s
          let t := foldIf (k == .object) (setVal (Fld.obKind i) objectKind.toNat) t
          accept (beBytes 2 (handleCode k i (s.recAt k i).gen : Nat)) t) s

/-- RETIRE (R13). The two refusals of R13 are taken in the order it lists them, which it does not state to be their order: a handle
of a fixed kind is refused with BAD_VALUE whatever its instance and generation, though R2 calls some such handles NO_RECORD (DESIGN
CHOICE, log 40). Entries a retirement removes may let other changes apply (R23). -/
def execRetire (handle : BitVec 16) (s : State) : Out :=
  takeCommand (.retire handle) (fun s =>
    let h := handleOf handle.toNat
    match kindOf h.kind with
    | none => refuse .noRecord s
    | some k =>
      if kindCreated k = false then refuse .badValue s
      else match s.lookup h with
        | none => refuse .noRecord s
        | some (k, i) => accept [] (examine (retireRec k i s))) s

/-- GROUP_OPEN (R16). -/
def execGroupOpen (g : Byte) (s : State) : Out :=
  takeCommand (.groupOpen g) (fun s =>
    if 3 ≤ g.toNat then refuse .badValue s
    else if s.holdingGroup.isSome ∨ (s.store.group g.toNat).state ≠ .empty then refuse .groupBusy s
    else accept [] (setGroup g.toNat { state := .holding, entries := [], reserved := 0 } s)) s

/-- Steps 3 to 5 of R17 on a host group. -/
def launchGroup (g : Nat) (s : State) : Reply :=
  let grp := s.store.group g
  if grp.entries.isEmpty then accept [] (setGroup g Group.reset s)
  else if 16 ≤ s.store.queue.length then refuse .queueFull s
  else accept [] (joinQueue (.group g) grp.entries (setGroup g { state := .launched, entries := [], reserved := 0 } s))

/-- GROUP_LAUNCH (R17). -/
def execGroupLaunch (g : Byte) (s : State) : Out :=
  takeCommand (.groupLaunch g) (fun s =>
    if 3 ≤ g.toNat then refuse .badValue s
    else if (s.store.group g.toNat).state ≠ .holding then refuse .wrongState s
    else launchGroup g.toNat s) s

/-- GROUP_DISCARD (R18); the entries returned to the pool owe the carries a retry (R123). -/
def execGroupDiscard (g : Byte) (s : State) : Out :=
  takeCommand (.groupDiscard g) (fun s =>
    if 3 ≤ g.toNat then refuse .badValue s
    else match (s.store.group g.toNat).state with
      | .holding => accept [] (oweRetry (setGroup g.toNat Group.reset s))
      | .launched => refuse .wrongState s
      | .empty => accept [] s) s

/-- The entries of a group as GROUP_STATUS counts them: while HOLDING those it holds, group 3's unfilled ones among
them; while LAUNCHED those of its change (R16, R18, log 17). -/
def State.groupCount (s : State) (g : Nat) : Nat :=
  let grp := s.store.group g
  match grp.state with
  | .empty => 0
  | .holding => grp.entries.length + grp.reserved
  | .launched =>
    let o : Origin := if g = 3 then .recall else .group g
    ((s.store.queue.filter fun c => c.origin == o).map fun c => c.entries.length).sum

/-- The data of GROUP_STATUS (R18, R189). -/
def groupStatusData (s : State) : List Byte :=
  ([0, 1, 2, 3].map fun g =>
      beBytes 1 (groupStateCode (s.store.group g).state) ++ beBytes 1 (s.groupCount g)).flatten
    ++ beBytes 1 s.poolFree ++ beBytes 1 s.store.queue.length ++ beBytes 1 s.store.dropped

/-- GROUP_STATUS: reports, and sets the dropped-entry count back to 0 (R18). -/
def execGroupStatus (s : State) : Out :=
  takeCommand .groupStatus (fun s => accept (groupStatusData s) { s with store := { s.store with dropped := 0 } }) s

end Sys2Proof.Machine
end

