-- ==== Sys2Proof/Machine/Storage.lean ====
section
/-! DEFINITION. What stands in a setup slot (R161, R191): the SECDED code, entries, headers, the judgement of a scan
(R163), and what a flash step leaves, whole or cut off (R165, R169, R191). -/

namespace Sys2Proof.Machine

/-! ## The SECDED code (R191) -/

/-- The bits of bytes, from the most significant bit of the first on. -/
def bitsOf (bs : List Byte) : List Bool := (bs.map fun b => [7, 6, 5, 4, 3, 2, 1, 0].map fun i => b.getLsbD i).flatten

/-- The positions of k data bits: those of 1 to k + 7 that are not powers of two, ascending. -/
def dataPositions (k : Nat) : List Nat :=
  (List.range (k + 8)).filter fun p => p != 0 && !([1, 2, 4, 8, 16, 32, 64].contains p)

def parityOf (bits : List Bool) : Bool := bits.foldl xor false

/-- Check bits 0-6 of the data: bit i is the exclusive-or of the data bits whose position has bit i set, so the seven
together are the exclusive-or of the positions of the set bits. -/
def checkBits (bits : List Bool) : Nat :=
  ((dataPositions bits.length).zip bits).foldl (fun a p => if p.2 then a ^^^ p.1 else a) 0

/-- The check byte over bytes (R191). -/
def checkByte (bs : List Byte) : Byte :=
  let bits := bitsOf bs
  let c : Byte := BitVec.ofNat 8 (checkBits bits)
  if xor (parityOf bits) (parityOf (bitsOf [c])) then c ||| 0x80 else c

/-- What the test of a check gives (R191). -/
inductive Checked where
  | clean (data : List Byte)
  | corrected (data : List Byte)
  | uncorrectable
  deriving DecidableEq, Repr

/-- Turn data bit j, counted from the most significant bit of the first byte. -/
def flipBit (j : Nat) (bs : List Byte) : List Byte :=
  bs.modify (j / 8) fun b => b ^^^ BitVec.ofNat 8 (2 ^ (7 - j % 8))

/-- Test the check of data bytes as read, by R191's list of outcomes; three or more wrong bits that look like one are corrected
as that one (log 35). -/
def testCheck (data : List Byte) (check : Byte) : Checked :=
  let bits := bitsOf data
  let syndrome := (check &&& 0x7F).toNat ^^^ checkBits bits
  let parity := xor (parityOf bits) (parityOf (bitsOf [check]))
  if parity then
    if syndrome = 0 ∨ [1, 2, 4, 8, 16, 32, 64].contains syndrome = true then .corrected data
    else match (dataPositions bits.length).findIdx? fun p => p == syndrome with
      | some j => .corrected (flipBit j data)
      | none => .uncorrectable
  else if syndrome = 0 then .clean data
  else .uncorrectable

/-! ## Entries and headers (R161, R191) -/

/-- The 11 bytes of an entry: field id, value, check. -/
def entryBytes (e : Nat × Int) : List Byte :=
  let data := beBytes 2 e.1 ++ beBytes 8 e.2
  data ++ [checkByte data]

/-- The kind byte of a slot: SETUP 1 for slots 0-14, CALIBRATION 2 for slot 15 (R161, R191). -/
def slotKind (slot : Nat) : Byte := if slot = 15 then 2 else 1

/-- Bytes 1-15 of a header: kind, count, format 1, zeros, check, zero. -/
def headerFields (slot count : Nat) : List Byte :=
  let data := [slotKind slot, BitVec.ofNat 8 count, 1] ++ List.replicate 10 0
  data ++ [checkByte data, 0]

/-- A header as read: marker, kind, count, format. -/
structure SlotHeader where
  marker : Byte
  kind   : Byte
  count  : Nat
  format : Byte
  deriving DecidableEq, Repr

/-- The header of 16 bytes as read, corrected where it can be; none where it is uncorrectable (R191), as it is with a wrong bit
in byte 15, which the code does not cover (log 35). -/
def readHeader (bs : List Byte) : Option SlotHeader :=
  let data := (bs.drop 1).take 13
  let fields := fun (d : List Byte) =>
    if (d.drop 3).all (· == 0) && bs.getD 15 0 == 0 then
      some { marker := bs.getD 0 0, kind := d.getD 0 0, count := (d.getD 1 0).toNat, format := d.getD 2 0 }
    else none
  match testCheck data (bs.getD 14 0) with
  | .clean d => fields d
  | .corrected d => fields d
  | .uncorrectable => none

/-- SEALED (R191). -/
def sealed : Byte := 0xA5

def isBlank (bs : List Byte) : Bool := bs.all (· == blankByte)

/-- The greatest entry count of a slot (R163). -/
def maxCount (slot : Nat) : Nat := if slot = 15 then 40 else 139

/-! ## The scan (R163) -/

/-- A scan's judgement of a slot; `badCount` is the count a BAD entry shows (log 11). -/
def judgeSlot (m : Memory) (fl : Flips) (badCount : Nat) (slot : Nat) : DirEntry :=
  let header := Memory.bytesAsRead m fl (slotBase slot) 16
  let first := Memory.bytesAsRead m fl (placeBase slot 1) 11
  let bad : DirEntry := { state := .bad, count := badCount }
  if isBlank header then (if isBlank first then { state := .erased, count := 0 } else bad)
  else match readHeader header with
    | none => bad
    | some h =>
      if h.marker ≠ sealed ∨ h.format ≠ 1 then bad
      else if h.kind ≠ slotKind slot ∨ maxCount slot < h.count then bad
      else { state := .valid, count := h.count }

/-! ## Flash steps (R165, R166, R167) -/

/-- Erase the addresses lo to hi - 1: an erased byte is blank. -/
def Memory.wipe (lo hi : Nat) (m : Memory) : Memory := m.filter fun c => decide (c.1 < lo ∨ hi ≤ c.1)

/-- The slot wholly wiped (R165). -/
def wipeSlot (slot : Nat) (m : Memory) : Memory := Memory.wipe (slotBase slot) (slotBase (slot + 1)) m

/-! ## Steps cut off (R165, R169; log 9) -/

/-- A program step cut off: each byte has kept some of the bits it should have turned to zero. The k-th byte's kept
bits are `Config.cutBits (free + k)`. -/
def Memory.programCut (m : Memory) (free a : Nat) : List Byte → Memory
  | [] => m
  | x :: xs =>
    Memory.programCut (Memory.write m a (Memory.read m a &&& (x ||| Config.cutBits free))) (free + 1) (a + 1) xs

/-- A marker program cut off: the free bits it has kept, but none of the markers the spec bars, for which it is `other` (log 9). -/
def markerCut (m : Memory) (free base : Nat) (target : Byte) (barred : List Byte) (other : Byte) : Memory :=
  let v := Memory.read m base &&& (target ||| Config.cutBits free)
  Memory.write m base (if v ∈ barred then other else v)

/-- A void mark that has begun leaves a marker that is neither SEALED (R165, R191) nor blank: the scan finds the slot BAD even where
it was ERASED before (R176). -/
def voidCut (m : Memory) (free base : Nat) : Memory := markerCut m free base 0x00 [sealed, blankByte] 0x00

/-- A seal cut off leaves a marker that does not read as SEALED (R191). -/
def sealCut (m : Memory) (free base : Nat) : Memory := markerCut m free base sealed [sealed] blankByte

/-- The order of a wipe: the header, then the entry places from 184 down to 1 (R165). -/
def wipeOrder (slot : Nat) : List Nat :=
  (List.range 16).map (slotBase slot + ·)
    ++ ((List.range 184).map fun i => (List.range 11).map (placeBase slot (184 - i) + ·)).flatten

/-- A byte whose wipe was cut off: some of its bits have turned to one; a marker never reads as SEALED (R165). -/
def wipedPartly (marker : Bool) (old bits : Byte) : Byte :=
  if marker ∧ (old ||| bits) = sealed then old else old ||| bits

/-- The first bytes in wipe order are blank, and the next may be wiped in part. -/
def wipePart (m : Memory) (free slot : Nat) : Memory :=
  let n := Config.wipeProgress free
  let m1 := ((wipeOrder slot).take n).foldl (fun m a => Memory.write m a blankByte) m
  match (wipeOrder slot)[n]? with
  | some a => Memory.write m1 a (wipedPartly (a == slotBase slot) (Memory.read m1 a) (Config.cutBits (free + 1)))
  | none => m1

/-- A wipe cut off (R165): a first entry place that was not blank is not yet wholly wiped. -/
def wipeCut (m : Memory) (free slot : Nat) : Memory :=
  let m2 := wipePart m free slot
  if isBlank (Memory.bytes m2 (placeBase slot 1) 11) then
    Memory.writeBytes m2 (placeBase slot 1) (Memory.bytes m (placeBase slot 1) 11)
  else m2

/-- The directory entry of a slot (R163). -/
def Setup.dirAt (u : Setup) (slot : Nat) : DirEntry := u.dir.getD slot { state := .erased, count := 0 }

/-- Whether the first entry's first program step has begun, in PROGRAMMING: that beginning makes the directory entry BAD (R163,
R166), and an attempt that has ended had begun. -/
def programBegun (u : Setup) : Bool := decide (0 < u.progress ∨ 0 < u.attempts ∨ (u.dirAt u.slot).state = .bad)

/-- The flash after the step in progress at a cut-off stops, and how many free values that drew (R165, R169). -/
def flashCut (u : Setup) (free : Nat) : Memory × Nat :=
  let m := u.flash
  let base := slotBase u.slot
  match u.phase with
  | .voidMark => (voidCut m free base, 1)
  | .wipe => (wipeCut m free u.slot, 2)
  | .program =>
    if programBegun u then
      match u.snapshot[u.progress]? with
      | some e => (Memory.programCut m free (placeBase u.slot (u.progress + 1)) (entryBytes e), 11)
      | none => (m, 11)
    else (m, 11)
  | .sealHeader => (Memory.programCut m free (base + 1) (headerFields u.slot u.snapshot.length), 15)
  | .sealMarker => (sealCut m free base, 1)
  | _ => (m, 0)

end Sys2Proof.Machine
end

