-- ==== Sys2Proof/Machine/Setup.lean ====
section
/-! DEFINITION. The setup unit (R162 to R178): saving, erasing, recalling, cutting off, the supply monitor and the steps
of the start-up load. -/

namespace Sys2Proof.Machine

/-! ## Small operations -/

def modSetup (g : Setup → Setup) (s : State) : State := { s with setup := g s.setup }

def setPhase (p : Phase) (s : State) : State := modSetup (fun u => { u with phase := p }) s

def setDir (slot : Nat) (e : DirEntry) (s : State) : State := modSetup (fun u => { u with dir := u.dir.set slot e }) s

/-- Only a directory entry's state changes (log 11). -/
def setDirState (slot : Nat) (st : DirState) (s : State) : State :=
  modSetup (fun u => { u with dir := u.dir.modify slot fun e => { e with state := st } }) s

def setFlash (m : Memory) (s : State) : State := modSetup (fun u => { u with flash := m }) s

/-- Counts are 0-255 and saturate (R162). -/
def bump (n : Nat) : Nat := Nat.min 255 (n + 1)

def modCounts (g : Counts → Counts) (s : State) : State := modSetup (fun u => { u with counts := g u.counts }) s

/-- The operation state is IDLE (R162). -/
def State.setupIdle (s : State) : Bool := !s.setupBusy

/-! ## The end of an operation (R162) -/

/-- Results that raise SETUP_DONE; every other raises SETUP_FAIL (R162). -/
def isDone (r : SetupResult) : Bool := r == .ok || r == .okCorrected

/-- An operation ends: its record is written, what it held is discarded, IDLE, and its notice (R162). -/
def endOp (r : SetupResult) (s : State) : State :=
  raise (if isDone r then .setupDone else .setupFail)
    (modSetup (fun u =>
      { u with last := { op := u.op, slot := u.slot, result := r, counts := u.counts }, phase := .idle, op := .none,
               snapshot := [], calBuf := [] }) s)

/-- An operation begins: IDLE's leftovers are cleared (R162). -/
def beginOp (op : SetupOp) (slot : Nat) (phase : Phase) (s : State) : State :=
  modSetup (fun u =>
    { u with phase := phase, op := op, slot := slot, progress := 0, place := 0, attempts := 0, counts := Counts.zero,
             snapshot := [], calBuf := [], lastTaken := none }) s

/-! ## SAVE and ERASE (R164, R168) -/

/-- A value as stored: a gate as its cursor's kind and instance (R164, R191). -/
def storedForm (f : FieldId) (v : Int) : Int :=
  match specAt f.kind f.num with
  | some sp => if sp.ty = .cursorRef ∧ v ≠ noRef then v - v % 16 else v
  | none => v

/-- The fields a snapshot takes of a kind in a setup slot: how many, from field 0 (R164). -/
def savedFields : Kind → Nat
  | .channel => 10 | .timebase => 5 | .trigger => 10 | .cursor => 5 | .measurement => 8 | _ => 0

def fieldsOf (k : Kind) (i lo n : Nat) : List FieldId := (List.range n).map fun j => ⟨k, i, lo + j⟩

/-- The fields of a snapshot, in field id order (R164). -/
def State.snapshotFields (s : State) (slot : Nat) : List FieldId :=
  if slot = 15 then ([0, 1, 2, 3].map fun c => fieldsOf .channel c 10 10).flatten
  else ([Kind.channel, .timebase, .trigger, .cursor, .measurement].map fun k =>
    ((s.liveOf k).map fun i => fieldsOf k i 0 (savedFields k)).flatten).flatten

/-- The snapshot (R164). -/
def State.takeSnapshot (s : State) (slot : Nat) : List (Nat × Int) :=
  (s.snapshotFields slot).map fun f => (fieldCode f, storedForm f (s.get f))

/-- The four checks of R164. -/
def State.flashCheck (s : State) (slot : Nat) (calEn : Bool) : Option Status :=
  if 16 ≤ slot then some .badValue
  else if s.setupIdle = false then some .busy
  else if slot = 15 ∧ calEn = false then some .protectedSlot
  else if s.setup.supplyLow then some .supplyLow
  else none

/-- SAVE (R164). -/
def execSave (slot : Byte) (calEn : Bool) (s : State) : Out :=
  takeCommand (.save slot calEn) (fun s =>
    match s.flashCheck slot.toNat calEn with
    | some e => refuse e s
    | none => accept []
        (modSetup (fun u => { u with snapshot := s.takeSnapshot slot.toNat }) (beginOp .save slot.toNat .pumpCheck s))) s

/-- ERASE (R168). -/
def execErase (slot : Byte) (calEn : Bool) (s : State) : Out :=
  takeCommand (.erase slot calEn) (fun s =>
    match s.flashCheck slot.toNat calEn with
    | some e => refuse e s
    | none => accept [] (beginOp .erase slot.toNat .pumpCheck s)) s

/-! ## ERASING (R165) -/

/-- PUMP_CHECK (R165 step 1). -/
def execPumpCheck (ok : Bool) (s : State) : Out :=
  awake s
    (if s.setup.phase = .pumpCheck then (if ok then setPhase .voidMark s else endOp .failPump s) else s)

/-- VOID_MARK: the marker is programmed to VOID (R165 step 2). -/
def execVoidMark (s : State) : Out :=
  awake s
    (if s.setup.phase = .voidMark then
      setPhase .wipe (setFlash (Memory.program s.setup.flash [] (slotBase s.setup.slot) [0x00]) s)
    else s)

/-- WIPE: the wipe completes (R165 step 3); an ERASE ends, a SAVE goes on to PROGRAMMING. -/
def execWipe (s : State) : Out :=
  awake s
    (if s.setup.phase = .wipe then
      let t := setDir s.setup.slot { state := .erased, count := 0 }
        (setFlash (wipeSlot s.setup.slot s.setup.flash) s)
      if s.setup.op = .erase then endOp .ok t else setPhase .program t
    else s)

/-! ## PROGRAMMING and SEALING (R166, R167) -/

/-- A read-back that differs (R166): another attempt, or on the third FAIL_VERIFY. -/
def failedAttempt (s : State) : State :=
  if s.setup.attempts + 1 < 3 then
    modCounts (fun c => { c with retries := bump c.retries }) (modSetup (fun u => { u with attempts := u.attempts + 1 }) s)
  else endOp .failVerify s

/-- An entry is done; after the last one SEALING follows (R166). -/
def entryDone (s : State) : State :=
  let s := modCounts (fun c => { c with done := bump c.done })
    (modSetup (fun u => { u with progress := u.progress + 1, attempts := 0 }) s)
  if s.setup.snapshot.length ≤ s.setup.progress then setPhase .sealHeader s else s

/-- In PROGRAMMING the first entry's first program step begins of itself, and its beginning makes the directory entry BAD (R163,
R166). No row of the table marks it: whether it has come by the time an event looks (SETUP_STATUS, a cut-off, a reset) is a free
value, a fresh one each time until it has (log 10). -/
def firstStepMayBegin (s : State) : State :=
  if s.setup.phase = .program ∧ programBegun s.setup = false then
    { (if Config.firstStepBegun s.free then setDirState s.setup.slot .bad s else s) with free := s.free + 1 }
  else s

/-- ENTRY_PROGRAM: one attempt at the next entry, begun and ended (R166). The first program step has begun by its end, so the
directory entry is BAD from here on at the latest (R163, log 10). -/
def execEntryProgram (stuck : Flips) (s : State) : Out :=
  awake s
    (if s.setup.phase = .program then
      match s.setup.snapshot[s.setup.progress]? with
      | none => s
      | some e =>
        let a := placeBase s.setup.slot (s.setup.progress + 1)
        let m := Memory.program s.setup.flash stuck a (entryBytes e)
        let t := setFlash m (setDirState s.setup.slot .bad s)
        if Memory.bytes m a 11 = entryBytes e then entryDone t else failedAttempt t
    else s)

/-- HEADER_PROGRAM: one attempt at the header's fields (R167 step 1). -/
def execHeaderProgram (stuck : Flips) (s : State) : Out :=
  awake s
    (if s.setup.phase = .sealHeader then
      let a := slotBase s.setup.slot + 1
      let fs := headerFields s.setup.slot s.setup.snapshot.length
      let m := Memory.program s.setup.flash stuck a fs
      let t := setFlash m s
      if Memory.bytes m a 15 = fs then setPhase .sealMarker (modSetup (fun u => { u with attempts := 0 }) t)
      else failedAttempt t
    else s)

/-- SEAL: the marker is programmed to SEALED; the slot is VALID and the save ends (R167 step 2). -/
def execSeal (s : State) : Out :=
  awake s
    (if s.setup.phase = .sealMarker then
      let m := Memory.program s.setup.flash [] (slotBase s.setup.slot) [sealed]
      endOp .ok (setDir s.setup.slot { state := .valid, count := s.setup.snapshot.length } (setFlash m s))
    else s)

/-! ## Group 3 and recalls (R16, R170 to R174) -/

/-- Group 3 is emptied: its entries return to the pool (R16, R169), which owes the carries a retry (R123). -/
def emptyGroup3 (s : State) : State := oweRetry (setGroup 3 Group.reset s)

/-- READING begins: group 3 is opened with as many entries as the directory counts, or the buffer emptied (R170). -/
def beginRecall (slot : Nat) (s : State) : State :=
  let t := beginOp .recall slot .readHeader s
  if slot = 15 then t
  else setGroup 3 { state := .holding, entries := [], reserved := (s.setup.dirAt slot).count } t

/-- The checks of R170. -/
def State.recallCheck (s : State) (slot : Nat) : Option Status :=
  let d := s.setup.dirAt slot
  if 16 ≤ slot then some .badValue
  else if s.setupIdle = false ∨ (s.store.group 3).state ≠ .empty then some .busy
  else if d.state = .erased then some .emptySlot
  else if d.state = .bad then some .badSlot
  else if slot ≠ 15 ∧ s.poolFree < d.count then some .groupFull
  else none

/-- RECALL (R170). -/
def execRecall (slot : Byte) (s : State) : Out :=
  takeCommand (.recallSetup slot) (fun s =>
    match s.recallCheck slot.toNat with
    | some e => refuse e s
    | none => accept [] (beginRecall slot.toNat s)) s

/-- The result of a reading that ended (R172, R174). -/
def readResult (c : Counts) : SetupResult :=
  if 0 < c.uncorrectable + c.unknown then .partially else if 0 < c.corrected then .okCorrected else .ok

/-- The part of the start-up result that a load's result gives (R177, R178). -/
def startResult (r : SetupResult) : StartResult :=
  match r with
  | .ok => .loaded | .okCorrected => .corrected | .partially => .partially | _ => .absent

/-- Step 4 of the start-up load: the last-operation record (R177). -/
def startRecord (r : SetupResult) (c : Counts) (s : State) : State :=
  modSetup (fun u => { u with last := { op := .start, slot := 0, result := r, counts := c }, phase := .idle, op := .none }) s

/-- Step 3 of the start-up load (R177). -/
def startSetup (s : State) : State :=
  if (s.setup.dirAt 0).state = .valid then beginRecall 0 s
  else startRecord .ok Counts.zero (modSetup (fun u => { u with setupResult := .absent }) s)

/-- Slot 15's load has ended; step 3 follows (R177). -/
def startCalDone (r : StartResult) (s : State) : State :=
  startSetup (raiseIf (r == .absent) .calMissing
    (modSetup (fun u => { u with calResult := r, phase := .idle, op := .none, calBuf := [] }) s))

/-- Step 2 of the start-up load (R177). -/
def startCalibration (s : State) : State :=
  if (s.setup.dirAt 15).state = .valid then beginRecall 15 s else startCalDone .absent s

/-- A recall ends with a result; the start-up load's raise no notice and go on to its next step (R162, R177). -/
def endRecall (r : SetupResult) (s : State) : State :=
  if s.setup.starting then
    if s.setup.slot = 15 then startCalDone (startResult r) s
    else startRecord r s.setup.counts (modSetup (fun u => { u with setupResult := startResult r }) s)
  else endOp r s

/-- FAIL_HEADER (R171). -/
def failHeader (s : State) : State :=
  let t := setDirState s.setup.slot .bad s
  endRecall .failHeader (if s.setup.slot = 15 then t else emptyGroup3 t)

/-- The launch of group 3 at the end of a reading (R172). -/
def launch3 (s : State) : State :=
  let g := s.store.group 3
  if g.entries.isEmpty then endRecall (readResult s.setup.counts) (emptyGroup3 s)
  else if 16 ≤ s.store.queue.length then setPhase .launchWait s
  else
    let t := setGroup 3 { state := .launched, entries := [], reserved := 0 } s
    let t := endRecall (readResult s.setup.counts) (foldIf (decide (0 < g.reserved)) oweRetry t)
    joinQueue .recall g.entries t

/-- The calibration write: every taken entry, in one event (R174). -/
def calibrationWrite (es : List (FieldId × Int)) (s : State) : State :=
  es.foldl (fun s e => configWrite e.1 (limitedTo e.1 e.2) s) s

/-- The end of a reading (R172, R174). -/
def endReading (s : State) : State :=
  if s.setup.slot = 15 then endRecall (readResult s.setup.counts) (calibrationWrite s.setup.calBuf s) else launch3 s

/-- HEADER_REREAD (R171). -/
def execHeaderReread (flips : Flips) (s : State) : Out :=
  awake s
    (if s.setup.phase = .readHeader then
      let slot := s.setup.slot
      match readHeader (Memory.bytesAsRead s.setup.flash flips (slotBase slot) 16) with
      | none => failHeader s
      | some h =>
        if h.marker = sealed ∧ h.kind = slotKind slot ∧ h.count = (s.setup.dirAt slot).count then
          (if h.count = 0 then endReading s else setPhase .readEntries s)
        else failHeader s
    else s)

/-- Whether a snapshot of the slot's kind holds the field (R164, R171). -/
def inSnapshot (slot : Nat) (f : FieldId) : Bool :=
  decide (f.inst < kindSize f.kind)
    && (if slot = 15 then f.kind == .channel && decide (10 ≤ f.num ∧ f.num ≤ 19) else decide (f.num < savedFields f.kind))

/-- Take an entry into group 3 or the buffer (R171 step 3). -/
def takeEntry (f : FieldId) (v : Int) (s : State) : State :=
  let s := modCounts (fun c => { c with done := bump c.done })
    (modSetup (fun u => { u with progress := u.progress + 1, lastTaken := some (fieldCode f) }) s)
  if s.setup.slot = 15 then modSetup (fun u => { u with calBuf := u.calBuf ++ [(f, v)] }) s
  else
    let g := s.store.group 3
    setGroup 3 { g with entries := g.entries ++ [{ id := f, val := .int v }], reserved := g.reserved - 1 } s

/-- A standing entry: skipped as unknown, or taken (R171 steps 2 and 3). -/
def standingEntry (data : List Byte) (s : State) : State :=
  let code := beNat (data.take 2)
  let v := signed64 (beNat (data.drop 2))
  let unknown := modCounts (fun c => { c with unknown := bump c.unknown }) s
  match fieldOf code with
  | none => unknown
  | some f =>
    let rising := match s.setup.lastTaken with
      | some n => decide (n < code)
      | none => true
    if inSnapshot s.setup.slot f && rising then takeEntry f v s else unknown

/-- One entry read (R171). -/
def readEntry (flips : Flips) (s : State) : State :=
  let bs := Memory.bytesAsRead s.setup.flash flips (placeBase s.setup.slot (s.setup.place + 1)) 11
  let s := modSetup (fun u => { u with place := u.place + 1 }) s
  match testCheck (bs.take 10) (bs.getD 10 0) with
  | .clean d => standingEntry d s
  | .corrected d => standingEntry d (modCounts (fun c => { c with corrected := bump c.corrected }) s)
  | .uncorrectable => modCounts (fun c => { c with uncorrectable := bump c.uncorrectable }) s

/-- ENTRY_READ: the entry at the header's count ends the reading (R171). -/
def execEntryRead (flips : Flips) (s : State) : Out :=
  awake s
    (if s.setup.phase = .readEntries then
      let t := readEntry flips s
      if (t.setup.dirAt t.setup.slot).count ≤ t.setup.place then endReading t else t
    else s)

/-- GROUP3_LAUNCH_RETRY (R172). -/
def execGroup3LaunchRetry (s : State) : Out :=
  awake s (if s.setup.phase = .launchWait then launch3 s else s)

/-! ## Cutting off (R169) and the supply monitor (R175) -/

/-- The phases that write the flash (R169). -/
def Phase.writesFlash : Phase → Bool
  | .pumpCheck | .voidMark | .wipe | .program | .sealHeader | .sealMarker => true
  | _ => false

/-- The flash step in progress stops (R169, R176; log 9). -/
def stopFlash (s : State) : State :=
  let r := flashCut s.setup s.free
  { setFlash r.1 s with free := s.free + r.2 }

/-- The directory entry and what READING held, at a cut-off (R169). -/
def cutTidy (s : State) : State :=
  match s.setup.phase with
  | .voidMark | .wipe | .sealHeader | .sealMarker => setDirState s.setup.slot .bad s
  | .program =>
    if programBegun s.setup then setDirState s.setup.slot .bad s else setDir s.setup.slot { state := .erased, count := 0 } s
  | .readHeader | .readEntries | .launchWait => if s.setup.slot = 15 then s else emptyGroup3 s
  | _ => s

/-- An operation is cut off (R169). -/
def cutOff (r : SetupResult) (s : State) : State := endOp r (cutTidy (stopFlash (firstStepMayBegin s)))

/-- ABORT (R169). -/
def execAbort (s : State) : Out :=
  takeCommand .abort (fun s =>
    if s.setup.phase = .idle then refuse .wrongState s else accept [] (cutOff .aborted s)) s

/-- SUPPLY_FALL (R175). -/
def execSupplyFall (s : State) : Out :=
  awake s
    (if s.setup.supplyLow then s
    else
      let t := raise .supplyLow (modSetup (fun u => { u with supplyLow := true }) s)
      if s.setup.phase.writesFlash then cutOff .supplyLow t else t)

/-- SUPPLY_RISE (R175). -/
def execSupplyRise (s : State) : Out := awake s (modSetup (fun u => { u with supplyLow := false }) s)

/-! ## SETUP_STATUS (R162, R189) -/

/-- The operation state: IDLE 0, ERASING 1, PROGRAMMING 2, SEALING 3, READING 4, STARTING 5. -/
def opStateCode (u : Setup) : Int :=
  if u.starting then 5
  else match u.phase with
    | .idle => 0
    | .pumpCheck | .voidMark | .wipe => 1
    | .program => 2
    | .sealHeader | .sealMarker => 3
    | .readHeader | .readEntries | .launchWait => 4

/-- The eight bytes of the last-operation record (R189). -/
def lastOpBytes (l : LastOp) : List Byte :=
  beBytes 1 (setupOpCode l.op) ++ beBytes 1 l.slot ++ beBytes 1 (setupResultCode l.result)
    ++ ([l.counts.done, l.counts.corrected, l.counts.uncorrectable, l.counts.unknown, l.counts.retries].map fun n =>
      BitVec.ofNat 8 n)

/-- The two bytes of a directory entry (R189). R189 gives bits 1, 0 and 4 of the first; its other bits are sent as 0 (log 31). -/
def dirBytes (slot : Nat) (d : DirEntry) : List Byte :=
  beBytes 1 (dirStateCode d.state + (if slot = 15 then 16 else 0)) ++ [BitVec.ofNat 8 d.count]

def setupStatusData (u : Setup) : List Byte :=
  beBytes 1 (opStateCode u) ++ lastOpBytes u.last ++ beBytes 1 (if u.supplyLow then 1 else 0)
    ++ ((List.range 16).map fun i => dirBytes i (u.dirAt i)).flatten

/-- SETUP_STATUS (R162). Before the first attempt of a save has ended, its first program step may have begun by now (R163, R166,
log 10). -/
def execSetupStatus (s : State) : Out :=
  takeCommand .setupStatus (fun s =>
    let t := firstStepMayBegin s
    accept (setupStatusData t.setup) t) s

end Sys2Proof.Machine
end

