-- ==== Sys2Proof/Machine/Reset.lean ====
section
/-! DEFINITION. Reset and start-up (R35, R66, R163, R175 to R178, R184), and the rise of CS_N (R182), which may be
what takes a requested reset. -/

namespace Sys2Proof.Machine

/-- A reset begins (R184): a flash step in progress stops (R176), and every piece of state takes its reset value, but for
what a reset does not reach: the flash, the lamp chain, the pin. -/
def enterReset (cause : Cause) (s : State) : State :=
  let s := firstStepMayBegin s
  let r := flashCut s.setup s.free
  State.inReset cause r.1 s.panel.lamps s.link.csLow (s.free + r.2) s.pending

/-- POWER_ON (R184): the lamp chain shows its own power-up state (R130, log 12). -/
def execPowerOn (s : State) : Out :=
  let t := enterReset .power s
  .next { t with panel := Panel.reset ((List.range 32).map fun i => Config.lampPowerUp (t.free + i)), free := t.free + 32 }

/-- RESET_N driven low (R184). -/
def execResetN (s : State) : Out := .next (enterReset .pin s)

/-- SUPPLY_RESET: VSENSE below 0.95 V (R176). -/
def execSupplyReset (s : State) : Out := .next (enterReset .supply s)

/-! ## The release (R35, R163, R175, R177) -/

/-- The supply state judged at the release (R175). -/
def judgeSupply (vsense : Nat) (s : State) : State :=
  if vsense < 1100000 then raise .supplyLow (modSetup (fun u => { u with supplyLow := true }) s)
  else modSetup (fun u => { u with supplyLow := false }) s

/-- Four frames and one settle request of 10 ms (R35). -/
def startFrontEnd (s : State) : State :=
  settleRequest (some 10000)
    (feStart (forChannels (fun ch s => fePut ch (s.path.image.getD ch FeSettings.reset) s) s))

/-- Step 1 of the start-up load: the scan (R163). -/
def scan (flips : Flips) (s : State) : State :=
  let dir := (List.range 16).map fun i => judgeSlot s.setup.flash flips (Config.badCount (s.free + i)).toNat i
  { modSetup (fun u => { u with dir := dir }) s with free := s.free + 16 }

/-- The part leaves reset (R184). -/
def release (vsense : Nat) (flips : Flips) (s : State) : State :=
  let s := judgeSupply vsense { s with held := false }
  startCalibration (scan flips (levelRecompute (startFrontEnd s)))

/-- RESET_RELEASE: taken where the part is in reset and VSENSE is 0.95 V or above (R176, R184). -/
def execResetRelease (vsense : Nat) (flips : Flips) (s : State) : Out :=
  .next (if s.held = true ∧ 950000 ≤ vsense then release vsense flips s else s)

/-- STARTUP_COMPLETION: taken where the load has ended (R178). -/
def execStartupCompletion (s : State) : Out :=
  awake s
    (if s.setup.starting = true ∧ s.setup.phase = .idle then
      takeRun (raise .startDone (modSetup (fun u => { u with starting := false }) s))
    else s)

/-! ## The end of a frame (R182) -/

def setTie (t : Tie) (s : State) : State := { s with link := { s.link with tie := t } }

/-- The rise in RESPONSE or SPENT: the lend of a cut COLUMNS is released, a cut PANEL_READ subtracts nothing, and a
requested reset is taken (R182, R184). -/
def endResponse (s : State) : State :=
  match s.link.tie with
  | .columns ch => releaseLend .link ch (setTie .none s)
  | .panel _ => setTie .none s
  | .reset => enterReset .command s
  | .none => s

/-- CS_N_RISE (R179, R182). While the part is in reset only the pin and the parser's wait for it move. -/
def execCsNRise (clocked : Bool) (s : State) : Out :=
  let t := setParser .idle (setCsLow false s)
  .next
    (if s.held then t
    else match s.link.parser with
      | .command => raiseIf clocked .frameError t
      | .parameters _ _ _ => raise .frameError t
      | .response => endResponse t
      | .spent => endResponse t
      | _ => t)

end Sys2Proof.Machine
end

