-- ==== Sys2Proof/Machine/Samples.lean ====
section
/-! DEFINITION. Sample words (R36 to R43, R46, R69, R75), the front-end frame's latch (R33) and the timers' expiries
(R72, R74, R78). -/

namespace Sys2Proof.Machine

/-! ## Correction (R40, R41, R42) -/

/-- The knot correction of a raw code: r1 (R40). -/
def knotted (knot : Nat → Int) (r : Nat) : Int :=
  let k := r / 128
  let f : Int := (r % 128 : Nat)
  r + (knot k + ((knot (k + 1) - knot k) * f + 64) / 128)

/-- The gain trim about code 512: r2, limited (R41). -/
def trimmed (g r1 : Int) : Nat := (limit 0 1023 (512 + ((r1 - 512) * g + 16384) / 32768)).toNat

/-- A valid sample as handed on: the corrected code, and the clip indications of the raw code (R41, R42, R43). -/
def State.correct (s : State) (ch r : Nat) : Sample :=
  { code := trimmed (s.get (Fld.chGainTrim ch)) (knotted (fun k => s.get (Fld.chKnot ch k)) r),
    clipLo := r == 0, clipHi := r == 1023 }

/-! ## Lane lock (R36, R37) -/

def setLockCount (p n : Nat) (s : State) : State :=
  { s with path := { s.path with lockCount := s.path.lockCount.set p n } }

/-- The port's state and count after a word; whether the word is a valid sample (R36). The port is LOCKED where
CHANNEL.LOCKED is on (R29). -/
def lockWord (p : Nat) (framed : Bool) (s : State) : State × Bool :=
  if isOn (s.get (Fld.chLocked p)) then
    if framed then (s, true) else (raise .laneLost (setVal (Fld.chLocked p) 0 (setLockCount p 0 s)), false)
  else if framed then
    let n := s.path.lockCount.getD p 0 + 1
    let s := setLockCount p n s
    (if n = 64 then setVal (Fld.chLocked p) 1 s else s, false)
  else (setLockCount p 0 s, false)

/-! ## The comparator (R69) -/

/-- One half at one sample: `reach` says the signal is at the level or past it, `away` that it is far enough on the
far side. The armed flag after, and whether the half fired. -/
def compHalf (armed reach away : Bool) : Bool × Bool :=
  if armed && reach then (false, true) else (armed || away, false)

/-- The comparator at a sample of code x: the flags after, and whether a fire is offered. SLOPE is RISE 0, FALL 1,
EITHER 2. An idle half is disarmed. -/
def comparator (slope level hyst x : Int) (t : Trig) : Trig × Bool :=
  let rise := if slope = 1 then (false, false)
    else compHalf t.armedRise (decide (level ≤ x)) (decide (x ≤ level - hyst))
  let fall := if slope = 0 then (false, false)
    else compHalf t.armedFall (decide (x ≤ level)) (decide (level + hyst ≤ x))
  ({ t with armedRise := rise.1, armedFall := fall.1 }, rise.2 || fall.2)

/-- A sample of the source channel at the comparator, which does not run in STOPPED (R70); its fire is taken in WAITING
alone (R75). An invalid sample does nothing. -/
def compareSample (item : Option Sample) (s : State) : State :=
  match item with
  | none => s
  | some x =>
    if s.sweep.acq = .stopped then s
    else
      let r := comparator (s.get Fld.trSlope) (s.get Fld.trLevelCode) (s.get Fld.trHysteresis) x.code s.trig
      let s := { s with trig := r.1 }
      if r.2 ∧ s.sweep.acq = .waiting then triggerEvent .normal s else s

/-! ## Items at the combiner (R46) -/

/-- A sample period is over: the place advances, and the last place completes the column (R46). -/
def closePeriod (s : State) : State :=
  let s := { s with comb := { s.comb with place := s.comb.place + 1, got := noneGot } }
  if s.comb.cap.n ≤ s.comb.place then columnComplete s else s

/-- One port's item enters its column; the fourth of a sample period closes it. -/
def takeItem (p : Nat) (item : Option Sample) (s : State) : State :=
  let accs := s.comb.accs.modify p (accumulate s.comb.cap.mode s.comb.cap.d s.comb.place item)
  let got := s.comb.got.set p true
  let s := { s with comb := { s.comb with accs := accs, got := got } }
  if got.all id then closePeriod s else s

/-- A word at a port (R36 to R43, R46, R69): a word of a port already heard from in this sample period opens the next
one (log 4); a fire is taken before the completion of its column (log 5). -/
def sampleWord (p : Nat) (framed : Bool) (r : Nat) (s : State) : State :=
  let s := if s.sweep.acq.capture && s.comb.got.getD p false then closePeriod s else s
  let l := lockWord p framed s
  let item := if l.2 then some (s.correct p r) else none
  let s := if s.source = p then compareSample item l.1 else l.1
  if s.sweep.acq.capture then takeItem p item s else s

/-- SAMPLE_WORD. -/
def execSampleWord (port : Fin 4) (framed : Bool) (code : BitVec 10) (s : State) : Out :=
  awake s (sampleWord port.val framed code.toNat s)

/-! ## The front-end line and the timers -/

/-- FE_FRAME_LATCH: the frame being sent is taken by the front end, and the next one starts (R33). -/
def execFeFrameLatch (s : State) : Out :=
  awake s
    (match s.path.sending with
      | none => s
      | some (ch, f) => feStart { s with path := { s.path with latched := some (feFrame ch f), sending := none } })

/-- SETTLE_EXPIRY (R72). -/
def execSettleExpiry (s : State) : Out :=
  awake s
    (match s.sweep.settle with
      | none => s
      | some _ =>
        let t := { s with sweep := { s.sweep with settle := none } }
        if s.sweep.acq = .settling then captureStart t else t)

/-- HOLDOFF_EXPIRY (R78). -/
def execHoldoffExpiry (s : State) : Out :=
  awake s
    (match s.sweep.holdoff with
      | none => s
      | some _ =>
        let t := { s with sweep := { s.sweep with holdoff := none } }
        if s.sweep.acq = .holdoff then captureStart t else t)

/-- AUTO_TIMER_EXPIRY: a trigger of kind AUTO in WAITING (R74, R75). -/
def execAutoTimerExpiry (s : State) : Out :=
  awake s
    (match s.sweep.auto with
      | none => s
      | some _ =>
        let t := setAuto none s
        if s.sweep.acq = .waiting then triggerEvent .auto t else t)

end Sys2Proof.Machine
end

