-- ==== Sys2Proof/Machine/Readout.lean ====
section
/-! DEFINITION. Readout texts (R154 to R160), as character codes. -/

namespace Sys2Proof.Machine

/-- "----" (R155). -/
def dashes : List Byte := [45, 45, 45, 45]

/-- "OVER" (R160). -/
def overText : List Byte := [79, 86, 69, 82]

/-- The units: V, s, Hz. -/
def unitV : List Byte := [86]
def unitS : List Byte := [115]
def unitHz : List Byte := [72, 122]

/-- A value with its base exponent and unit (R155). -/
structure Quantity where
  v    : Int
  e0   : Int
  unit : List Byte
  deriving DecidableEq, Repr

/-- "0.000 " and the unit (R159 step 1). -/
def zeroText (unit : List Byte) : List Byte := [48, 46, 48, 48, 48, 32] ++ unit

/-- Decimal digits counted one division at a time; the first number bounds the count. -/
def digitsFrom : Nat → Nat → Nat
  | 0, _ => 1
  | fuel + 1, n => if n < 10 then 1 else digitsFrom fuel (n / 10) + 1

/-- The number of decimal digits (R159 step 2). -/
def digitCount (n : Nat) : Nat := digitsFrom n n

/-- The four significant digits q of a magnitude and the power s of its last digit (R159 steps 3 and 4). -/
def fourDigits (n : Nat) : Nat × Int :=
  let g := digitCount n
  let q := if 4 ≤ g then (2 * n + 10 ^ (g - 4)) / (2 * 10 ^ (g - 4)) else n * 10 ^ (4 - g)
  let s : Int := g - 4
  if q = 10000 then (1000, s + 1) else (q, s)

/-- The prefix letter of an exponent (R160). -/
def prefixLetter (p : Int) : List Byte :=
  if p = -12 then [112] else if p = -9 then [110] else if p = -6 then [117] else if p = -3 then [109]
  else if p = 3 then [107] else if p = 6 then [77] else if p = 9 then [71] else []

def digitByte (d : Nat) : Byte := BitVec.ofNat 8 (48 + d)

/-- The digits of q with the point after the first n of them. -/
def pointed (q n : Nat) : List Byte :=
  let ds := [digitByte (q / 1000 % 10), digitByte (q / 100 % 10), digitByte (q / 10 % 10), digitByte (q % 10)]
  ds.take n ++ [46] ++ ds.drop n

/-- A formatted value (R159, R160). -/
def formatValue (x : Quantity) : List Byte :=
  if x.v = 0 then zeroText x.unit
  else
    let d := fourDigits x.v.natAbs
    let lead := x.e0 + d.2 + 3
    let p := 3 * (lead / 3)
    if 9 < p then overText
    else if p < -12 then zeroText x.unit
    else
      (if x.v < 0 then [45] else []) ++ pointed d.1 (lead - p + 1).toNat ++ [32] ++ prefixLetter p ++ x.unit

/-! ## The value of each form (R156, R157, R158) -/

/-- A bound measurement's value and its CLIPPED mark (R156). -/
def measurementValue (s : State) (i : Nat) (form : Int) : Option (Quantity × Bool) :=
  let st := s.get (Fld.meStatus i)
  let shown := decide (st = mstatusCode .valid ∨ st = mstatusCode .clipped)
  let counted := decide (0 < s.get (Fld.meStatCount i))
  let v := if form = 0 then s.get (Fld.meLast i) else if form = 1 then s.get (Fld.meStatMean i)
    else if form = 2 then s.get (Fld.meStatMin i) else s.get (Fld.meStatMax i)
  let kind := s.get (Fld.meKind i)
  let q : Quantity := if kind ≤ 3 then ⟨v, -6, unitV⟩ else if kind = 5 then ⟨v, -3, unitHz⟩ else ⟨v, -12, unitS⟩
  if shown && (decide (form = 0) || counted) then some (q, decide (st = mstatusCode .clipped)) else none

/-- SAMPLES_PER_COLUMN, the live N. -/
def State.liveN (s : State) : Int := s.get Fld.tbSamplesPerColumn

/-- The level a LEVEL cursor shows (R157). -/
def cursorLevel (s : State) (c : CurLatch) : Int :=
  valueUv (64 * c.position) (s.get (Fld.chScaleUv c.source)) (s.get (Fld.chOffsetUv c.source))

/-- FORM VALUE of a cursor: AXIS TIME 0, LEVEL 1 (R157). -/
def cursorValue (s : State) (c : CurLatch) : Quantity :=
  if c.axis = 0 then ⟨(c.position - s.get Fld.tbTrigColumn) * s.liveN * 1000, -12, unitS⟩
  else ⟨cursorLevel s c, -6, unitV⟩

/-- FORM DELTA of two cursors (R158). -/
def deltaValue (s : State) (a b : CurLatch) : Option Quantity :=
  if a.axis = 0 ∧ b.axis = 0 then some ⟨(b.position - a.position) * s.liveN * 1000, -12, unitS⟩
  else if a.axis ≠ 0 ∧ b.axis ≠ 0 then some ⟨cursorLevel s b - cursorLevel s a, -6, unitV⟩
  else none

/-- FORM RECIP of two cursors (R158). -/
def recipValue (s : State) (a b : CurLatch) : Option Quantity :=
  if a.axis = 0 ∧ b.axis = 0 then
    let dt := (b.position - a.position) * s.liveN * 1000
    if dt = 0 then none else some ⟨roundAway 1000000000000000 dt.natAbs, -3, unitHz⟩
  else none

/-- The latched cursor that a binding names. -/
def boundCursor (s : State) (curs : List CurLatch) (v : Int) : Option CurLatch :=
  match s.refersTo [.cursor] v with
  | some (_, i) => curs.find? fun c => c.inst == i
  | none => none

/-- The value of a READOUT's bindings and form, with its mark; none shows dashes (R155 to R158). -/
def readoutValue (s : State) (curs : List CurLatch) (bind bind2 form : Int) : Option (Quantity × Bool) :=
  if form ≤ 3 then
    match s.refersTo [.measurement] bind with
    | some (_, i) => measurementValue s i form
    | none => if form = 0 then (boundCursor s curs bind).map fun c => (cursorValue s c, false) else none
  else
    match boundCursor s curs bind, boundCursor s curs bind2 with
    | some a, some b => (if form = 4 then deltaValue s a b else recipValue s a b).map fun q => (q, false)
    | _, _ => none

/-- The value text (R155): '*' marks a CLIPPED result. -/
def valueText (v : Option (Quantity × Bool)) : List Byte :=
  match v with
  | none => dashes
  | some (q, clipped) => formatValue q ++ (if clipped then [42] else [])

/-- A readout text: the prefix and the value text (R155). -/
def readoutText (s : State) (curs : List CurLatch) (o : Nat) : List Byte :=
  (s.recAt .object o).text
    ++ valueText (readoutValue s curs (s.get (Fld.obBind o)) (s.get (Fld.obBind2 o)) (s.get (Fld.obForm o)))

end Sys2Proof.Machine
end

