-- ==== Sys2Proof/Machine/Screen.lean ====
section
/-! DEFINITION. The renderer (R131 to R150): frame start, the pixels of a line, frame end. -/

namespace Sys2Proof.Machine

/-! ## Frame start (R134, R135, R136) -/

def latchChannel (s : State) (c : Nat) : ChanLatch :=
  { display := isOn (s.get (Fld.chDisplay c)), position := s.get (Fld.chPosition c), color := s.get (Fld.chColor c),
    layer := s.get (Fld.chLayer c), label := s.get (Fld.chLabel c) }

def latchCursor (s : State) (i : Nat) : CurLatch :=
  { inst := i, axis := s.get (Fld.cuAxis i), source := (s.get (Fld.cuSource i)).toNat,
    position := s.get (Fld.cuPosition i), color := s.get (Fld.cuColor i), visible := isOn (s.get (Fld.cuVisible i)) }

def latchPalette (s : State) (i : Nat) : Rgb :=
  { r := s.get ⟨.palette, i, 0⟩, g := s.get ⟨.palette, i, 1⟩, b := s.get ⟨.palette, i, 2⟩ }

/-- OBJECT fields of a frame-list entry (R145). -/
def FrameObj.field (o : FrameObj) (n : Nat) : Int := o.vals.getD n 0

def latchObject (s : State) (curs : List CurLatch) (i : Nat) : FrameObj :=
  { inst := i, vals := (s.recAt .object i).vals,
    text := if s.get (Fld.obKind i) = readoutKind then readoutText s curs i else (s.recAt .object i).text }

/-- Insert an entry at its place in draw priority order: higher LAYER first, then higher instance (R135). -/
def insertObject (o : FrameObj) : List FrameObj → List FrameObj
  | [] => [o]
  | x :: xs =>
    if x.field 7 < o.field 7 ∨ (x.field 7 = o.field 7 ∧ x.inst < o.inst) then o :: x :: xs
    else x :: insertObject o xs

/-- The frame list (R135). -/
def frameList (s : State) (curs : List CurLatch) : List FrameObj :=
  (((s.liveOf .object).filter fun i => isOn (s.get (Fld.obVisible i))).map (latchObject s curs)).foldr insertObject []

/-- A frame is blank when the part is STARTING or the latched ENABLE is BLANK (R138). -/
def State.blankFrame (s : State) : Bool := s.setup.starting || s.get Fld.diEnable == 0

/-- What the frame start latches (R134, R138). A blank frame latches the settings of R134's list too, and nothing beyond them
(log 33). -/
def latchFrame (s : State) : Frame :=
  let curs := (s.liveOf .cursor).map (latchCursor s)
  { blank := s.blankFrame, background := s.get Fld.diBackground, gridStyle := s.get Fld.diGridStyle,
    gridColor := s.get Fld.diGridColor, palette := (List.range 32).map (latchPalette s),
    chans := [0, 1, 2, 3].map (latchChannel s), cursors := curs,
    objects := if s.blankFrame then [] else frameList s curs }

/-- Lends for the displayed channels, in channel order (R136). -/
def frameLends (s : State) : State :=
  forChannels (fun ch => foldIf (isOn (s.get (Fld.chDisplay ch))) (requestLend .renderer ch)) s

/-- FRAME_START (R134): the frame before must have ended (R131, log 6). -/
def execFrameStart (s : State) : Out :=
  awake s
    (match s.rend.frame with
      | some _ => s
      | none =>
        let t := { s with rend := { s.rend with frame := some (latchFrame s), nextLine := 0 } }
        if s.blankFrame then t else frameLends t)

/-! ## Frame end (R137) -/

/-- FRAME_END (R137), taken once all 600 lines of the frame have been composed (R131, log 6). -/
def execFrameEnd (s : State) : Out :=
  awake s
    (match s.rend.frame with
      | none => s
      | some _ =>
        if s.rend.nextLine < 600 then s else
        let n := s.rend.drops
        let s := forChannels (releaseLend .renderer) s
        let s := raiseIf (decide (0 < n)) .displayOverflow (setVal Fld.diOverflow (Nat.min n 65535 : Nat) s)
        let s := setVal Fld.diFrameCount ((s.get Fld.diFrameCount + 1) % 4294967296) s
        { s with rend := { s.rend with frame := none, nextLine := 0, drops := 0 } })

/-! ## Contenders for a pixel -/

/-- A contender's layer and palette index. -/
structure Contender where
  layer : Int
  color : Int
  deriving DecidableEq, Repr

/-- The character generator: the space has no ink (R148). -/
def charInk (code : Byte) (x y : Nat) : Bool := code != 32 && Config.charInk code.toNat x y

/-- How far a marker shape reaches from its centre pixel, within the cell (R147). -/
def markerReach (g axis : Nat) : Nat := Nat.min 7 (Config.markerReach g axis)

/-- The place on a side of a marker's extent that has ink, on a side that reaches n from the centre. -/
def markerTouch (g side n : Nat) : Nat := 7 - n + Config.markerTouch g side % (2 * n + 1)

/-- Whether a marker shape covers its own centre: plus 0, diagonal cross 1, filled square 3, dot 11 (R147). -/
def coversCentre (g : Nat) : Bool := g == 0 || g == 1 || g == 3 || g == 11

/-- A marker shape's ink, centred on column 7, row 7 of its cell (R147): its extent reaches as far to either side, and a shape that
covers its own centre has ink there. What this leaves of a pattern is free (logs 13, 38). -/
def markerInk (g x y : Nat) : Bool :=
  let w := markerReach g 0
  let h := markerReach g 1
  decide (7 - w ≤ x ∧ x ≤ 7 + w ∧ 7 - h ≤ y ∧ y ≤ 7 + h)
    && (Config.markerInk g x y
      || (coversCentre g && x == 7 && y == 7)
      || (x == 7 - w && y == markerTouch g 0 h) || (x == 7 + w && y == markerTouch g 1 h)
      || (y == 7 - h && x == markerTouch g 2 w) || (y == 7 + h && x == markerTouch g 3 w))

/-- The row of a q6 value (R141). -/
def rowOf (position v : Int) : Int := limit 0 399 (200 - position - (v - 32768 + 64) / 128)

/-- Whether the graticule sets trace-area pixel (c, r): NONE 0, FRAME 1, FULL 2, DOTS 3 (R140). -/
def gridSets (style : Int) (c r : Nat) : Bool :=
  let edge := c == 0 || c == 999 || r == 0 || r == 399
  if style = 0 then false
  else if style = 1 then edge
  else if style = 2 then edge || c % 100 == 0 || r % 50 == 0
  else edge || (c % 20 == 0 && r % 10 == 0)

/-- Whether a row lies between two rows, both included. -/
def between (a b r : Int) : Bool := decide (min a b ≤ r ∧ r ≤ max a b)

/-- Whether a channel's trace sets trace-area pixel (c, r) (R142). -/
def traceSets (b : Bank) (position : Int) (c : Nat) (r : Int) : Bool :=
  let col := b.col c
  let at_ := fun (v : Nat) => rowOf position v
  if col.valid then
    if b.header.mode = .peak then between (at_ (64 * col.max)) (at_ (64 * col.min)) r
    else
      let prev := b.col (c - 1)
      if 0 < c ∧ prev.valid = true then between (at_ col.avgQ6) (at_ prev.avgQ6) r
      else decide (r = at_ col.avgQ6)
  else false

/-- Character j of a packed label (R190). -/
def labelChar (label : Int) (j : Nat) : Byte := BitVec.ofInt 8 (label / 256 ^ (3 - j))

/-- Whether a channel's label sets screen pixel (x, y) (R143). -/
def labelSets (ch : Nat) (label : Int) (x y : Nat) : Bool :=
  let x0 := 12 + 250 * ch
  decide (504 ≤ y ∧ y ≤ 519 ∧ x0 ≤ x ∧ x < x0 + 32) && charInk (labelChar label ((x - x0) / 8)) ((x - x0) % 8) (y - 504)

/-- Whether a pixel lies in the trace area (R131). -/
def inTrace (x y : Nat) : Bool := decide (12 ≤ x ∧ x ≤ 1011 ∧ 100 ≤ y ∧ y ≤ 499)

/-- Whether a cursor sets trace-area pixel (c, r) (R144). -/
def cursorSets (chans : List ChanLatch) (k : CurLatch) (c r : Nat) : Bool :=
  if k.axis = 0 then decide ((c : Int) = k.position) && decide (r % 8 < 4)
  else
    match chans[k.source]? with
    | some ch => decide ((r : Int) = rowOf ch.position (64 * k.position)) && decide (c % 8 < 4)
    | none => false

/-! ## Screen objects (R146, R147, R148) -/

/-- Width and height of an object's extent (R146): TEXT 0, BOX 1, FRAME 2, HLINE 3, VLINE 4, MARKER 5, READOUT 6. -/
def FrameObj.width (o : FrameObj) : Int := if o.field 0 = 4 then 1 else if o.field 0 = 5 then 16 else o.field 3
def FrameObj.height (o : FrameObj) : Int := if o.field 0 = 3 then 1 else if o.field 0 = 5 then 16 else o.field 4

/-- Whether the object's extent includes a row: a candidate on that line (R149). -/
def FrameObj.onLine (o : FrameObj) (y : Nat) : Bool := decide (o.field 2 ≤ y ∧ y < o.field 2 + o.height)

/-- Whether the extent includes a column. -/
def FrameObj.onColumn (o : FrameObj) (x : Nat) : Bool := decide (o.field 1 ≤ x ∧ x < o.field 1 + o.width)

/-- Whether the pixel at an offset in the extent is ink (R146, R147, R148). -/
def FrameObj.ink (o : FrameObj) (dx dy : Nat) : Bool :=
  let k := o.field 0
  if k = 1 ∨ k = 3 ∨ k = 4 then true
  else if k = 2 then
    dx == 0 || dy == 0 || decide ((dx : Int) = o.width - 1) || decide ((dy : Int) = o.height - 1)
  else if k = 5 then decide (dx < 16 ∧ dy < 16) && markerInk (o.field 9).toNat dx dy
  else match o.text[dx / 8]? with
    | some ch => decide (dy < 16) && charInk ch (dx % 8) dy
    | none => false

/-- The object as a contender for a pixel of a line it is on; transparent paper is none (R139). -/
def FrameObj.contends (o : FrameObj) (x y : Nat) : Option Contender :=
  if o.onColumn x then
    if o.ink (x - (o.field 1).toNat) (y - (o.field 2).toNat) then some { layer := o.field 7, color := o.field 5 }
    else if o.field 6 = 32 then none
    else some { layer := o.field 7, color := o.field 6 }
  else none

/-! ## The arbiter and the line (R139, R149) -/

/-- The objects that cover line y, in draw priority order (R149). -/
def candidates (f : Frame) (y : Nat) : List FrameObj := f.objects.filter fun o => o.onLine y

/-- Cursors as contenders, the higher instance first (R139, R144). -/
def cursorContenders (f : Frame) (x y : Nat) : List Contender :=
  if inTrace x y then
    f.cursors.reverse.filterMap fun k =>
      if k.visible && cursorSets f.chans k (x - 12) (y - 100) then some { layer := 6, color := k.color } else none
  else []

/-- A channel as a contender: its trace or its label (R139, R142, R143). -/
def channelContends (bank : Option Bank) (ch : Nat) (k : ChanLatch) (x y : Nat) : Option Contender :=
  let traced := inTrace x y && (match bank with
    | some b => traceSets b k.position (x - 12) ((y - 100 : Nat) : Int)
    | none => false)
  if k.display && (traced || labelSets ch k.label x y) then some { layer := k.layer, color := k.color } else none

/-- All contenders of a pixel, in the order tests 2 to 5 of R139 put them within one layer. -/
def contenders (s : State) (f : Frame) (kept : List FrameObj) (x y : Nat) : List Contender :=
  kept.filterMap (fun o => o.contends x y) ++ cursorContenders f x y
    ++ ([0, 1, 2, 3].filterMap fun ch =>
      match f.chans[ch]? with
      | some k => channelContends (s.lentBank .renderer ch) ch k x y
      | none => none)
    ++ (if inTrace x y && gridSets f.gridStyle (x - 12) (y - 100) then [{ layer := 0, color := f.gridColor }] else [])

/-- The first contender on the highest layer (R139 test 1). -/
def winner : List Contender → Option Contender
  | [] => none
  | c :: cs =>
    match winner cs with
    | none => some c
    | some d => if c.layer < d.layer then some d else some c

def black : Rgb := { r := 0, g := 0, b := 0 }

/-- A palette entry of the frame. -/
def Frame.rgb (f : Frame) (i : Int) : Rgb := f.palette.getD i.toNat black

/-- The colour of a pixel of a composed frame (R139). -/
def pixel (s : State) (f : Frame) (kept : List FrameObj) (x y : Nat) : Rgb :=
  match winner (contenders s f kept x y) with
  | some c => f.rgb c.color
  | none => f.rgb f.background

/-- The 1024 pixels of line y: black in a blank frame, and where no frame has started (R131, R138). -/
def linePixels (s : State) (y : Nat) : List Rgb :=
  match s.rend.frame with
  | none => List.replicate 1024 black
  | some f =>
    if f.blank then List.replicate 1024 black
    else (List.range 1024).map fun x => pixel s f ((candidates f y).take 24) x y

/-- How many objects line y drops (R149). -/
def lineDrops (s : State) (y : Nat) : Nat :=
  match s.rend.frame with
  | none => 0
  | some f => (candidates f y).length - 24

/-- LINE: line y is composed, the lines of a frame in turn from 0 to 599 (R131, R149, log 6). Before the first frame start
every line is black (R131). -/
def execLine (y : Fin 600) (s : State) : Out :=
  awake s
    (match s.rend.frame with
      | none => { s with rend := { s.rend with line := linePixels s y.val } }
      | some _ =>
        if y.val = s.rend.nextLine then
          { s with rend := { s.rend with
              line := linePixels s y.val, nextLine := y.val + 1, drops := s.rend.drops + lineDrops s y.val } }
        else s)

end Sys2Proof.Machine
end

