-- ==== Sys2Proof/Machine/Dispatch.lean ====
section
/-! DEFINITION. The dispatch: one arm per command. -/

namespace Sys2Proof.Machine

def exec (i : Instr) (s : State) : Host.Outcome State Fault Refusal :=
  match i with
  | .nop => Sys2Proof.Machine.execNop s
  | .identify => Sys2Proof.Machine.execIdentify s
  | .read handle field option => Sys2Proof.Machine.execRead handle field option s
  | .write handle field value => Sys2Proof.Machine.execWrite handle field value s
  | .writeText handle field text => Sys2Proof.Machine.execWriteText handle field text s
  | .create kind objectKind => Sys2Proof.Machine.execCreate kind objectKind s
  | .retire handle => Sys2Proof.Machine.execRetire handle s
  | .groupOpen group => Sys2Proof.Machine.execGroupOpen group s
  | .groupLaunch group => Sys2Proof.Machine.execGroupLaunch group s
  | .groupDiscard group => Sys2Proof.Machine.execGroupDiscard group s
  | .groupStatus => Sys2Proof.Machine.execGroupStatus s
  | .run => Sys2Proof.Machine.execRun s
  | .stop => Sys2Proof.Machine.execStop s
  | .single => Sys2Proof.Machine.execSingle s
  | .force => Sys2Proof.Machine.execForce s
  | .clearStats => Sys2Proof.Machine.execClearStats s
  | .columns channel first count => Sys2Proof.Machine.execColumns channel first count s
  | .panelRead => Sys2Proof.Machine.execPanelRead s
  | .noticeRead => Sys2Proof.Machine.execNoticeRead s
  | .noticeClear sources fails => Sys2Proof.Machine.execNoticeClear sources fails s
  | .save slot calEn => Sys2Proof.Machine.execSave slot calEn s
  | .erase slot calEn => Sys2Proof.Machine.execErase slot calEn s
  | .recallSetup slot => Sys2Proof.Machine.execRecall slot s
  | .abort => Sys2Proof.Machine.execAbort s
  | .setupStatus => Sys2Proof.Machine.execSetupStatus s
  | .reset => Sys2Proof.Machine.execReset s
  | .unknownCommand byte => Sys2Proof.Machine.execUnknownCommand byte s
  | .csNFall => Sys2Proof.Machine.execCsNFall s
  | .responseEnd => Sys2Proof.Machine.execResponseEnd s
  | .csNRise clocked => Sys2Proof.Machine.execCsNRise clocked s
  | .powerOn => Sys2Proof.Machine.execPowerOn s
  | .resetN => Sys2Proof.Machine.execResetN s
  | .supplyReset => Sys2Proof.Machine.execSupplyReset s
  | .resetRelease vsense flips => Sys2Proof.Machine.execResetRelease vsense flips s
  | .startupCompletion => Sys2Proof.Machine.execStartupCompletion s
  | .supplyFall => Sys2Proof.Machine.execSupplyFall s
  | .supplyRise => Sys2Proof.Machine.execSupplyRise s
  | .sampleWord port framed code => Sys2Proof.Machine.execSampleWord port framed code s
  | .feFrameLatch => Sys2Proof.Machine.execFeFrameLatch s
  | .settleExpiry => Sys2Proof.Machine.execSettleExpiry s
  | .holdoffExpiry => Sys2Proof.Machine.execHoldoffExpiry s
  | .autoTimerExpiry => Sys2Proof.Machine.execAutoTimerExpiry s
  | .passCompletion => Sys2Proof.Machine.execPassCompletion s
  | .keyScan raw => Sys2Proof.Machine.execKeyScan raw s
  | .encoderSample pairs => Sys2Proof.Machine.execEncoderSample pairs s
  | .carryRetry => Sys2Proof.Machine.execCarryRetry s
  | .lampRefresh => Sys2Proof.Machine.execLampRefresh s
  | .blinkToggle => Sys2Proof.Machine.execBlinkToggle s
  | .frameStart => Sys2Proof.Machine.execFrameStart s
  | .line y => Sys2Proof.Machine.execLine y s
  | .frameEnd => Sys2Proof.Machine.execFrameEnd s
  | .pumpCheck ok => Sys2Proof.Machine.execPumpCheck ok s
  | .voidMark => Sys2Proof.Machine.execVoidMark s
  | .wipe => Sys2Proof.Machine.execWipe s
  | .entryProgram stuck => Sys2Proof.Machine.execEntryProgram stuck s
  | .headerProgram stuck => Sys2Proof.Machine.execHeaderProgram stuck s
  | .seal => Sys2Proof.Machine.execSeal s
  | .headerReread flips => Sys2Proof.Machine.execHeaderReread flips s
  | .entryRead flips => Sys2Proof.Machine.execEntryRead flips s
  | .group3LaunchRetry => Sys2Proof.Machine.execGroup3LaunchRetry s
  | .commandByte byte => Sys2Proof.Machine.execCommandByte byte s
  | .parameterByte byte => Sys2Proof.Machine.execParameterByte byte s

end Sys2Proof.Machine
end

