-- ==== Sys2Proof/WellFormed.lean ====
section
/-! DEFINITION. Well-formed commands: the operands a sender can give. Everything else an operand may hold is answered
or ignored by the command's own rules. -/

namespace Sys2Proof

/-- WRITE_TEXT carries at most 255 text bytes, since its length is one byte (R179); UNKNOWN_COMMAND's byte names no
command (R181); COMMAND_BYTE's byte names a command with parameters (R179). -/
def Instr.wellFormed : Instr → Bool
  | .writeText _ _ text => decide (text.length ≤ 255)
  | .unknownCommand b => Machine.paramCount b == none
  | .commandByte b => match Machine.paramCount b with
    | some (_ + 1) => true
    | _ => false
  | _ => true

end Sys2Proof
end

