-- ==== Sys2Proof/Safety.lean ====
section
/-! DEFINITION. The terms claims are stated in: when a command is taken, what an answer leaves, and the invariants of the
state. -/

namespace Sys2Proof.Machine

/-! ## Taking a command -/

/-- The last byte of this command arrives: the part is out of reset and the parser has received the command's other bytes
(R179, R189). -/
def State.hears (s : State) (i : Instr) : Bool := !s.held && expects i s

/-- ... and the start-up load is complete, so the command is taken (R181). -/
def State.takes (s : State) (i : Instr) : Bool := s.hears i && !s.setup.starting

/-- The state that answers a command: the response is in the link, nothing else has moved (R179, R189). -/
def State.answer (s : State) (st : Status) (data : List Byte) (tie : Tie) : State :=
  { s with link := { s.link with parser := .response, response := statusCode st :: data, tie := tie } }

/-- The response a state is sending. -/
def State.responds (s : State) (st : Status) (data : List Byte) : Prop :=
  s.link.parser = .response ∧ s.link.response = statusCode st :: data

/-- The events that reach a part held in reset: the resets, the release, and the CS_N pin (R184, log 6). -/
def reachesReset : Instr → Bool
  | .powerOn | .resetN | .supplyReset | .resetRelease _ _ | .csNFall | .csNRise _ => true
  | _ => false

/-- Whether a notice source's flag is set. -/
def State.noticed (s : State) (n : Source) : Bool := s.notices.flags.getLsbD (sourceNo n)

/-! ## Frames -/

/-- What an event of the store, of acquisition or of measurement leaves: the setup unit, the renderer, the reset state, the
queue of commands, the lane counts, the front end's latch, the panel but for carries, and the link's pin and summary. -/
def State.restKept (s t : State) : Prop :=
  t.setup = s.setup ∧ t.rend = s.rend ∧ t.held = s.held ∧ t.cause = s.cause ∧ t.free = s.free ∧ t.pending = s.pending
    ∧ t.path.lockCount = s.path.lockCount ∧ t.path.latched = s.path.latched ∧ t.panel.keys = s.panel.keys
    ∧ t.panel.mask = s.panel.mask ∧ t.panel.blinkOn = s.panel.blinkOn ∧ t.panel.lamps = s.panel.lamps
    ∧ (t.panel.encs.map fun e => (e.last, e.phase, e.since, e.pending))
        = (s.panel.encs.map fun e => (e.last, e.phase, e.since, e.pending))
    ∧ t.link.csLow = s.link.csLow ∧ t.link.summary = s.link.summary

/-- What a step of the setup unit leaves: the sample path, the banks, acquisition, measurement, the renderer, the reset
state, the queue of commands, and the panel but for a carry retry it may owe. -/
def State.othersKept (s t : State) : Prop :=
  t.path = s.path ∧ t.comb = s.comb ∧ t.sweep = s.sweep ∧ t.trig = s.trig ∧ t.meas = s.meas ∧ t.rend = s.rend
    ∧ t.held = s.held ∧ t.cause = s.cause ∧ t.pending = s.pending
    ∧ t.panel = { s.panel with retryDue := t.panel.retryDue }

/-- Every record is live or free as before, with its generation and its text. -/
def State.recordsKept (s t : State) : Prop :=
  ∀ k i, t.isLive k i = s.isLive k i ∧ (t.recAt k i).gen = (s.recAt k i).gen ∧ (t.recAt k i).text = (s.recAt k i).text

/-! ## Invariants -/

/-- Every kind, in kind number order (R1). -/
def allKinds : List Kind :=
  [.channel, .timebase, .trigger, .cursor, .measurement, .object, .binding, .lamp, .palette, .display, .panel, .notice]

/-- One record's shape: a value for each field, and a fixed record live with generation 0 (R1, R2). -/
def recKept (k : Kind) (r : Rec) : Bool :=
  r.vals.length == (specsOf k).length && (kindCreated k || (r.live && r.gen == 0))

/-- The record table keeps every kind's instances, each with its fields (R1, R3). -/
def State.tableKept (s : State) : Bool :=
  allKinds.all fun k => (s.store.table k).length == kindSize k && (s.store.table k).all (recKept k)

/-- Four groups and at most 16 changes in the launch queue (R16, R20). -/
def State.queueKept (s : State) : Bool := s.store.groups.length == 4 && decide (s.store.queue.length ≤ 16)

/-- A PANEL_READ snapshot held for its subtraction is of 48 keys and 12 encoders (R117, R190). -/
def tieKept : Tie → Bool
  | .panel snap => snap.counts.length == 48 && snap.pending.length == 12
  | _ => true

/-- 48 keys and 12 encoders (R112), press counts within 0-15, pending detents and carries within -127 to +127 (R116), and so
many of each in a snapshot held by the link (R117). -/
def State.panelKept (s : State) : Bool :=
  s.panel.keys.length == 48 && s.panel.encs.length == 12 && tieKept s.link.tie
    && (s.panel.keys.all fun k => decide (k.count ≤ 15))
    && s.panel.encs.all fun e => decide (-127 ≤ e.pending ∧ e.pending ≤ 127 ∧ -127 ≤ e.carry ∧ e.carry ≤ 127)

/-- The flash is in its canonical form; the directory has its 16 entries, and the operation's slot is one of them (R161,
R163). -/
def State.flashKept (s : State) : Bool :=
  Memory.wf s.setup.flash && s.setup.dir.length == 16 && decide (s.setup.slot < 16)

/-- The draw order of R135: higher LAYER first, then higher instance. -/
def drawnBefore (a b : FrameObj) : Prop := b.field 7 < a.field 7 ∨ (b.field 7 = a.field 7 ∧ b.inst < a.inst)

/-! ## What several commands do alike -/

/-- The sweep controller after a capture start with P = 0: the same event goes on to WAITING, where a pending force triggers and
SWEEP_MODE AUTO starts the auto timer for the longer of 40 ms and the sweep time (R73, R74, R75). The trigger kind NONE is log
37's. -/
def State.startsWaiting (s : State) : Sweep :=
  if s.sweep.force then
    { s.sweep with acq := .capturing, colCount := 0, trigKind := .forced, force := false, auto := none }
  else
    { s.sweep with
      acq := .waiting, colCount := 0, trigKind := .none,
      auto := if s.get Fld.tbSweepMode = 0 then some (Nat.max 40000000 (1000 * samplesPerColumn (s.get Fld.tbScale)))
        else s.sweep.auto }

/-- What step 3 of the start-up load leaves (R177): a VALID slot 0 is being recalled, and otherwise the load has ended with the
record of an OK start. -/
def State.loadsSetup (s t : State) : Prop :=
  t.setup.starting = true ∧ t.setup.calBuf = [] ∧ t.setup.flash = s.setup.flash ∧ t.store.queue = s.store.queue
  ∧ ((s.setup.dirAt 0).state = .valid → t.setup.phase = .readHeader ∧ t.setup.op = .recall ∧ t.setup.slot = 0
      ∧ t.setup.counts = Counts.zero
      ∧ t.store.groups = s.store.groups.set 3 { state := .holding, entries := [], reserved := (s.setup.dirAt 0).count })
  ∧ ((s.setup.dirAt 0).state ≠ .valid → t.setup.phase = .idle ∧ t.setup.op = .none ∧ t.setup.setupResult = .absent
      ∧ t.setup.last = { op := .start, slot := 0, result := .ok, counts := Counts.zero } ∧ t.store.groups = s.store.groups)

/-- The start-up result of a load's counts (R178). -/
def loadResult (c : Counts) : StartResult :=
  if 0 < c.uncorrectable + c.unknown then .partially else if 0 < c.corrected then .corrected else .loaded

/-- A save's wipe has ended, and neither an attempt's end nor the directory shows yet that its first program step has begun
(R163, R166, log 10). -/
def State.firstStepDue (s : State) : Prop :=
  s.setup.phase = .program ∧ s.setup.progress = 0 ∧ s.setup.attempts = 0 ∧ (s.setup.dirAt s.setup.slot).state ≠ .bad

/-- The flash, the directory and group 3 after a cut-off, row by row of R169's table. The BAD entry's count is log 11's, whether
the first program step of a save has begun where nothing shows it yet is log 10's; every other byte of the flash stays. -/
def State.cutLeaves (s t : State) : Prop :=
  (s.setup.phase = .pumpCheck → t.setup.flash = s.setup.flash ∧ t.setup.dir = s.setup.dir)
  ∧ (s.setup.phase = .voidMark ∨ s.setup.phase = .wipe ∨ s.setup.phase = .sealHeader ∨ s.setup.phase = .sealMarker →
      t.setup.dir = s.setup.dir.modify s.setup.slot (fun d => { d with state := .bad }))
  ∧ (s.setup.phase = .program → ¬ s.firstStepDue ∨ Config.firstStepBegun s.free = true →
      t.setup.dir = s.setup.dir.modify s.setup.slot (fun d => { d with state := .bad }))
  ∧ (s.firstStepDue → Config.firstStepBegun s.free = false →
      t.setup.flash = s.setup.flash ∧ t.setup.dir = s.setup.dir.set s.setup.slot { state := .erased, count := 0 })
  ∧ (s.setup.phase = .program → ∀ a,
      a < placeBase s.setup.slot (s.setup.progress + 1) ∨ placeBase s.setup.slot (s.setup.progress + 1) + 11 ≤ a →
      t.setup.flash.read a = s.setup.flash.read a)
  ∧ (s.setup.phase = .readHeader ∨ s.setup.phase = .readEntries ∨ s.setup.phase = .launchWait →
      t.setup.flash = s.setup.flash ∧ t.setup.dir = s.setup.dir
      ∧ t.store.groups = if s.setup.slot = 15 then s.store.groups else s.store.groups.set 3 Group.reset)
  ∧ (s.setup.phase ≠ .program → ∀ a, a < slotBase s.setup.slot ∨ slotBase s.setup.slot + 2048 ≤ a →
      t.setup.flash.read a = s.setup.flash.read a)
  ∧ (s.flashKept = true → s.setup.phase = .voidMark ∨ s.setup.phase = .sealMarker →
      t.setup.flash.read (slotBase s.setup.slot) ≠ sealed)
  ∧ (s.flashKept = true → s.setup.phase = .voidMark → t.setup.flash.read (slotBase s.setup.slot) ≠ blankByte)

/-- Bytes of the flash, as many as asked, are blank. -/
def State.blankAt (s : State) (a n : Nat) : Prop := isBlank (s.setup.flash.bytes a n) = true

/-- What an undisturbed scan finds in a slot (R163), whatever count a BAD entry shows (log 11). -/
def State.scansAs (t : State) (slot : Nat) (st : DirState) : Prop :=
  ∀ c, (judgeSlot t.setup.flash [] c slot).state = st

/-- What the scan finds after a reset in an operation, row by row of R176's table. An operation has voided the slot before it
wipes it, has blanked the header before it programs, and has programmed the first entry place before it seals. -/
def State.resetLeaves (s t : State) : Prop :=
  (s.setup.phase = .pumpCheck ∨ s.setup.phase.writesFlash = false → t.setup.flash = s.setup.flash)
  ∧ (s.setup.phase = .voidMark → t.scansAs s.setup.slot .bad)
  ∧ (s.setup.phase = .wipe → s.setup.flash.read (slotBase s.setup.slot) ≠ sealed →
      (¬ s.blankAt (placeBase s.setup.slot 1) 11 → t.scansAs s.setup.slot .bad)
      ∧ (s.blankAt (placeBase s.setup.slot 1) 11 →
          (t.blankAt (slotBase s.setup.slot) 16 → t.scansAs s.setup.slot .erased)
          ∧ (¬ t.blankAt (slotBase s.setup.slot) 16 → t.scansAs s.setup.slot .bad)))
  ∧ (s.setup.phase = .program → s.blankAt (slotBase s.setup.slot) 16 →
      (t.blankAt (placeBase s.setup.slot 1) 11 → t.scansAs s.setup.slot .erased)
      ∧ (¬ t.blankAt (placeBase s.setup.slot 1) 11 → t.scansAs s.setup.slot .bad))
  ∧ (s.setup.phase = .sealHeader ∨ s.setup.phase = .sealMarker → ¬ s.blankAt (placeBase s.setup.slot 1) 11 →
      s.setup.flash.read (slotBase s.setup.slot) = blankByte → t.scansAs s.setup.slot .bad)

end Sys2Proof.Machine
end

