-- ==== Sys2Proof/Certificates/Slice0/Obligations.lean ====
section
/-! DEFINITION. The statements for the provers. `exec c s = .next u` with u written out is a statement of the whole next
state, so of its frame too. -/

open Sys2Proof Sys2Proof.Machine

/-! ## The queue -/

/-- A step takes the command at the front of the queue; with none the part idles (log 1). -/
def Obligations.StepRunsFrontCommand : Prop :=
  (∀ (c : Instr) (rest : List Instr) (s : State), s.pending = c :: rest → step s = exec c { s with pending := rest })
  ∧ ∀ s : State, s.pending = [] → step s = .next s

/-! ## The link -/

/-- CS_N_FALL: the summary byte is formed, bit by bit as R189 lays it out, and the parser is in COMMAND, with MISO
carrying the summary byte (R179, R180). ALERT_N is asserted while a source in ENABLE and in ALERT_SET is pending, ATTN_N while
one in ENABLE and not in ALERT_SET is (R188); MEAS_LIMIT, source 5, is pending while a FAIL flag is set (R186). -/
def Obligations.SummaryFormedAtFall : Prop :=
  (∀ (s : State) (p : Nat → Prop), (∀ n, p n ↔ if n = 5 then s.notices.fails ≠ 0 else s.notices.flags.getLsbD n = true) →
    (s.alertAsserted = true ↔ ∃ n, n < 19 ∧ p n ∧ s.get Fld.noEnable / 2 ^ n % 2 = 1 ∧ s.get Fld.noAlertSet / 2 ^ n % 2 = 1)
    ∧ (s.attnAsserted = true ↔ ∃ n, n < 19 ∧ p n ∧ s.get Fld.noEnable / 2 ^ n % 2 = 1 ∧ s.get Fld.noAlertSet / 2 ^ n % 2 = 0))
  ∧ ∀ s : State, s.held = false → s.link.parser = .idle →
    ∃ b : Byte,
      exec .csNFall s = .next { s with link := { csLow := true, parser := .command, summary := b, response := [], tie := .none } }
      ∧ State.miso { s with link := { csLow := true, parser := .command, summary := b, response := [], tie := .none } } = .byte b
      ∧ b.getLsbD 7 = !s.setup.starting ∧ b.getLsbD 6 = s.alertAsserted ∧ b.getLsbD 5 = s.attnAsserted
      ∧ b.getLsbD 4 = s.setupBusy ∧ b.getLsbD 3 = false ∧ b.toNat % 8 = acqCode s.sweep.acq

/-- COMMAND_BYTE, PARAMETER_BYTE and UNKNOWN_COMMAND: the parser receives the bytes and counts those still expected, WRITE_TEXT's
length byte says how many follow, a byte that names no command is answered at once, and the bytes of a frame are those of one
command alone, but for the CAL_EN pin (log 7) (R179, R181, R189). The bytes of every command decode to it, those of no other do,
and a word that holds them, byte 0 lowest (log 2), spells it. -/
def Obligations.ParserCountsBytes : Prop :=
  (∀ (s : State) (b : Byte) (n : Nat), s.held = false → s.link.parser = .command → paramCount b = some (n + 1) →
    exec (.commandByte b) s = .next { s with link := { s.link with parser := .parameters b [] (n + 1) } })
  ∧ (∀ (s : State) (b c : Byte) (got : List Byte) (n : Nat), s.held = false → s.link.parser = .parameters c got n → 2 ≤ n →
    exec (.parameterByte b) s = .next { s with link := { s.link with parser := .parameters c (got ++ [b]) (n - 1) } })
  ∧ (∀ (s : State) (b : Byte) (got : List Byte), s.held = false → s.link.parser = .parameters 0x04 got 1 → got.length = 3 →
    b ≠ 0 →
    exec (.parameterByte b) s = .next { s with link := { s.link with parser := .parameters 0x04 (got ++ [b]) b.toNat } })
  ∧ (∀ (s : State) (b : Byte), s.held = false → s.link.parser = .command → paramCount b = none →
    exec (.unknownCommand b) s = .next (s.answer .unknownCommand [] .none))
  ∧ (∀ (i : Instr) (code : Byte) (ps : List Byte), wire i = some (code, ps) →
    paramCount code = some (if code = 0x04 then 4 else ps.length))
  ∧ (∀ (i j : Instr) (code : Byte) (ps : List Byte), wire i = some (code, ps) → wire j = some (code, ps) →
    i = j ∨ (∃ slot a b, i = .save slot a ∧ j = .save slot b) ∨ ∃ slot a b, i = .erase slot a ∧ j = .erase slot b)
  ∧ (∀ (i : Instr) (code : Byte) (ps : List Byte), i.wellFormed = true → wire i = some (code, ps) →
    decodeCommand (calLevel i) (code :: ps) = some i
    ∧ ∀ nbits w : Nat, calLevel i = false → 8 ≤ nbits → w < 2 ^ nbits →
      (List.range (ps.length + 1)).map (wordByte w) = code :: ps → decodeTableWord nbits w = some i)
  ∧ (∀ (cal : Bool) (bs : List Byte) (i : Instr), decodeCommand cal bs = some i →
    i.wellFormed = true ∧ ∃ code ps, bs = code :: ps ∧ wire i = some (code, ps))
  ∧ ∀ nbits w : Nat, paramCount (wordByte (w % 2 ^ nbits) 0) = none → decodeTableWord nbits w = none

/-- NOP, IDENTIFY and SETUP_STATUS are answered OK in every state, STARTING included, and change nothing but the link and
what is said here of a save (R181, R183, R189). SETUP_STATUS shows the directory as it stands when it is taken: where the first program step of a save is due and
nothing shows it begun, it may have begun by then, which has made the entry BAD (R163, R166), and is drawn afresh at each such
report (log 10). That every directory entry, ERASED and BAD ones included, shows in its kind bit the kind of its slot number is
log 11's choice, and that the bits R189 gives no meaning are 0 log 31's. -/
def Obligations.ReportsAnswer : Prop :=
  (∀ s : State, s.hears .nop = true → exec .nop s = .next (s.answer .ok [] .none))
  ∧ (∀ s : State, s.hears .identify = true → ∃ cal set : Byte,
      exec .identify s = .next (s.answer .ok [0x04, 0x40, 0x01, BitVec.ofInt 8 (causeCode s.cause), cal, set] .none)
      ∧ (s.setup.starting = true → cal = 0 ∧ set = 0)
      ∧ (s.setup.starting = false → cal = BitVec.ofInt 8 (startResultCode s.setup.calResult)
          ∧ set = BitVec.ofInt 8 (startResultCode s.setup.setupResult)))
  ∧ (∀ s : State, s.hears .setupStatus = true → ∃ (t : State) (data : List Byte),
      exec .setupStatus s = .next (t.answer .ok data .none) ∧ data.length = 42
      ∧ data.take 1 = [BitVec.ofInt 8 (opStateCode s.setup)]
      ∧ data[9]? = some (if s.setup.supplyLow then 1 else 0)
      ∧ (∀ i, i < 16 → (data.drop (10 + 2 * i)).take 2 =
          [BitVec.ofInt 8 (dirStateCode (t.setup.dirAt i).state + (if i = 15 then 16 else 0)),
           BitVec.ofNat 8 (t.setup.dirAt i).count])
      ∧ (¬ s.firstStepDue → t = s)
      ∧ (s.firstStepDue → t = { s with
          free := s.free + 1
          setup := { s.setup with
            dir := if Config.firstStepBegun s.free = true then
                s.setup.dir.modify s.setup.slot (fun d => { d with state := .bad })
              else s.setup.dir } }))

/-- NOTICE_READ reports the pending sources, the FAIL flags and the highest pending source, and changes nothing;
NOTICE_CLEAR clears the sources and FAIL flags it names (R187). -/
def Obligations.NoticesReadAndCleared : Prop :=
  (∀ s : State, s.hears .noticeRead = true →
    exec .noticeRead s = .next (s.answer .ok
      (beBytes 3 (pendingSources s.notices).toNat ++ [s.notices.fails]
        ++ [match highestPending s.notices with
            | some i => BitVec.ofNat 8 i
            | none => 255]) .none))
  ∧ ∀ (s : State) (a : BitVec 24) (b : Byte), s.takes (.noticeClear a b) = true → ∃ n : Notices,
    exec (.noticeClear a b) s = .next (({ s with notices := n } : State).answer .ok [] .none)
    ∧ (∀ i, i < 19 → n.flags.getLsbD i = (s.notices.flags.getLsbD i && !a.getLsbD i))
    ∧ ∀ i, i < 8 → n.fails.getLsbD i = (s.notices.fails.getLsbD i && !b.getLsbD i && !a.getLsbD 5)

/-- RESET is answered OK and nothing else moves; the rise of CS_N that ends the frame takes the reset (R184).
What Comb.reset, SamplePath.reset, Setup.reset and Link.reset hold where the spec states no reset value (the contents of banks,
accumulators, the frame latched at the front end, the supply state, the summary byte) is log 29's choice; the flash is kept where
no step that writes it runs. -/
def Obligations.ResetCommandTakenAtRise : Prop :=
  (∀ s : State, s.takes .reset = true → exec .reset s = .next (s.answer .ok [] .reset))
  ∧ ∀ (s : State) (clocked : Bool), s.held = false → (s.link.parser = .response ∨ s.link.parser = .spent) →
    s.link.tie = .reset → ∃ t : State, exec (.csNRise clocked) s = .next t
      ∧ t.held = true ∧ t.cause = .command ∧ t.store = Store.reset ∧ t.sweep = Sweep.reset ∧ t.comb = Comb.reset
      ∧ t.path = SamplePath.reset ∧ t.trig = Trig.reset ∧ t.meas = Meas.reset ∧ t.panel = Panel.reset s.panel.lamps
      ∧ t.rend = Rend.reset ∧ t.notices = Notices.reset ∧ t.link = Link.reset false ∧ t.pending = s.pending
      ∧ t.setup = Setup.reset t.setup.flash ∧ (s.setup.phase.writesFlash = false → t.setup.flash = s.setup.flash)

/-- RESPONSE_END and CS_N_RISE: how a frame ends, and what MISO carries until then (R179, R182, R63, R117). -/
def Obligations.FrameEnds : Prop :=
  (∀ s : State, s.held = false → s.link.parser = .response → s.link.tie = .none →
    exec .responseEnd s = .next { s with link := { s.link with parser := .spent } })
  ∧ (∀ (s : State) (ch : Nat), s.held = false → s.link.parser = .response → s.link.tie = .columns ch →
    exec .responseEnd s =
      .next (releaseLend .link ch { s with link := { s.link with parser := .spent, tie := .none } }))
  ∧ (∀ (s : State) (clocked : Bool), s.held = false → s.link.parser = .command →
    exec (.csNRise clocked) s =
      .next (raiseIf clocked .frameError { s with link := { s.link with parser := .idle, csLow := false } }))
  ∧ (∀ (s : State) (clocked : Bool) (c : Byte) (got : List Byte) (n : Nat), s.held = false →
    s.link.parser = .parameters c got n →
    exec (.csNRise clocked) s =
      .next (raise .frameError { s with link := { s.link with parser := .idle, csLow := false } }))
  ∧ (∀ (s : State) (clocked : Bool), s.held = false → (s.link.parser = .response ∨ s.link.parser = .spent) →
    s.link.tie = .none →
    exec (.csNRise clocked) s = .next { s with link := { s.link with parser := .idle, csLow := false } })
  ∧ (∀ (s : State) (clocked : Bool) (snap : PanelSnap), s.held = false → s.link.parser = .response →
    s.link.tie = .panel snap →
    exec (.csNRise clocked) s = .next { s with link := { s.link with parser := .idle, csLow := false, tie := .none } })
  ∧ (∀ (s : State) (clocked : Bool) (ch : Nat), s.held = false → s.link.parser = .response →
    s.link.tie = .columns ch →
    exec (.csNRise clocked) s =
      .next (releaseLend .link ch { s with link := { s.link with parser := .idle, csLow := false, tie := .none } }))
  ∧ ∀ s : State, (s.link.csLow = false → s.miso = .highZ)
    ∧ (s.link.csLow = true → s.link.parser = .spent ∨ (∃ c got n, s.link.parser = .parameters c got n) → s.miso = .byte 0)
    ∧ (s.link.csLow = true → s.link.parser = .response → s.miso = .response s.link.response)

/-- During the start-up load every link command but NOP, IDENTIFY, NOTICE_READ and SETUP_STATUS is answered with STARTING,
and nothing else changes (R177, R181). -/
def Obligations.StartingRefusesCommands : Prop :=
  ∀ (i : Instr) (s : State), s.hears i = true → s.setup.starting = true → allowedStarting i = false →
    exec i s = .next (s.answer .starting [] .none)

/-- A refused command sends its status byte alone and changes nothing: whatever command puts a status above CLAMPED in the
response has moved nothing but the link (R181). -/
def Obligations.RefusalChangesNothing : Prop :=
  ∀ (i : Instr) (s t : State) (st : Status) (data : List Byte), wire i ≠ none →
    s.link.parser ≠ .response → exec i s = .next t → t.responds st data → st ≠ .ok → st ≠ .clamped →
    data = [] ∧ t = s.answer st [] .none

/-- A part held in reset takes nothing but the reset events and the CS_N pin (the model's choice, log 6, from R184). -/
def Obligations.HeldPartIgnores : Prop :=
  ∀ (i : Instr) (s : State), s.held = true → reachesReset i = false → exec i s = .next s

/-! ## Reset and start-up -/

/-- POWER_ON, RESET_N and SUPPLY_RESET put every block in its reset state, record their cause, and leave the flash as it
was where no step that writes it was in progress; where one was, the slot is what R176's table says the scan finds, if no read of it
is disturbed (log 8) (R184, R176, R161, R163). What Comb.reset, SamplePath.reset, Setup.reset and Link.reset
hold where the spec states no reset value (the contents of banks, accumulators, the frame latched at the front end, the supply
state, the summary byte) is log 29's choice. -/
def Obligations.ResetsRestoreEverything : Prop :=
  ∀ (i : Instr) (cause : Cause) (s : State),
    (i = .powerOn ∧ cause = .power) ∨ (i = .resetN ∧ cause = .pin) ∨ (i = .supplyReset ∧ cause = .supply) →
    ∃ t : State, exec i s = .next t ∧ t.held = true ∧ t.cause = cause ∧ t.store = Store.reset
      ∧ t.path = SamplePath.reset ∧ t.comb = Comb.reset ∧ t.sweep = Sweep.reset ∧ t.trig = Trig.reset
      ∧ t.meas = Meas.reset ∧ (∃ lamps, t.panel = Panel.reset lamps) ∧ t.rend = Rend.reset
      ∧ t.link = Link.reset s.link.csLow ∧ t.notices = Notices.reset ∧ t.pending = s.pending
      ∧ t.setup = Setup.reset t.setup.flash
      ∧ (s.setup.phase.writesFlash = false → t.setup.flash = s.setup.flash)
      ∧ (s.flashKept = true → s.resetLeaves t)

/-- RESET_RELEASE with VSENSE at 0.95 V or above: the supply is judged against 1.10 V, four front-end frames are put in
the line with CH1's started, a settle of 10 ms runs, and the directory is scanned (R35, R163, R175, R177). -/
def Obligations.ReleaseStartsLoad : Prop :=
  ∀ (cause : Cause) (flash : Memory) (lamps : List Bool) (cs : Bool) (n : Nat) (q : List Instr) (v : Nat) (fl : Flips),
    950000 ≤ v → ∃ t : State,
      exec (.resetRelease v fl) (State.inReset cause flash lamps cs n q) = .next t
      ∧ t.held = false ∧ t.cause = cause ∧ t.setup.flash = flash ∧ t.setup.starting = true
      ∧ t.setup.supplyLow = decide (v < 1100000) ∧ t.noticed .supplyLow = decide (v < 1100000)
      ∧ t.sweep.acq = .stopped ∧ t.sweep.settle = some 10000
      ∧ t.path.sending = some (0, FeSettings.reset)
      ∧ t.path.pending = [none, some FeSettings.reset, some FeSettings.reset, some FeSettings.reset]
      ∧ (∀ f : FieldId, t.get f = State.reset.get f) ∧ State.reset.get Fld.trLevelCode = 512
      ∧ t.comb = Comb.reset ∧ t.meas = Meas.reset ∧ t.rend = Rend.reset ∧ t.link = Link.reset cs ∧ t.pending = q
      ∧ (∀ i, i < 16 → ∃ c : Nat, t.setup.dirAt i = judgeSlot flash fl c i)
      ∧ ((t.setup.dirAt 15).state = .valid → t.setup.phase = .readHeader ∧ t.setup.slot = 15)
      ∧ ((t.setup.dirAt 15).state ≠ .valid → t.noticed .calMissing = true)

/-- STARTUP_COMPLETION: START_DONE is raised and a RUN is taken, which settles while the start-up settle runs, and otherwise
starts a capture, with P = 0 as with any other (R178, R73, R74). The trigger kind after a capture start is log 37's. -/
def Obligations.StartupCompletionRuns : Prop :=
  ∀ s : State, s.held = false → s.setup.starting = true → s.setup.phase = .idle → s.sweep.acq = .stopped →
    ∃ t : State, exec .startupCompletion s = .next t ∧ t.setup = { s.setup with starting := false }
      ∧ t.noticed .startDone = true ∧ t.link = s.link ∧ t.rend = s.rend
      ∧ t.store = s.store ∧ t.path = s.path ∧ t.panel = s.panel ∧ t.meas = s.meas
      ∧ (s.sweep.settle ≠ none → t.sweep = { s.sweep with acq := .settling })
      ∧ (s.sweep.settle = none → 0 < s.get Fld.tbTrigColumn → t.sweep.acq = .arming ∧ t.sweep.colCount = 0)
      ∧ (s.sweep.settle = none → s.get Fld.tbTrigColumn = 0 → t.sweep = s.startsWaiting)

/-- SUPPLY_FALL and SUPPLY_RISE (R175); a fall cuts off an operation that writes the flash, which leaves the slot and its
directory entry by R169's table. The BAD entry's count is log 11's; whether the first program step has begun, where nothing shows
it yet, is log 10's. -/
def Obligations.SupplyMonitorMoves : Prop :=
  (∀ s : State, s.held = false → s.setup.supplyLow = false → s.setup.phase.writesFlash = false →
    exec .supplyFall s = .next (raise .supplyLow { s with setup := { s.setup with supplyLow := true } }))
  ∧ (∀ s : State, s.held = false → s.setup.supplyLow = false → s.setup.phase.writesFlash = true →
    ∃ t : State, exec .supplyFall s = .next t ∧ t.setup.phase = .idle ∧ t.setup.last.result = .supplyLow
      ∧ t.setup.last.op = s.setup.op ∧ t.setup.last.slot = s.setup.slot ∧ t.setup.supplyLow = true
      ∧ t.noticed .supplyLow = true ∧ t.noticed .setupFail = true ∧ t.store = s.store ∧ t.link = s.link
      ∧ s.cutLeaves t ∧ s.othersKept t)
  ∧ (∀ s : State, s.held = false → exec .supplyRise s = .next { s with setup := { s.setup with supplyLow := false } })

/-! ## The record store -/

/-- READ answers the live value, or with option 1 the effective one, with the PENDING flag, OBJECT.TEXT as length and
characters; a bad option, and for READ and WRITE a handle that names no live record, a field the kind has not, a RESULT field, a
value outside its set and a reference that names no live record of the kind required, are refused, each by its own status; so are
the writes that the owners refuse: a GATE under CURSORS without two live cursors (R8), a BINDING's KIND or TARGET (R119), a
LAMP's SOURCE or FIELD (R128), a READOUT's bindings and form (R152). A written value is brought within the range that other fields
give it (R2, R3, R5, R6, R7, R8). The other bits of READ's flags byte are log 31; a waiting recall's GATE entry as a reference value
is log 36, a waiting readout entry log 34, and a waiting recall's value beyond its range as a reference value log 41; with it, every
value stored is within its field's range (R25). -/
def Obligations.ReadAnswersValue : Prop :=
  (∀ (s : State) (h : BitVec 16) (n o : Byte) (f : FieldId) (sp : FieldSpec), s.takes (.read h n o) = true →
    s.fieldAt h n = .ok (f, sp) → ¬ (f.kind = .object ∧ f.num = 10) →
    (o = 0 → exec (.read h n o) s =
      .next (s.answer .ok ((if s.pendingField f then 1 else 0) :: beBytes 8 (s.get f)) .none))
    ∧ (o = 1 → exec (.read h n o) s =
      .next (s.answer .ok ((if s.pendingField f then 1 else 0) :: beBytes 8 (s.eff f)) .none))
    ∧ (2 ≤ o.toNat → exec (.read h n o) s = .next (s.answer .badValue [] .none)))
  ∧ (∀ (s : State) (h : BitVec 16) (n o : Byte) (f : FieldId) (sp : FieldSpec), s.takes (.read h n o) = true →
    s.fieldAt h n = .ok (f, sp) → f.kind = .object → f.num = 10 →
    (o = 0 → exec (.read h n o) s = .next (s.answer .ok ((if s.pendingField f then 1 else 0)
      :: BitVec.ofNat 8 (s.recAt .object f.inst).text.length :: (s.recAt .object f.inst).text) .none))
    ∧ (o = 1 → exec (.read h n o) s = .next (s.answer .ok ((if s.pendingField f then 1 else 0)
      :: BitVec.ofNat 8 (s.effText f.inst).length :: s.effText f.inst) .none))
    ∧ (2 ≤ o.toNat → exec (.read h n o) s = .next (s.answer .badValue [] .none)))
  ∧ (∀ (s : State) (i : Instr) (h : BitVec 16) (n : Byte), (∃ o, i = .read h n o) ∨ (∃ v, i = .write h n v) →
    s.takes i = true →
    ((∀ k, kindOf (h.toNat / 4096) = some k → ¬ (h.toNat / 16 % 256 < kindSize k
        ∧ s.isLive k (h.toNat / 16 % 256) = true ∧ (s.recAt k (h.toNat / 16 % 256)).gen = h.toNat % 16)) →
      exec i s = .next (s.answer .noRecord [] .none))
    ∧ ∀ k, kindOf (h.toNat / 4096) = some k → h.toNat / 16 % 256 < kindSize k →
      s.isLive k (h.toNat / 16 % 256) = true → (s.recAt k (h.toNat / 16 % 256)).gen = h.toNat % 16 →
      specAt k n.toNat = none → exec i s = .next (s.answer .noField [] .none))
  ∧ (∀ (s : State) (h : BitVec 16) (n : Byte) (v : BitVec 64) (f : FieldId) (sp : FieldSpec), s.takes (.write h n v) = true →
    s.fieldAt h n = .ok (f, sp) →
    (sp.cls = .result ∨ (f.kind = .object ∧ f.num = 0) → exec (.write h n v) s = .next (s.answer .readOnly [] .none))
    ∧ (sp.cls ≠ .result → ¬ (f.kind = .object ∧ f.num = 0) →
      (sp.ty = .text → exec (.write h n v) s = .next (s.answer .badValue [] .none))
      ∧ (∀ m, sp.ty = .enum m → v.toInt < 0 ∨ m ≤ v.toInt → exec (.write h n v) s = .next (s.answer .badValue [] .none))
      ∧ (sp.ty = .onOff → v.toInt < 0 ∨ 2 ≤ v.toInt → exec (.write h n v) s = .next (s.answer .badValue [] .none))
      ∧ (sp.ty = .cursorRef → v.toInt ≠ -1 → s.refersTo [.cursor] v.toInt = none →
        exec (.write h n v) s = .next (s.answer .badReference [] .none))
      ∧ (sp.ty = .bindRef → v.toInt ≠ -1 → s.refersTo [.measurement, .cursor] v.toInt = none →
        exec (.write h n v) s = .next (s.answer .badReference [] .none))
      ∧ (f.kind = .measurement → f.num = 2 → v = 1 →
        s.gatesLive (s.refVal (s.pathFor .sweep) (Fld.meGateA f.inst)) (s.refVal (s.pathFor .sweep) (Fld.meGateB f.inst)) = false →
        exec (.write h n v) s = .next (s.answer .badReference [] .none))
      ∧ (f.kind = .measurement → f.num = 3 ∨ f.num = 4 → s.refVal (s.pathFor .sweep) (Fld.meGate f.inst) = 1 →
        s.gatesLive (if f.num = 3 then v.toInt else s.refVal (s.pathFor .sweep) (Fld.meGateA f.inst))
          (if f.num = 4 then v.toInt else s.refVal (s.pathFor .sweep) (Fld.meGateB f.inst)) = false →
        exec (.write h n v) s = .next (s.answer .badReference [] .none))))
  ∧ (∀ (s : State) (h : BitVec 16) (n : Byte) (v : BitVec 64) (f : FieldId) (sp : FieldSpec), s.takes (.write h n v) = true →
    s.fieldAt h n = .ok (f, sp) → f.kind = .binding →
    (f.num = 0 →
      ((v = 2 ∧ f.inst < 48) ∨ (v = 5 ∧ 48 ≤ f.inst) → exec (.write h n v) s = .next (s.answer .badValue [] .none))
      ∧ ((v = 2 ∧ 48 ≤ f.inst) ∨ v = 3 ∨ v = 4 →
        (∀ g sq, s.namesField (s.get (Fld.biTarget f.inst)) = some (g, sq) →
          sq.cls = .result ∨ g.kind = .binding ∨ (g.kind = .object ∧ g.num = 0) ∨ (v = 2 ∧ ∀ lo hi, sq.ty ≠ .numeric lo hi)
            ∨ (v = 3 ∧ sq.ty ≠ .onOff) ∨ (v = 4 ∧ sq.ty ≠ .onOff ∧ ∀ m, sq.ty ≠ .enum m)) →
        exec (.write h n v) s = .next (s.answer .badReference [] .none)))
    ∧ ∀ kind : Int, f.num = 1 → kind = s.get (Fld.biKind f.inst) →
      (v.toInt = -1 → kind = 2 ∨ kind = 3 ∨ kind = 4 → exec (.write h n v) s = .next (s.answer .badReference [] .none))
      ∧ (v.toInt ≠ -1 →
        (∀ g sq, s.namesField v.toInt = some (g, sq) →
          sq.cls = .result ∨ g.kind = .binding ∨ (g.kind = .object ∧ g.num = 0) ∨ sq.ty = .text ∨ sq.ty = .label
            ∨ sq.ty = .cursorRef ∨ sq.ty = .bindRef ∨ sq.ty = .fieldRef ∨ (kind = 2 ∧ ∀ lo hi, sq.ty ≠ .numeric lo hi)
            ∨ (kind = 3 ∧ sq.ty ≠ .onOff) ∨ (kind = 4 ∧ sq.ty ≠ .onOff ∧ ∀ m, sq.ty ≠ .enum m)) →
        exec (.write h n v) s = .next (s.answer .badReference [] .none)))
  ∧ (∀ (s : State) (h : BitVec 16) (n : Byte) (v : BitVec 64) (f : FieldId) (sp : FieldSpec), s.takes (.write h n v) = true →
    s.fieldAt h n = .ok (f, sp) → f.kind = .lamp →
    (f.num = 0 → v = 2 ∨ v = 3 → s.get (Fld.laField f.inst) = -1 →
      exec (.write h n v) s = .next (s.answer .badReference [] .none))
    ∧ (f.num = 1 → v.toInt = -1 → s.get (Fld.laSource f.inst) = 2 ∨ s.get (Fld.laSource f.inst) = 3 →
      exec (.write h n v) s = .next (s.answer .badReference [] .none))
    ∧ (f.num = 1 → v.toInt ≠ -1 → (∀ g sq, s.namesField v.toInt = some (g, sq) → sq.ty = .text) →
      exec (.write h n v) s = .next (s.answer .badReference [] .none)))
  ∧ (∀ (s : State) (h : BitVec 16) (n : Byte) (v : BitVec 64) (f : FieldId) (sp : FieldSpec) (form b b2 : Int),
    s.takes (.write h n v) = true → s.fieldAt h n = .ok (f, sp) → f.kind = .object → s.get (Fld.obKind f.inst) = 6 →
    (11 ≤ f.num ∧ f.num ≤ 12 ∧ v.toInt ≠ -1) ∨ (f.num = 13 ∧ 0 ≤ v.toInt ∧ v.toInt < 6) →
    form = (if f.num = 13 then v.toInt else s.refVal (s.pathFor .view) (Fld.obForm f.inst)) →
    b = (if f.num = 11 then v.toInt else s.refVal (s.pathFor .view) (Fld.obBind f.inst)) →
    b2 = (if f.num = 12 then v.toInt else s.refVal (s.pathFor .view) (Fld.obBind2 f.inst)) →
    (b ≠ -1 ∧ s.refersTo (if form = 0 then [.measurement, .cursor] else if form ≤ 3 then [.measurement] else [.cursor]) b = none)
      ∨ (b2 ≠ -1 ∧ s.refersTo (if form ≤ 3 then [] else [.cursor]) b2 = none) →
    exec (.write h n v) s = .next (s.answer .badReference [] .none))
  ∧ ∀ (s : State) (p : WritePath) (i : Nat) (sp : FieldSpec) (v : Int),
    (specAt .channel 4 = some sp → (s.storedValue p (Fld.chOffsetUv i) sp v).1 =
      limit (-(offsetLimit (s.refVal p (Fld.chScale i)) (s.refVal p (Fld.chProbe i))))
        (offsetLimit (s.refVal p (Fld.chScale i)) (s.refVal p (Fld.chProbe i))) v)
    ∧ (specAt .cursor 2 = some sp → (s.storedValue p (Fld.cuPosition i) sp v).1 =
      limit 0 (if s.refVal p (Fld.cuAxis i) = 0 then 999 else 1023) v)
    ∧ (specAt .trigger 8 = some sp → (s.storedValue p Fld.trAlWide sp v).1 =
      max (limit 0 200 v) (limit 0 100 (s.refVal p Fld.trAlStable)))
    ∧ (specAt .measurement 7 = some sp → (s.storedValue p (Fld.meLimitHi i) sp v).1 =
      max (limit (-10000000000000000) 10000000000000000 v)
        (limit (-10000000000000000) 10000000000000000 (s.refVal p (Fld.meLimitLo i))))
    ∧ (∀ (f : FieldId) (lo hi : Int), specAt f.kind f.num = some sp → sp.ty = .numeric lo hi →
      lo ≤ (s.storedValue p f sp v).1 ∧ (s.storedValue p f sp v).1 ≤ hi)
    ∧ ∀ (f : FieldId) (lo hi : Int), sp.ty = .numeric lo hi →
      ((s.storedValue p f sp v).2 = true ↔ (s.storedValue p f sp v).1 ≠ v)

/-- A WRITE of a calibration field is live as it is taken, limited to the field's range with CLAMPED, and moves no other
field, no bank and no acquisition state (R10, R39). -/
def Obligations.CalibrationWriteIsLive : Prop :=
  ∀ (s : State) (c n : Nat) (lo hi : Int) (v : BitVec 64),
    s.takes (.write (BitVec.ofNat 16 (16 * c)) (BitVec.ofNat 8 n) v) = true → s.tableKept = true → c < 4 →
    (10 ≤ n ∧ n ≤ 18 ∧ lo = -32 ∧ hi = 31) ∨ (n = 19 ∧ lo = 24576 ∧ hi = 40960) →
    ∃ t : State, exec (.write (BitVec.ofNat 16 (16 * c)) (BitVec.ofNat 8 n) v) s = .next t
      ∧ t.get ⟨.channel, c, n⟩ = limit lo hi v.toInt
      ∧ (∀ g : FieldId, g ≠ ⟨.channel, c, n⟩ → t.get g = s.get g)
      ∧ t.responds (if limit lo hi v.toInt = v.toInt then .ok else .clamped) (beBytes 8 (limit lo hi v.toInt))
      ∧ t.store.groups = s.store.groups ∧ t.store.queue = s.store.queue ∧ t.comb = s.comb ∧ t.sweep = s.sweep
      ∧ t.trig = s.trig ∧ t.meas = s.meas ∧ t.path = s.path ∧ t.panel = s.panel ∧ t.notices = s.notices
      ∧ s.recordsKept t ∧ s.restKept t

/-- While a host group is HOLDING, a WRITE that passes its checks goes into that group, in place of the field's entry or as
a new one from the pool, and no record moves (R11). -/
def Obligations.HeldWriteJoinsGroup : Prop :=
  ∀ (s : State) (h : BitVec 16) (n : Byte) (v : BitVec 64) (f : FieldId) (sp : FieldSpec) (g : Nat),
    s.takes (.write h n v) = true →
    s.fieldAt h n = .ok (f, sp) → sp.cls ≠ .config → s.holdingGroup = some g →
    s.writeCheck (.held g) f sp v.toInt = none →
    (entryFor f (s.store.group g).entries = none → 0 < s.poolFree →
      exec (.write h n v) s = .next
        ((setGroup g { s.store.group g with
            entries := (s.store.group g).entries ++ [{ id := f, val := .int (s.storedValue (.held g) f sp v.toInt).1 }] } s).answer
          (if (s.storedValue (.held g) f sp v.toInt).2 then .clamped else .ok)
          (beBytes 8 (s.storedValue (.held g) f sp v.toInt).1) .none))
    ∧ (entryFor f (s.store.group g).entries = none → s.poolFree = 0 →
      exec (.write h n v) s = .next (s.answer .groupFull [] .none))
    ∧ (entryFor f (s.store.group g).entries ≠ none →
      exec (.write h n v) s = .next
        ((setGroup g { s.store.group g with
            entries := replaceEntry f (.int (s.storedValue (.held g) f sp v.toInt).1) (s.store.group g).entries } s).answer
          (if (s.storedValue (.held g) f sp v.toInt).2 then .clamped else .ok)
          (beBytes 8 (s.storedValue (.held g) f sp v.toInt).1) .none))

/-- WRITE_TEXT: unprintable characters become '?', the text is cut to 32 characters with CLAMPED, and the response carries the
text as stored (R9). A HOLDING group takes it as an entry, in place of the field's entry or as a new one; with none a loose write
with an empty queue applies at once, and that object's text alone moves (R11, R4, R20, R23, R24). A handle or field that READ and
WRITE refuse is refused alike, a RESULT field and OBJECT.KIND are read-only, any other field is BAD_VALUE (R7, R9); with no pool
entry or queue place it is GROUP_FULL or QUEUE_FULL. -/
def Obligations.WriteTextStoresPrinted : Prop :=
  (∀ (s : State) (h : BitVec 16) (x : List Byte) (f : FieldId) (sp : FieldSpec), s.takes (.writeText h 10 x) = true →
    s.fieldAt h 10 = .ok (f, sp) → f.kind = .object →
    ∃ (y : List Byte) (st : Status), y.length = Nat.min 32 x.length ∧ st = (if 32 < x.length then .clamped else .ok)
      ∧ (∀ (i : Nat) (b : Byte), i < 32 → x[i]? = some b →
          y[i]? = some (if 32 ≤ b.toNat ∧ b.toNat ≤ 126 then b else 63))
      ∧ (∀ g, s.holdingGroup = some g →
        (entryFor f (s.store.group g).entries = none → 0 < s.poolFree → exec (.writeText h 10 x) s = .next
          ((setGroup g { s.store.group g with entries := (s.store.group g).entries ++ [{ id := f, val := .text y }] } s).answer
            st (BitVec.ofNat 8 y.length :: y) .none))
        ∧ (entryFor f (s.store.group g).entries = none → s.poolFree = 0 →
          exec (.writeText h 10 x) s = .next (s.answer .groupFull [] .none))
        ∧ (entryFor f (s.store.group g).entries ≠ none → exec (.writeText h 10 x) s = .next
          ((setGroup g { s.store.group g with entries := replaceEntry f (.text y) (s.store.group g).entries } s).answer
            st (BitVec.ofNat 8 y.length :: y) .none)))
      ∧ (s.holdingGroup = none →
        (16 ≤ s.store.queue.length → exec (.writeText h 10 x) s = .next (s.answer .queueFull [] .none))
        ∧ (s.store.queue.length < 16 → s.poolFree = 0 → exec (.writeText h 10 x) s = .next (s.answer .groupFull [] .none))
        ∧ (s.store.queue = [] → 0 < s.poolFree → s.tableKept = true →
          ∃ t : State, exec (.writeText h 10 x) s = .next t ∧ (t.recAt .object f.inst).text = y
            ∧ t.responds st (BitVec.ofNat 8 y.length :: y)
            ∧ (∀ k i, t.isLive k i = s.isLive k i ∧ (t.recAt k i).gen = (s.recAt k i).gen
                ∧ (k ≠ .object ∨ i ≠ f.inst → (t.recAt k i).text = (s.recAt k i).text))
            ∧ (∀ g : FieldId, t.get g = s.get g) ∧ t.store.queue = [] ∧ t.store.groups = s.store.groups
            ∧ t.store.dropped = s.store.dropped ∧ t.sweep = s.sweep ∧ t.comb = s.comb ∧ t.meas = s.meas ∧ t.trig = s.trig
            ∧ t.notices = s.notices ∧ s.restKept t)))
  ∧ ∀ (s : State) (h : BitVec 16) (n : Byte) (x : List Byte), s.takes (.writeText h n x) = true →
    (∀ e, s.fieldAt h n = .error e → exec (.writeText h n x) s = .next (s.answer e [] .none))
    ∧ ∀ f sp, s.fieldAt h n = .ok (f, sp) →
      (sp.cls = .result ∨ (f.kind = .object ∧ f.num = 0) → exec (.writeText h n x) s = .next (s.answer .readOnly [] .none))
      ∧ (sp.cls ≠ .result → f.kind ≠ .object ∨ (f.num ≠ 0 ∧ f.num ≠ 10) →
        exec (.writeText h n x) s = .next (s.answer .badValue [] .none))

/-- A loose WRITE of DISPLAY.BACKGROUND or GRID_COLOR with an empty queue applies at once: the field takes the value limited
to 0-31, the queue is empty again, and no other field moves. A loose WRITE of CURSOR.AXIS does so too, and brings POSITION
within the range of the new AXIS (R4, R11, R20, R23, R24, R25). -/
def Obligations.LooseViewWriteApplies : Prop :=
  (∀ (s : State) (n : Nat) (v : BitVec 64), s.takes (.write (BitVec.ofNat 16 (9 * 4096)) (BitVec.ofNat 8 n) v) = true →
    s.tableKept = true → s.queueKept = true →
    s.store.queue = [] → s.holdingGroup = none → 0 < s.poolFree → (n = 1 ∨ n = 3) →
    ∃ t : State, exec (.write (BitVec.ofNat 16 (9 * 4096)) (BitVec.ofNat 8 n) v) s = .next t
      ∧ t.get ⟨.display, 0, n⟩ = limit 0 31 v.toInt
      ∧ (∀ g : FieldId, g ≠ ⟨.display, 0, n⟩ → t.get g = s.get g)
      ∧ t.responds (if limit 0 31 v.toInt = v.toInt then .ok else .clamped) (beBytes 8 (limit 0 31 v.toInt))
      ∧ t.store.queue = [] ∧ t.store.groups = s.store.groups ∧ t.sweep = s.sweep ∧ t.comb = s.comb
      ∧ t.meas = s.meas ∧ t.trig = s.trig ∧ t.notices = s.notices ∧ s.recordsKept t ∧ s.restKept t)
  ∧ ∀ (s : State) (h : BitVec 16) (i : Nat) (v : BitVec 64), s.takes (.write h 0 v) = true → s.tableKept = true →
    s.store.queue = [] → s.holdingGroup = none → 0 < s.poolFree → s.lookup (handleOf h.toNat) = some (.cursor, i) →
    v.toNat < 2 →
    ∃ t : State, exec (.write h 0 v) s = .next t ∧ t.get (Fld.cuAxis i) = v.toNat
      ∧ t.get (Fld.cuPosition i) = limit 0 (if v = 0 then 999 else 1023) (s.get (Fld.cuPosition i))
      ∧ (∀ g : FieldId, g ≠ Fld.cuAxis i → g ≠ Fld.cuPosition i → t.get g = s.get g)
      ∧ t.responds .ok (beBytes 8 v.toNat) ∧ t.store.queue = [] ∧ t.store.groups = s.store.groups ∧ t.sweep = s.sweep
      ∧ t.comb = s.comb ∧ t.meas = s.meas ∧ t.trig = s.trig ∧ t.notices = s.notices ∧ s.recordsKept t ∧ s.restKept t

/-- A loose WRITE of a RESTART field during a capture, with an empty queue and no settle running: the capture is abandoned, the
value is live, the average depth is 0, and a new capture starts, which with P = 0 goes on to WAITING (R22, R73, R74, R83, R84);
TIMEBASE.MODE stands for the timebase's. A loose WRITE of a CHANNEL's COUPLING, SCALE, PROBE, OFFSET_UV or BWLIMIT, in any acquisition
state: the offset comes within its limit (R25), the front end's image and line take the settings where they differ (R33), the change's
settle joins the one that runs (R34, R72), the level is recomputed where the channel is the source (R66, R67), the comparator is
disarmed where the code moved, and the next state is that of R84. The trigger kind after a capture start is log 37's. -/
def Obligations.RestartWriteStartsAnew : Prop :=
  (∀ (s : State) (v : BitVec 64), s.takes (.write 0x1000 1 v) = true → s.tableKept = true → s.queueKept = true →
    s.store.queue = [] →
    s.holdingGroup = none → 0 < s.poolFree → v.toNat < 4 → s.sweep.acq.capture = true → s.sweep.settle = none →
    0 ≤ s.get Fld.tbTrigColumn →
    ∃ t : State, exec (.write 0x1000 1 v) s = .next t ∧ t.get Fld.tbMode = v.toNat ∧ t.get Fld.tbAvgDepth = 0
      ∧ t.sweep = (if 0 < s.get Fld.tbTrigColumn then
          { s.sweep with acq := .arming, colCount := 0, trigKind := .none, force := false, auto := none, holdoff := none }
        else State.startsWaiting { s with sweep := { s.sweep with force := false, auto := none, holdoff := none } })
      ∧ t.comb.cap = { s.captureNow with mode := modeOf v.toNat } ∧ t.store.queue = [] ∧ t.responds .ok (beBytes 8 v.toNat)
      ∧ (∀ g : FieldId, g.kind ≠ .measurement → g ≠ Fld.tbMode → g ≠ Fld.tbAvgDepth → g ≠ Fld.tbState → t.get g = s.get g)
      ∧ s.recordsKept t ∧ s.restKept t ∧ t.notices = s.notices
      ∧ ∀ ch, ch < 4 → t.shownBank ch = none)
  ∧ ∀ (s : State) (c n : Nat) (v : BitVec 64) (w : Int),
    s.takes (.write (BitVec.ofNat 16 (16 * c)) (BitVec.ofNat 8 n) v) = true → s.tableKept = true → c < 4 →
    s.store.queue = [] → s.holdingGroup = none → 0 < s.poolFree →
    ((n = 1 ∨ n = 3) ∧ 0 ≤ v.toInt ∧ v.toInt < 3 ∧ w = v.toInt) ∨ (n = 6 ∧ 0 ≤ v.toInt ∧ v.toInt < 2 ∧ w = v.toInt)
      ∨ (n = 2 ∧ w = limit 0 11 v.toInt)
      ∨ (n = 4 ∧ w = limit (-(offsetLimit (s.get (Fld.chScale c)) (s.get (Fld.chProbe c))))
          (offsetLimit (s.get (Fld.chScale c)) (s.get (Fld.chProbe c))) (limit (-10000000000) 10000000000 v.toInt)) →
    ∃ (t : State) (F : FeSettings) (u d : Option Nat) (raw : Int) (base : Sweep),
      exec (.write (BitVec.ofNat 16 (16 * c)) (BitVec.ofNat 8 n) v) s = .next t
      ∧ t.responds (if w = v.toInt then .ok else .clamped) (beBytes 8 w)
      ∧ (n ≠ 4 → t.get ⟨.channel, c, n⟩ = w)
      ∧ t.get (Fld.chOffsetUv c) = limit (-(offsetLimit (t.get (Fld.chScale c)) (t.get (Fld.chProbe c))))
          (offsetLimit (t.get (Fld.chScale c)) (t.get (Fld.chProbe c))) (if n = 4 then w else s.get (Fld.chOffsetUv c))
      ∧ t.get (Fld.chScaleUv c) = (if n = 2 ∨ n = 3 then baseScale (t.get (Fld.chScale c)) * probeFactor (t.get (Fld.chProbe c))
          else s.get (Fld.chScaleUv c))
      ∧ t.get Fld.tbAvgDepth = 0
      ∧ F = { coupling := (t.get (Fld.chCoupling c)).toNat, highRange := decide (6 ≤ t.get (Fld.chScale c)),
              gainStep := (t.get (Fld.chScale c) % 6).toNat,
              tier := if t.get (Fld.chScale c) ≤ 5 then 0 else if t.get (Fld.chScale c) ≤ 8 then 1 else 2,
              offset := roundAway (t.get (Fld.chOffsetUv c)) (probeFactor (t.get (Fld.chProbe c))),
              bandwidth := (t.get (Fld.chBwLimit c)).toNat }
      ∧ (s.path.image[c]? = some F → s.path.sending ≠ none ∨ s.path.pending = [none, none, none, none] → t.path = s.path)
      ∧ (∀ G, s.path.image[c]? = some G → G ≠ F →
        (s.path.sending ≠ none →
          t.path = { s.path with image := s.path.image.set c F, pending := s.path.pending.set c (some F) })
        ∧ (s.path.sending = none → s.path.pending = [none, none, none, none] →
          t.path = { s.path with image := s.path.image.set c F, sending := some (c, F) }))
      ∧ u = (if t.get (Fld.chCoupling c) ≠ s.get (Fld.chCoupling c) then some 10000
          else if decide (s.get (Fld.chScale c) ≤ 5) ≠ decide (t.get (Fld.chScale c) ≤ 5) then some 10000
          else if t.get (Fld.chScale c) ≠ s.get (Fld.chScale c) ∨ t.get (Fld.chOffsetUv c) ≠ s.get (Fld.chOffsetUv c)
            ∨ t.get (Fld.chBwLimit c) ≠ s.get (Fld.chBwLimit c) then some 1000 else none)
      ∧ (s.sweep.settle = none → d = u) ∧ (∀ a, s.sweep.settle = some a → d = some (Nat.max a (u.getD 0)))
      ∧ base = { s.sweep with settle := d, force := false, auto := none, holdoff := none, colCount := 0 }
      ∧ (s.sweep.acq = .stopped ∨ s.sweep.acq = .settling → t.sweep = base)
      ∧ (s.sweep.acq ≠ .stopped → s.sweep.acq ≠ .settling →
        (d ≠ none → t.sweep = { base with acq := .settling })
        ∧ (d = none → t.comb.cap = s.captureNow
            ∧ (0 < s.get Fld.tbTrigColumn → t.sweep = { base with acq := .arming, trigKind := .none })
            ∧ (s.get Fld.tbTrigColumn = 0 → t.sweep = State.startsWaiting { s with sweep := base })))
      ∧ raw = 512 + roundAway ((s.get Fld.trLevelUv + t.get (Fld.chOffsetUv c)) * 100) (t.get (Fld.chScaleUv c))
      ∧ (s.source = c → n = 2 ∨ n = 3 ∨ n = 4 ∨ t.get (Fld.chOffsetUv c) ≠ s.get (Fld.chOffsetUv c) →
        t.get Fld.trLevelCode = limit 0 1023 raw
        ∧ t.get Fld.trLevelClipped = (if raw < 0 ∨ 1023 < raw then 1 else 0)
        ∧ t.notices = (if (raw < 0 ∨ 1023 < raw) ∧ s.get Fld.trLevelClipped = 0 then raise .levelClipped s else s).notices)
      ∧ (s.source ≠ c ∨ ((n = 1 ∨ n = 6) ∧ t.get (Fld.chOffsetUv c) = s.get (Fld.chOffsetUv c)) →
        t.get Fld.trLevelCode = s.get Fld.trLevelCode ∧ t.get Fld.trLevelClipped = s.get Fld.trLevelClipped
        ∧ t.notices = s.notices)
      ∧ t.trig = (if t.get Fld.trLevelCode = s.get Fld.trLevelCode then s.trig
          else { s.trig with armedRise := false, armedFall := false })
      ∧ (∀ m, s.isLive .measurement m = true → t.get (Fld.meStatMin m) = 0 ∧ t.get (Fld.meStatMax m) = 0
          ∧ t.get (Fld.meStatMean m) = 0 ∧ t.get (Fld.meStatCount m) = 0 ∧ t.get (Fld.meFailCount m) = 0)
      ∧ (∀ g : FieldId, g ≠ ⟨.channel, c, n⟩ → g ≠ Fld.chOffsetUv c → g ≠ Fld.chScaleUv c → g ≠ Fld.tbAvgDepth →
          g ≠ Fld.tbState → g ≠ Fld.trLevelCode → g ≠ Fld.trLevelClipped →
          (g.kind = .measurement → g.num < 10 ∨ g.num = 14) → t.get g = s.get g)
      ∧ t.meas.pass = s.meas.pass.map (fun p => { p with exclude := true }) ∧ t.meas.stamps = s.meas.stamps
      ∧ t.shownBank c = none ∧ (∀ ch, ch ≠ c → t.shownBank ch = s.shownBank ch)
      ∧ t.store.queue = [] ∧ t.store.groups = s.store.groups ∧ s.recordsKept t ∧ s.restKept t

/-- CREATE makes the lowest free instance live with every field at its default and its generation unchanged, and answers its
handle; a kind or object kind it cannot make, and a full table, are refused (R12); that BAD_VALUE comes first where both hold is log
40's choice. -/
def Obligations.CreateMakesLowestFree : Prop :=
  (∀ (s : State) (kb ob : Byte) (k : Kind) (i : Nat), s.takes (.create kb ob) = true → s.tableKept = true →
    kindOf kb.toNat = some k → kindCreated k = true → (k = .object → ob.toNat < 7) → i < kindSize k →
    s.isLive k i = false → (∀ j, j < i → s.isLive k j = true) →
    ∃ t : State, exec (.create kb ob) s = .next t ∧ t.isLive k i = true
      ∧ (t.recAt k i).gen = (s.recAt k i).gen ∧ (t.recAt k i).text = []
      ∧ (∀ n, n ≠ 0 ∨ k ≠ .object → t.get ⟨k, i, n⟩ = (defaultVals k i).getD n 0)
      ∧ (k = .object → t.get ⟨k, i, 0⟩ = ob.toNat)
      ∧ t.responds .ok (beBytes 2 (handleCode k i (s.recAt k i).gen))
      ∧ (∀ k' j, ¬ (k' = k ∧ j = i) → t.recAt k' j = s.recAt k' j)
      ∧ t.store.groups = s.store.groups ∧ t.store.queue = s.store.queue ∧ t.meas.pass = s.meas.pass
      ∧ t.sweep = s.sweep ∧ t.comb = s.comb ∧ t.path = s.path ∧ t.trig = s.trig ∧ t.panel = s.panel
      ∧ t.notices = s.notices ∧ s.restKept t)
  ∧ (∀ (s : State) (kb ob : Byte) (k : Kind), s.takes (.create kb ob) = true → kindOf kb.toNat = some k → kindCreated k = true →
    (k = .object → ob.toNat < 7) → (∀ j, j < kindSize k → s.isLive k j = true) →
    exec (.create kb ob) s = .next (s.answer .tableFull [] .none))
  ∧ (∀ (s : State) (kb ob : Byte), s.takes (.create kb ob) = true →
    (∀ k, kindOf kb.toNat = some k → kindCreated k = false ∨ (k = .object ∧ 7 ≤ ob.toNat)) →
    exec (.create kb ob) s = .next (s.answer .badValue [] .none))

/-- RETIRE frees the instance, advances its generation modulo 16, and clears every reference to it: a readout's becomes VOID, a
binding falls back to NOTIFY and a lamp to OFF, a measurement's gate to none and SCREEN, its own FAIL flag is cleared and it
leaves the running pass; its entries leave the HOLDING groups and the queue, entries of other records that name it stay (R13,
R14, R15). With an empty queue nothing applies; with any queue, what is then ready applies (R23). A handle of a fixed kind is
refused with BAD_VALUE, one that names no live record with NO_RECORD (R13, R2); that BAD_VALUE comes first where both hold is log
40's choice. -/
def Obligations.RetireFreesInstance : Prop :=
  (∀ (s : State) (h : BitVec 16) (k : Kind) (i : Nat), s.takes (.retire h) = true →
    s.lookup (handleOf h.toNat) = some (k, i) → kindCreated k = true →
    exec (.retire h) s = .next ((examine (retireRec k i s)).answer .ok [] .none))
  ∧ (∀ (s : State) (h : BitVec 16), s.takes (.retire h) = true →
    (∀ k, kindOf (h.toNat / 4096) = some k → kindCreated k = false →
      exec (.retire h) s = .next (s.answer .badValue [] .none))
    ∧ ((∀ k, kindOf (h.toNat / 4096) = some k → kindCreated k = true ∧ ¬ (h.toNat / 16 % 256 < kindSize k
          ∧ s.isLive k (h.toNat / 16 % 256) = true ∧ (s.recAt k (h.toNat / 16 % 256)).gen = h.toNat % 16)) →
      exec (.retire h) s = .next (s.answer .noRecord [] .none)))
  ∧ (∀ (s : State) (h : BitVec 16) (k : Kind) (i : Nat), s.takes (.retire h) = true → s.tableKept = true →
    s.lookup (handleOf h.toNat) = some (k, i) → kindCreated k = true → s.store.queue = [] →
    ∃ t : State, exec (.retire h) s = .next t ∧ t.isLive k i = false
      ∧ (t.recAt k i).gen = ((s.recAt k i).gen + 1) % 16 ∧ t.responds .ok []
      ∧ (∀ b, b < 60 → refersField k i (t.get (Fld.biTarget b)) = false)
      ∧ (∀ l, l < 32 → refersField k i (t.get (Fld.laField l)) = false)
      ∧ (∀ o, t.isLive .object o = true → t.get (Fld.obBind o) ≠ handleCode k i (s.recAt k i).gen
          ∧ t.get (Fld.obBind2 o) ≠ handleCode k i (s.recAt k i).gen)
      ∧ (∀ k' j, ¬ (k' = k ∧ j = i) → t.isLive k' j = s.isLive k' j ∧ (t.recAt k' j).gen = (s.recAt k' j).gen)
      ∧ t.sweep = s.sweep ∧ t.comb = s.comb ∧ t.path = s.path ∧ t.trig = s.trig ∧ s.restKept t)
  ∧ ∀ (s : State) (k : Kind) (i : Nat) (hc : Int), s.tableKept = true → s.isLive k i = true → kindCreated k = true →
    hc = handleCode k i (s.recAt k i).gen →
    ∃ t : State, retireRec k i s = t
      ∧ (∀ b, b < 60 → refersField k i (s.get (Fld.biTarget b)) = true →
          t.get (Fld.biKind b) = 1 ∧ t.get (Fld.biTarget b) = -1)
      ∧ (∀ b, b < 60 → refersField k i (s.get (Fld.biTarget b)) = false →
          t.get (Fld.biKind b) = s.get (Fld.biKind b) ∧ t.get (Fld.biTarget b) = s.get (Fld.biTarget b))
      ∧ (∀ l, l < 32 → refersField k i (s.get (Fld.laField l)) = true → t.get (Fld.laField l) = -1
          ∧ t.get (Fld.laSource l) = if s.get (Fld.laSource l) = 2 ∨ s.get (Fld.laSource l) = 3 then 0 else s.get (Fld.laSource l))
      ∧ (∀ l, l < 32 → refersField k i (s.get (Fld.laField l)) = false →
          t.get (Fld.laField l) = s.get (Fld.laField l) ∧ t.get (Fld.laSource l) = s.get (Fld.laSource l))
      ∧ (∀ o, t.isLive .object o = true →
          t.get (Fld.obBind o) = (if s.get (Fld.obBind o) = hc then -1 else s.get (Fld.obBind o))
          ∧ t.get (Fld.obBind2 o) = (if s.get (Fld.obBind2 o) = hc then -1 else s.get (Fld.obBind2 o)))
      ∧ (k = .cursor → ∀ m, s.isLive .measurement m = true →
          t.get (Fld.meGateA m) = (if s.get (Fld.meGateA m) = hc then -1 else s.get (Fld.meGateA m))
          ∧ t.get (Fld.meGateB m) = (if s.get (Fld.meGateB m) = hc then -1 else s.get (Fld.meGateB m))
          ∧ (s.get (Fld.meGateA m) = hc ∨ s.get (Fld.meGateB m) = hc →
              (s.get (Fld.meGate m) = 1 → t.get (Fld.meGate m) = 0) ∧ t.get (Fld.meStatus m) = 0
              ∧ t.get (Fld.meStatCount m) = 0))
      ∧ (∀ g, (s.store.group g).state = .holding →
          (∀ c, c ∈ s.store.queue → c.origin ≠ .group g ∧ (g = 3 → c.origin ≠ .recall)) →
          (t.store.group g).entries = (s.store.group g).entries.filter fun e => !(e.id.kind == k && e.id.inst == i))
      ∧ t.store.queue = (s.store.queue.map fun c => { c with
            entries := c.entries.filter fun e => !(e.id.kind == k && e.id.inst == i) }).filter (fun c => !c.entries.isEmpty)
      ∧ (t.noticed .readoutVoid = true ↔ s.noticed .readoutVoid = true
          ∨ ∃ o, t.isLive .object o = true ∧ s.get (Fld.obKind o) = 6
            ∧ (s.get (Fld.obBind o) = hc ∨ s.get (Fld.obBind2 o) = hc))
      ∧ (t.noticed .bindingLost = true ↔ s.noticed .bindingLost = true
          ∨ (∃ b, b < 60 ∧ refersField k i (s.get (Fld.biTarget b)) = true)
          ∨ ∃ l, l < 32 ∧ refersField k i (s.get (Fld.laField l)) = true)
      ∧ (∀ j, j < 8 → t.notices.fails.getLsbD j = (s.notices.fails.getLsbD j && !(k == .measurement && j == i)))
      ∧ t.meas.pass = (if k = .measurement then
          s.meas.pass.map fun p => { p with members := p.members.filter fun m => m.inst != i } else s.meas.pass)

/-- GROUP_OPEN, GROUP_DISCARD and GROUP_STATUS (R16, R18). The entry counts of GROUP_STATUS are log 17's reading, and the carry
retry a discard owes is log 18's (R123). -/
def Obligations.GroupsOpenedAndDiscarded : Prop :=
  (∀ (s : State) (g : Byte), s.takes (.groupOpen g) = true →
    (g.toNat < 3 → s.holdingGroup = none → (s.store.group g.toNat).state = .empty →
      exec (.groupOpen g) s = .next ((setGroup g.toNat { state := .holding, entries := [], reserved := 0 } s).answer .ok [] .none))
    ∧ (g.toNat < 3 → s.holdingGroup ≠ none ∨ (s.store.group g.toNat).state ≠ .empty →
      exec (.groupOpen g) s = .next (s.answer .groupBusy [] .none))
    ∧ (3 ≤ g.toNat → exec (.groupOpen g) s = .next (s.answer .badValue [] .none)))
  ∧ (∀ (s : State) (g : Byte), s.takes (.groupDiscard g) = true →
    (3 ≤ g.toNat → exec (.groupDiscard g) s = .next (s.answer .badValue [] .none))
    ∧ (g.toNat < 3 → (s.store.group g.toNat).state = .empty → exec (.groupDiscard g) s = .next (s.answer .ok [] .none))
    ∧ (g.toNat < 3 → (s.store.group g.toNat).state = .launched →
      exec (.groupDiscard g) s = .next (s.answer .wrongState [] .none))
    ∧ (g.toNat < 3 → (s.store.group g.toNat).state = .holding →
      exec (.groupDiscard g) s = .next ((oweRetry (setGroup g.toNat Group.reset s)).answer .ok [] .none)))
  ∧ (∀ s : State, s.takes .groupStatus = true → ∃ data : List Byte,
    exec .groupStatus s = .next (({ s with store := { s.store with dropped := 0 } } : State).answer .ok data .none)
    ∧ data.length = 11 ∧ data.drop 8 = [BitVec.ofNat 8 s.poolFree, BitVec.ofNat 8 s.store.queue.length, BitVec.ofNat 8 s.store.dropped]
    ∧ ∀ g, g < 4 → data[2 * g]? = some (BitVec.ofInt 8 (groupStateCode (s.store.group g).state))
      ∧ ((s.store.group g).state = .empty → data[2 * g + 1]? = some 0)
      ∧ ((s.store.group g).state = .holding →
          data[2 * g + 1]? = some (BitVec.ofNat 8 ((s.store.group g).entries.length + (s.store.group g).reserved)))
      ∧ (∀ c, (s.store.group g).state = .launched →
          (s.store.queue.filter fun x => x.origin == if g = 3 then Origin.recall else Origin.group g) = [c] →
          data[2 * g + 1]? = some (BitVec.ofNat 8 c.entries.length)))

/-- GROUP_LAUNCH: a group that is not HOLDING, a number that is no host group's and a full queue are refused, an empty group
becomes EMPTY, and otherwise the group is LAUNCHED and its entries become one change at the tail of the queue: released at once
unless it is of class SWEEP in CAPTURING, applied where nothing ahead of it holds it back, and with a RESTART field as the
restart event (R17, R20, R22, R23, R83). -/
def Obligations.GroupLaunchMakesChange : Prop :=
  ∀ (s : State) (g : Byte) (es : List Entry) (u : State), s.takes (.groupLaunch g) = true →
    es = (s.store.group g.toNat).entries → u = setGroup g.toNat { state := .launched, entries := [], reserved := 0 } s →
    (3 ≤ g.toNat → exec (.groupLaunch g) s = .next (s.answer .badValue [] .none))
    ∧ (g.toNat < 3 → (s.store.group g.toNat).state ≠ .holding → exec (.groupLaunch g) s = .next (s.answer .wrongState [] .none))
    ∧ (g.toNat < 3 → (s.store.group g.toNat).state = .holding → es = [] →
      exec (.groupLaunch g) s = .next ((setGroup g.toNat Group.reset s).answer .ok [] .none))
    ∧ (g.toNat < 3 → (s.store.group g.toNat).state = .holding → es ≠ [] → 16 ≤ s.store.queue.length →
      exec (.groupLaunch g) s = .next (s.answer .queueFull [] .none))
    ∧ (g.toNat < 3 → (s.store.group g.toNat).state = .holding → es ≠ [] → s.store.queue.length < 16 →
      s.restKept (joinQueue (.group g.toNat) es u)
      ∧ exec (.groupLaunch g) s = .next ((joinQueue (.group g.toNat) es u).answer .ok [] .none)
      ∧ (anyClass .restart es = false → anyClass .sweep es = true → s.sweep.acq = .capturing →
          (∀ c, c ∈ s.store.queue → c.released = false) →
          exec (.groupLaunch g) s = .next
            ((setQueue (s.store.queue ++ [{ origin := .group g.toNat, entries := es, released := false }]) u).answer .ok [] .none))
      ∧ (anyClass .restart es = false → (anyClass .sweep es = false ∨ s.sweep.acq ≠ .capturing) → s.store.queue = [] →
          exec (.groupLaunch g) s = .next
            ((applyChange { origin := .group g.toNat, entries := es, released := true } (setQueue [] u)).answer .ok [] .none)
          ∧ ((applyChange { origin := .group g.toNat, entries := es, released := true } (setQueue [] u)).store.group
              g.toNat).state = .empty
          ∧ (applyChange { origin := .group g.toNat, entries := es, released := true } (setQueue [] u)).store.queue = [])
      ∧ (anyClass .restart es = true →
          exec (.groupLaunch g) s = .next
            ((restartEvent (setQueue (s.store.queue ++ [{ origin := .group g.toNat, entries := es, released := false }]) u)).answer
              .ok [] .none)))

/-! ## Acquisition -/

/-- RUN: in STOPPED it settles while the settle timer runs, and otherwise starts a capture, which with P = 0 goes on to WAITING; in
every other state it is answered OK with no effect (R79, R73, R74). The trigger kind after a capture start is log 37's. -/
def Obligations.RunTaken : Prop :=
  ∀ s : State, s.takes .run = true →
    (s.sweep.acq ≠ .stopped → exec .run s = .next (s.answer .ok [] .none))
    ∧ (s.sweep.acq = .stopped → s.sweep.settle ≠ none → exec .run s = .next ((setAcq .settling s).answer .ok [] .none))
    ∧ (s.sweep.acq = .stopped → s.sweep.settle = none → 0 ≤ s.get Fld.tbTrigColumn →
      ∃ t : State, exec .run s = .next t
        ∧ t.sweep = (if 0 < s.get Fld.tbTrigColumn then { s.sweep with acq := .arming, colCount := 0, trigKind := .none }
            else s.startsWaiting)
        ∧ t.store = s.store ∧ t.responds .ok [] ∧ t.comb.cap = s.captureNow ∧ t.comb.place = 0 ∧ t.notices = s.notices
        ∧ t.path = s.path ∧ t.trig = s.trig ∧ t.meas = s.meas ∧ t.panel = s.panel ∧ s.restKept t)

/-- STOP: whatever the state, acquisition is STOPPED, single and force pending are clear, the holdoff and auto timers are idle and
the comparator is disarmed; the settle timer of SETTLING runs on (R80, R70). SINGLE: single pending is set and acquisition
runs; in SETTLING and HOLDOFF nothing else moves; in a capture, the capture is abandoned, and the state is SETTLING while the
settle timer runs and a new capture start otherwise (R81). That an abandonment zeroes the column count is log 32; the trigger kind
after a capture start is log 37's. -/
def Obligations.StopAndSingleTaken : Prop :=
  (∀ s : State, s.takes .stop = true →
    ∃ t : State, exec .stop s = .next t ∧ t.responds .ok [] ∧ t.sweep.acq = .stopped ∧ t.sweep.single = false
      ∧ t.sweep.force = false ∧ t.sweep.holdoff = none ∧ t.sweep.auto = none ∧ t.trig.armedRise = false
      ∧ t.trig.armedFall = false ∧ s.restKept t
      ∧ (s.sweep.acq.capture = false → t.store = s.store ∧ t.comb = s.comb ∧ t.sweep.settle = s.sweep.settle
          ∧ t.path = s.path ∧ t.meas = s.meas ∧ t.panel = s.panel ∧ t.notices = s.notices)
      ∧ (s.sweep.acq.capture = true → s.store.queue = [] → t.comb = (combAbandon s).comb ∧ t.store = s.store
          ∧ t.sweep.settle = s.sweep.settle))
  ∧ (∀ s : State, s.takes .single = true →
    (s.sweep.acq = .settling ∨ s.sweep.acq = .holdoff →
      exec .single s = .next (({ s with sweep := { s.sweep with single := true } } : State).answer .ok [] .none))
    ∧ ∃ t : State, exec .single s = .next t ∧ t.responds .ok [] ∧ t.sweep.single = true ∧ t.sweep.acq ≠ .stopped ∧ s.restKept t
      ∧ (s.sweep.acq.capture = true → (t.sweep.settle ≠ none → t.sweep.acq = .settling)
          ∧ (t.sweep.settle = none → t.sweep.acq = .arming ∨ t.sweep.acq = .waiting)))
  ∧ (∀ s : State, s.takes .single = true → s.sweep.acq.capture = true → s.store.queue = [] → s.sweep.settle ≠ none →
    exec .single s = .next (({ combAbandon s with sweep := { s.sweep with
      acq := .settling, single := true, force := false, auto := none, colCount := 0 } } : State).answer .ok [] .none))
  ∧ (∀ s : State, s.takes .single = true → s.sweep.acq.capture = true → s.store.queue = [] → s.sweep.settle = none →
    0 < s.get Fld.tbTrigColumn →
    ∃ t : State, exec .single s = .next t ∧ t.responds .ok []
      ∧ t.sweep = { s.sweep with acq := .arming, single := true, force := false, auto := none, colCount := 0, trigKind := .none }
      ∧ t.comb = (combStart (combAbandon s)).comb ∧ t.store = s.store ∧ t.trig = s.trig ∧ t.meas = s.meas
      ∧ t.notices = s.notices ∧ s.restKept t)
  ∧ ∀ (s : State) (ch : Nat) (bs : List Bank), ch < 4 → s.comb.banks[ch]? = some bs →
    (combAbandon s).comb.banks[ch]? = some (modFirst (fun b => b.role == .filling) (fun b => { b with role := .free }) bs)

/-- FORCE and AUTO_TIMER_EXPIRY: in WAITING each triggers the capture with its own kind; FORCE in ARMING is kept for WAITING and is
refused everywhere else (R82, R74, R75). -/
def Obligations.TriggersInWaiting : Prop :=
  (∀ s : State, s.takes .force = true →
    (s.sweep.acq = .waiting → ∃ t : State, exec .force s = .next t ∧ t.responds .ok []
      ∧ t.sweep = { s.sweep with trigKind := .forced, auto := none, colCount := 0, acq := .capturing }
      ∧ t.store = s.store ∧ t.path = s.path ∧ t.trig = s.trig ∧ t.meas = s.meas ∧ t.panel = s.panel
      ∧ t.notices = s.notices ∧ s.restKept t)
    ∧ (s.sweep.acq = .arming →
      exec .force s = .next (({ s with sweep := { s.sweep with force := true } } : State).answer .ok [] .none))
    ∧ (s.sweep.acq ≠ .waiting → s.sweep.acq ≠ .arming → exec .force s = .next (s.answer .wrongState [] .none)))
  ∧ (∀ s : State, s.held = false → s.sweep.acq = .waiting → s.sweep.auto ≠ none →
    ∃ t : State, exec .autoTimerExpiry s = .next t
      ∧ t.sweep = { s.sweep with trigKind := .auto, auto := none, colCount := 0, acq := .capturing }
      ∧ t.store = s.store ∧ t.link = s.link ∧ t.path = s.path ∧ t.trig = s.trig ∧ t.meas = s.meas ∧ t.panel = s.panel
      ∧ t.notices = s.notices ∧ s.restKept t)

/-- CLEAR_STATS clears the statistics of every live measurement, the sum kept with them too, leaves STATUS, LAST, OUTCOME and the
FAIL flags, and excludes a running pass (R97, R108, R109). -/
def Obligations.ClearStatsClears : Prop :=
  ∀ s : State, s.takes .clearStats = true → s.tableKept = true →
    ∃ t : State, exec .clearStats s = .next t ∧ t.responds .ok []
      ∧ (∀ i n, s.isLive .measurement i = true → n = 10 ∨ n = 11 ∨ n = 12 ∨ n = 13 ∨ n = 15 →
          t.get ⟨.measurement, i, n⟩ = 0)
      ∧ (∀ i, s.isLive .measurement i = true → t.meas.sums.getD i 0 = 0)
      ∧ (∀ i, s.isLive .measurement i = false → t.meas.sums[i]? = s.meas.sums[i]?)
      ∧ t.meas.stamps = s.meas.stamps
      ∧ (∀ f : FieldId, f.kind ≠ .measurement ∨ f.num < 10 ∨ f.num = 14 → t.get f = s.get f)
      ∧ t.notices = s.notices ∧ t.sweep = s.sweep ∧ t.comb = s.comb ∧ t.path = s.path ∧ t.trig = s.trig ∧ t.panel = s.panel
      ∧ t.store.groups = s.store.groups ∧ t.store.queue = s.store.queue ∧ s.recordsKept t ∧ s.restKept t
      ∧ t.meas.pass = s.meas.pass.map fun p => { p with exclude := true }

/-- COLUMNS: bad parameters and a channel with no shown bank are refused; otherwise the shown bank is lent to the link and the response
carries the count, the header and the columns, the count limited to what is left with CLAMPED (R63). The bits of the header's
clip byte that R190 gives no meaning are log 31's. -/
def Obligations.ColumnsReadsShownBank : Prop :=
  ∀ (s : State) (ch : Byte) (first count : BitVec 16), s.takes (.columns ch first count) = true →
    (4 ≤ ch.toNat ∨ 1000 ≤ first.toNat ∨ count = 0 → exec (.columns ch first count) s = .next (s.answer .badValue [] .none))
    ∧ (ch.toNat < 4 → first.toNat < 1000 → count ≠ 0 → s.shownBank ch.toNat = none →
      exec (.columns ch first count) s = .next (s.answer .noData [] .none))
    ∧ (∀ b : Bank, ch.toNat < 4 → first.toNat < 1000 → count ≠ 0 → s.shownBank ch.toNat = some b →
      exec (.columns ch first count) s = .next
        ((requestLend .link ch.toNat s).answer
          (if count.toNat ≤ 1000 - first.toNat then .ok else .clamped)
          (beBytes 2 (Nat.min count.toNat (1000 - first.toNat) : Nat) ++ headerBytes b.header
            ++ ((List.range (Nat.min count.toNat (1000 - first.toNat))).map fun i => columnBytes (b.col (first.toNat + i))).flatten)
          (.columns ch.toNat)))

/-- PANEL_READ answers the 55 bytes of the table and subtracts nothing yet; at the end of the response each press count, pending
detent value and mask category reported is subtracted, levels and carries stay, and PANEL_INPUT and PANEL_CHANGED are cleared
where nothing remains that they stand for (R117, R190). -/
def Obligations.PanelReadSubtractsAtEnd : Prop :=
  (∀ s : State, s.takes .panelRead = true →
    exec .panelRead s = .next (s.answer .ok (panelBytes s.panel) (.panel (panelSnap s.panel)))
    ∧ (panelBytes s.panel).length = 31 + 2 * s.panel.encs.length)
  ∧ ∀ (s : State) (snap : PanelSnap), s.held = false → s.link.parser = .response → s.link.tie = .panel snap →
    ∃ t : State, exec .responseEnd s = .next t ∧ t.link.parser = .spent ∧ t.panel.mask = s.panel.mask &&& ~~~snap.mask
      ∧ (∀ (k : Nat) (x : Key) (n : Nat), s.panel.keys[k]? = some x → snap.counts[k]? = some n →
          t.panel.keys[k]? = some { x with count := x.count - n })
      ∧ (∀ (e : Nat) (x : Enc) (d : Int), s.panel.encs[e]? = some x → snap.pending[e]? = some d →
          t.panel.encs[e]? = some { x with pending := limit (-127) 127 (x.pending - d) })
      ∧ ((∀ x, x ∈ t.panel.keys → x.count = 0) → (∀ x, x ∈ t.panel.encs → x.pending = 0) → t.noticed .panelInput = false)
      ∧ ((∃ x, x ∈ t.panel.keys ∧ x.count ≠ 0) ∨ (∃ x, x ∈ t.panel.encs ∧ x.pending ≠ 0) →
          t.noticed .panelInput = s.noticed .panelInput)
      ∧ (t.panel.mask = 0 → t.noticed .panelChanged = false)
      ∧ (t.panel.mask ≠ 0 → t.noticed .panelChanged = s.noticed .panelChanged)
      ∧ (∀ n : Source, n ≠ .panelInput → n ≠ .panelChanged → t.noticed n = s.noticed n)
      ∧ t.store = s.store ∧ t.sweep = s.sweep ∧ t.panel.lamps = s.panel.lamps ∧ t.comb = s.comb ∧ t.path = s.path
      ∧ t.trig = s.trig ∧ t.meas = s.meas ∧ t.rend = s.rend ∧ t.setup = s.setup ∧ t.notices.fails = s.notices.fails
      ∧ t.pending = s.pending

/-! ## Sample path and trigger -/

/-- SAMPLE_WORD at a port while acquisition is STOPPED, by R36's four rows: only the lane lock moves, and LANE_LOST is raised where a
LOCKED port sees a framing error (R36, R37, R71). -/
def Obligations.LaneLockFollowsFraming : Prop :=
  ∀ (s : State) (p : Fin 4) (framed : Bool) (code : BitVec 10), s.held = false → s.sweep.acq = .stopped →
    (s.get (Fld.chLocked p) ≠ 0 → framed = true → exec (.sampleWord p framed code) s = .next s)
    ∧ (s.get (Fld.chLocked p) ≠ 0 → framed = false →
      exec (.sampleWord p framed code) s = .next (raise .laneLost (setVal (Fld.chLocked p) 0 (setLockCount p 0 s))))
    ∧ (s.get (Fld.chLocked p) = 0 → framed = true → s.path.lockCount.getD p 0 = 63 →
      exec (.sampleWord p framed code) s = .next (setVal (Fld.chLocked p) 1 (setLockCount p 64 s)))
    ∧ (s.get (Fld.chLocked p) = 0 → framed = true → s.path.lockCount.getD p 0 ≠ 63 →
      exec (.sampleWord p framed code) s = .next (setLockCount p (s.path.lockCount.getD p 0 + 1) s))
    ∧ (s.get (Fld.chLocked p) = 0 → framed = false → exec (.sampleWord p framed code) s = .next (setLockCount p 0 s))

/-- SAMPLE_WORD in a capture, at a LOCKED port (R43, R46, R47, R51, R52, R54, R69, R75, R76; the sample period is log 4, the order of
a fire and a completion log 5). Before the period is complete the corrected code enters its channel's column at the present
place and nothing else moves. The fourth port's word closes the period: the place advances, and at the last place each
channel's record goes to its filling bank and the completion is counted, up to WAITING at P and to the sweep end at 1000 - P. A
fire of the source's comparator in WAITING is a trigger of kind NORMAL. -/
def Obligations.SampleEntersColumn : Prop :=
  (∀ (s : State) (p q : Fin 4) (code : BitVec 10), s.held = false → s.sweep.acq.capture = true →
    s.get (Fld.chLocked p) ≠ 0 → s.source ≠ p → q ≠ p → s.comb.got[q.val]? = some false →
    s.comb.got.getD p false = false →
    exec (.sampleWord p true code) s = .next { s with comb := { s.comb with
      accs := s.comb.accs.modify p
        (accumulate s.comb.cap.mode s.comb.cap.d s.comb.place (some (s.correct p code.toNat))),
      got := s.comb.got.set p true } })
  ∧ (∀ (s u : State) (p : Fin 4) (code : BitVec 10), s.held = false → s.sweep.acq.capture = true →
    s.get (Fld.chLocked p) ≠ 0 → s.source ≠ p → s.comb.got.length = 4 →
    (∀ q : Fin 4, s.comb.got[q.val]? = some (decide (q ≠ p))) →
    u = { s with comb := { s.comb with
      accs := s.comb.accs.modify p
        (accumulate s.comb.cap.mode s.comb.cap.d s.comb.place (some (s.correct p code.toNat))),
      place := s.comb.place + 1, got := noneGot } } →
    (s.comb.place + 1 < s.comb.cap.n → exec (.sampleWord p true code) s = .next u)
    ∧ (s.comb.cap.n ≤ s.comb.place + 1 → s.sweep.acq = .waiting → exec (.sampleWord p true code) s = .next (combComplete u))
    ∧ (s.comb.cap.n ≤ s.comb.place + 1 → s.sweep.acq = .arming → s.sweep.colCount + 1 ≠ s.comb.cap.p →
      exec (.sampleWord p true code) s =
        .next { combComplete u with sweep := { s.sweep with colCount := s.sweep.colCount + 1 } })
    ∧ (s.comb.cap.n ≤ s.comb.place + 1 → s.sweep.acq = .arming → s.sweep.colCount + 1 = s.comb.cap.p → s.sweep.force = false →
      ∃ t : State, exec (.sampleWord p true code) s = .next t ∧ t.comb = (combComplete u).comb ∧ t.store = s.store
        ∧ t.sweep = { s.sweep with
            acq := .waiting, colCount := s.sweep.colCount + 1,
            auto := if s.get Fld.tbSweepMode = 0 then some (Nat.max 40000000 (1000 * s.comb.cap.n)) else s.sweep.auto })
    ∧ (s.comb.cap.n ≤ s.comb.place + 1 → s.sweep.acq = .capturing → s.sweep.colCount + 1 ≠ 1000 - s.comb.cap.p →
      exec (.sampleWord p true code) s =
        .next { combComplete u with sweep := { s.sweep with colCount := s.sweep.colCount + 1 } })
    ∧ (s.comb.cap.n ≤ s.comb.place + 1 → s.sweep.acq = .capturing → s.sweep.colCount + 1 = 1000 - s.comb.cap.p →
      exec (.sampleWord p true code) s =
        .next (sweepEnd { combComplete u with sweep := { s.sweep with colCount := s.sweep.colCount + 1 } })))
  ∧ (∀ (s : State) (ch : Nat) (b : Bank), bankOf .filling (s.comb.chan ch) = some b → ch < 4 →
    bankOf .filling ((combComplete s).comb.chan ch) = some { b with
      cols := b.cols.set s.comb.slot
          (if s.comb.cap.mode = .average ∧ s.sweep.acq = .capturing then
            blendColumn (averageShift s.avgDepth s.comb.cap.avgShift)
              (match s.shownBank ch with
                | some x => x.col ((s.comb.slot + 1000 - b.origin) % 1000)
                | none => Column.invalid)
              (columnOf s.comb.cap.mode s.comb.cap.m (s.comb.accs.getD ch Acc.clear))
          else columnOf s.comb.cap.mode s.comb.cap.m (s.comb.accs.getD ch Acc.clear)) }
    ∧ (combComplete s).comb.slot = (s.comb.slot + 1) % 1000 ∧ (combComplete s).comb.place = 0
    ∧ (combComplete s).comb.accs = List.replicate 4 Acc.clear ∧ (combComplete s).store = s.store
    ∧ (combComplete s).sweep = s.sweep)
  ∧ ∀ (s : State) (p q : Fin 4) (code : BitVec 10) (slope level hyst x : Int), s.held = false → s.sweep.acq = .waiting →
    s.get (Fld.chLocked p) ≠ 0 → s.source = p → q ≠ p → s.comb.got[q.val]? = some false → s.comb.got.getD p false = false →
    slope = s.get Fld.trSlope → level = s.get Fld.trLevelCode → hyst = s.get Fld.trHysteresis →
    x = (s.correct p code.toNat).code →
    ∃ t : State, exec (.sampleWord p true code) s = .next t ∧ t.trig = (comparator slope level hyst x s.trig).1
      ∧ t.store = s.store ∧ t.path = s.path ∧ t.meas = s.meas ∧ t.panel = s.panel ∧ t.notices = s.notices
      ∧ t.link = s.link ∧ s.restKept t
      ∧ t.comb.accs = s.comb.accs.modify p
          (accumulate s.comb.cap.mode s.comb.cap.d s.comb.place (some (s.correct p code.toNat)))
      ∧ ((comparator slope level hyst x s.trig).2 = false → t.sweep = s.sweep)
      ∧ ((comparator slope level hyst x s.trig).2 = true →
          t.sweep = { s.sweep with trigKind := .normal, auto := none, colCount := 0, acq := .capturing }
          ∧ ∀ ch b, ch < 4 → bankOf .filling (s.comb.chan ch) = some b →
            ∃ b', bankOf .filling (t.comb.chan ch) = some b'
              ∧ b'.origin = (s.comb.slot + 1000 - s.comb.cap.p) % 1000
              ∧ b'.header = { b.header with trigKind := .normal } ∧ (s.comb.cap.mode ≠ .average → b'.cols = b.cols))

/-- The knot correction (R40): interpolation between the knots around r, exact at a knot, with the correction in -32..+31 and r1 in
-32..1054; a channel's samples are corrected with its own knots. -/
def Obligations.KnotCorrection : Prop :=
  (∀ (knot : Nat → Int) (r : Nat), r ≤ 1023 → (∀ k, k ≤ 8 → -32 ≤ knot k ∧ knot k ≤ 31) →
    knotted knot r = r + (knot (r / 128)
        + ((knot (r / 128 + 1) - knot (r / 128)) * ((r % 128 : Nat) : Int) + 64) / 128)
    ∧ (r % 128 = 0 → knotted knot r = r + knot (r / 128))
    ∧ -32 ≤ knotted knot r - r ∧ knotted knot r - r ≤ 31 ∧ -32 ≤ knotted knot r ∧ knotted knot r ≤ 1054)
  ∧ ∀ (s : State) (ch r : Nat), (s.correct ch r).code =
      trimmed (s.get (Fld.chGainTrim ch)) (knotted (fun k => s.get (Fld.chKnot ch k)) r)

/-- The gain trim (R41): r2 lies in 0..1023; with GAIN_TRIM 32768 it is r1 limited, and with all knots 0 as well it is r; the floor is
toward minus infinity, as the rule's own case shows. -/
def Obligations.GainTrim : Prop :=
  (∀ g r1 : Int, (trimmed g r1 : Int) = limit 0 1023 (512 + Int.fdiv ((r1 - 512) * g + 16384) 32768)
    ∧ trimmed g r1 ≤ 1023)
  ∧ (∀ r1 : Int, (trimmed 32768 r1 : Int) = limit 0 1023 r1)
  ∧ (∀ r : Nat, r ≤ 1023 → trimmed 32768 (knotted (fun _ => 0) r) = r)
  ∧ 512 + Int.fdiv ((0 - 512) * 33096 + 16384) 32768 = -5 ∧ trimmed 33096 0 = 0

/-- The comparator (R69): each half arms far enough on its far side, fires when armed and at the level or past it, and then disarms;
the half its SLOPE leaves out is disarmed; no sample both arms and fires a half. -/
def Obligations.ComparatorHalves : Prop :=
  ∀ (level hyst x : Int) (t : Trig), 1 ≤ hyst →
    (∀ slope, slope = 0 ∨ slope = 2 →
      ((comparator slope level hyst x t).1.armedRise = true
        ↔ x ≤ level - hyst ∨ (t.armedRise = true ∧ x < level)))
    ∧ (∀ slope, slope = 1 ∨ slope = 2 →
      ((comparator slope level hyst x t).1.armedFall = true
        ↔ level + hyst ≤ x ∨ (t.armedFall = true ∧ level < x)))
    ∧ ((comparator 0 level hyst x t).2 = true ↔ t.armedRise = true ∧ level ≤ x)
    ∧ ((comparator 1 level hyst x t).2 = true ↔ t.armedFall = true ∧ x ≤ level)
    ∧ ((comparator 2 level hyst x t).2 = true
        ↔ (t.armedRise = true ∧ level ≤ x) ∨ (t.armedFall = true ∧ x ≤ level))
    ∧ (comparator 0 level hyst x t).1.armedFall = false ∧ (comparator 1 level hyst x t).1.armedRise = false

/-- A code converted to a level and back (R68): the level equals value_uv of 64 times the code, the conversion of R65 gives the code
again, within 0-1023, and the level lies within 12560000000 of 0. The tracking step (R86) moves LEVEL_CODE toward the middle of
the bank by at most AL_DELTA unless it holds, rewrites LEVEL_UV by the conversion, and disarms the comparator. -/
def Obligations.LevelRoundTrip : Prop :=
  (∀ (c m off : Int), 0 ≤ c → c ≤ 1023 → 1 ≤ m → m ≤ 500000 → -10000000000 ≤ off → off ≤ 10000000000 →
    levelOfCode c (1000 * m) off = valueUv (64 * c) (1000 * m) off
    ∧ levelCodeRaw (levelOfCode c (1000 * m) off) (1000 * m) off = c
    ∧ levelOfCode c (1000 * m) off * 100 = (c - 512) * (1000 * m) - off * 100
    ∧ -12560000000 ≤ levelOfCode c (1000 * m) off ∧ levelOfCode c (1000 * m) off ≤ 12560000000)
  ∧ ∀ (h : Header) (s : State) (l e : Int), s.tableKept = true → h.validCount ≠ 0 → l = s.get Fld.trLevelCode →
    e = (((h.sweepMin + h.sweepMax) / 2 : Nat) : Int) - l → 0 ≤ s.get Fld.trAlDelta →
    ∃ t : State, trackStep h s = t
      ∧ ((s.get Fld.trAlHolding = 0 ∧ (e.natAbs : Int) ≤ s.get Fld.trAlStable)
          ∨ (s.get Fld.trAlHolding ≠ 0 ∧ (e.natAbs : Int) ≤ s.get Fld.trAlWide) →
          t = setVal Fld.trAlHolding 1 s)
      ∧ ((s.get Fld.trAlHolding = 0 ∧ s.get Fld.trAlStable < (e.natAbs : Int))
          ∨ (s.get Fld.trAlHolding ≠ 0 ∧ s.get Fld.trAlWide < (e.natAbs : Int)) →
          t.get Fld.trAlHolding = 0
          ∧ t.get Fld.trLevelCode = limit 0 1023 (l + limit (-(s.get Fld.trAlDelta)) (s.get Fld.trAlDelta) e)
          ∧ (t.get Fld.trLevelCode ≠ l → t.trig.armedRise = false ∧ t.trig.armedFall = false
              ∧ t.get Fld.trLevelClipped = 0
              ∧ t.get Fld.trLevelUv = levelOfCode (t.get Fld.trLevelCode) (s.get (Fld.chScaleUv s.source))
                  (s.get (Fld.chOffsetUv s.source))))
      ∧ (∀ g : FieldId, g ≠ Fld.trAlHolding → g ≠ Fld.trLevelCode → g ≠ Fld.trLevelClipped → g ≠ Fld.trLevelUv →
          t.get g = s.get g)

/-- SETTLE_EXPIRY and HOLDOFF_EXPIRY: the timer is idle, and SETTLING or HOLDOFF goes on to a capture start, which with P = 0 goes on
to WAITING; a settle that expires in STOPPED changes no state (R72, R78, R73, R74). And the sweep end that HOLDOFF follows (R77, R59,
R53, R85): with an empty queue each channel's filling bank is SHOWN with its header complete, SWEEP_COUNT and LAST_KIND advance,
SWEEP_DONE is raised, and the state is STOPPED for a single sweep, HOLDOFF where HOLDOFF is set, and otherwise a capture
start. The trigger kind after a capture start is log 37's. -/
def Obligations.TimersExpire : Prop :=
  (∀ s : State, s.held = false → s.sweep.settle ≠ none → s.sweep.acq = .stopped →
    exec .settleExpiry s = .next { s with sweep := { s.sweep with settle := none } })
  ∧ (∀ s : State, s.held = false → s.sweep.settle ≠ none → s.sweep.acq = .settling → 0 ≤ s.get Fld.tbTrigColumn →
    ∃ t : State, exec .settleExpiry s = .next t
      ∧ t.sweep = (if 0 < s.get Fld.tbTrigColumn then
            { s.sweep with settle := none, acq := .arming, colCount := 0, trigKind := .none }
          else { s.startsWaiting with settle := none })
      ∧ t.store = s.store ∧ t.link = s.link ∧ t.comb.cap = s.captureNow ∧ t.path = s.path ∧ t.trig = s.trig
      ∧ t.meas = s.meas ∧ t.panel = s.panel ∧ t.notices = s.notices ∧ s.restKept t)
  ∧ (∀ s : State, s.held = false → s.sweep.holdoff ≠ none → s.sweep.acq = .holdoff → 0 ≤ s.get Fld.tbTrigColumn →
    ∃ t : State, exec .holdoffExpiry s = .next t
      ∧ t.sweep = (if 0 < s.get Fld.tbTrigColumn then
            { s.sweep with holdoff := none, acq := .arming, colCount := 0, trigKind := .none }
          else { s.startsWaiting with holdoff := none })
      ∧ t.store = s.store ∧ t.link = s.link ∧ t.comb.cap = s.captureNow ∧ t.path = s.path ∧ t.trig = s.trig
      ∧ t.meas = s.meas ∧ t.panel = s.panel ∧ t.notices = s.notices ∧ s.restKept t)
  ∧ ∀ s : State, s.tableKept = true → s.store.queue = [] →
    (sweepEnd s).get Fld.tbSweepCount = ((s.get Fld.tbSweepCount).toNat + 1) % 4294967296
    ∧ (sweepEnd s).get Fld.trLastKind = trigKindCode s.sweep.trigKind
    ∧ (sweepEnd s).noticed .sweepDone = true
    ∧ (s.sweep.single = true → (sweepEnd s).sweep.acq = .stopped ∧ (sweepEnd s).sweep.single = false
        ∧ (sweepEnd s).noticed .singleDone = true ∧ (sweepEnd s).trig.armedRise = false ∧ (sweepEnd s).trig.armedFall = false)
    ∧ (s.sweep.single = false → 0 < s.get Fld.trHoldoff →
        (sweepEnd s).sweep.acq = .holdoff ∧ (sweepEnd s).sweep.holdoff = some (s.get Fld.trHoldoff).toNat)
    ∧ (s.sweep.single = false → s.get Fld.trHoldoff = 0 → 0 < s.get Fld.tbTrigColumn →
        (sweepEnd s).sweep = { s.sweep with acq := .arming, colCount := 0, trigKind := .none })
    ∧ (s.sweep.single = false → s.get Fld.trHoldoff = 0 → s.get Fld.tbTrigColumn = 0 → (sweepEnd s).sweep = s.startsWaiting)
    ∧ (s.comb.cap.mode = .average → (sweepEnd s).get Fld.tbAvgDepth = Nat.min (s.avgDepth + 1) 65535)
    ∧ ∀ ch b, ch < 4 → bankOf .filling (s.comb.chan ch) = some b →
      ∃ b', (sweepEnd s).shownBank ch = some b' ∧ b'.cols = b.cols ∧ b'.origin = b.origin
        ∧ b'.header = finishHeader s.nextSweepNo s.endDepth b
        ∧ (sweepEnd s).get (Fld.chClip ch) = clipCode (finishHeader s.nextSweepNo s.endDepth b)

/-- FE_FRAME_LATCH: the frame being sent is latched, with its 48 bits laid out as R32 states, and the frame of the lowest-numbered pending
channel starts (R32, R33). -/
def Obligations.FrontEndFrameLatched : Prop :=
  ∀ (s : State) (ch : Nat) (f : FeSettings), s.held = false → s.path.sending = some (ch, f) →
    ch < 4 → f.coupling < 3 → f.gainStep < 6 → f.tier < 3 → f.bandwidth < 2 →
    ∃ (t : State) (w : BitVec 48), exec .feFrameLatch s = .next t ∧ t.path.latched = some w
      ∧ w.toNat / 2 ^ 46 = ch ∧ w.toNat / 2 ^ 44 % 4 = f.coupling ∧ w.getLsbD 43 = f.highRange
      ∧ w.toNat / 2 ^ 40 % 8 = f.gainStep ∧ w.toNat / 2 ^ 38 % 4 = f.tier ∧ w.toNat / 2 ^ 37 % 2 = f.bandwidth
      ∧ w.toNat / 2 ^ 32 % 32 = 0 ∧ w.toNat % 2 ^ 32 = (BitVec.ofInt 32 f.offset).toNat
      ∧ (s.path.pending = [none, none, none, none] → t.path.sending = none)
      ∧ (∀ c g, c < 4 → s.path.pending[c]? = some (some g) → (∀ d, d < c → s.path.pending[d]? = some none) →
          t.path.sending = some (c, g) ∧ t.path.pending[c]? = some none)
      ∧ t.store = s.store ∧ t.sweep = s.sweep ∧ t.comb = s.comb ∧ t.trig = s.trig ∧ t.meas = s.meas ∧ t.panel = s.panel
      ∧ t.rend = s.rend ∧ t.setup = s.setup ∧ t.link = s.link ∧ t.notices = s.notices ∧ t.pending = s.pending
      ∧ t.path.lockCount = s.path.lockCount ∧ t.path.image = s.path.image

/-! ## Measurements -/

/-- PASS_COMPLETION with a pass running: the pass ends, its lends are released, MEAS_DONE is raised, and the members' failures
under LIMIT_MODE STOP hand in one STOP (R95, R111). A member whose definition stamp has moved keeps all its results (R96); any
other takes its STATUS, with a value LAST and, unless the pass is excluded or the count at its end, the statistics, and the
limit test (R95, R99, R108, R110). A sweep end starts a pass of the live measurements where none runs (R93, R94). -/
def Obligations.PassCompletes : Prop :=
  (∀ (s : State) (p : Pass), s.held = false → s.meas.pass = some p →
    ∃ t : State, exec .passCompletion s = .next t ∧ t.meas.pass = none ∧ t.noticed .measDone = true
      ∧ t.link = s.link ∧ s.restKept t
      ∧ (∀ ch, p.lent.contains ch = true → t.lentBank .measurement ch = none)
      ∧ ((completeMembers p.exclude p.members (s, false)).2 = true → t.sweep.acq = .stopped ∧ t.sweep.single = false
          ∧ t.trig.armedRise = false ∧ t.trig.armedFall = false)
      ∧ ((completeMembers p.exclude p.members (s, false)).2 = false → t.sweep = s.sweep
          ∧ t.store = (completeMembers p.exclude p.members (s, false)).1.store))
  ∧ (∀ (s : State) (m : Member) (ex : Bool), s.meas.stamps.getD m.inst 0 ≠ m.stamp →
    completeMember ex m s = (s, false))
  ∧ (∀ (s : State) (m : Member) (ex : Bool) (n sum : Int), s.tableKept = true → m.inst < 8 → s.meas.sums.length = 8 →
    s.meas.stamps.getD m.inst 0 = m.stamp → n = s.get (Fld.meStatCount m.inst) → sum = s.meas.sums.getD m.inst 0 →
    ∃ (t : State) (stop : Bool), completeMember ex m s = (t, stop)
      ∧ t.get (Fld.meStatus m.inst) = mstatusCode (s.memberResult m).1
      ∧ (∀ st, m.start = some st → s.memberResult m = (st, none))
      ∧ ((s.memberResult m).2 = none → t.get (Fld.meLast m.inst) = s.get (Fld.meLast m.inst)
          ∧ t.get (Fld.meOutcome m.inst) = 0 ∧ stop = false ∧ t.notices = s.notices)
      ∧ ((s.memberResult m).2 = none ∨ ex = true ∨ 4294967295 ≤ n → t.meas = s.meas
          ∧ ∀ f, 10 ≤ f → f ≤ 13 → t.get ⟨.measurement, m.inst, f⟩ = s.get ⟨.measurement, m.inst, f⟩)
      ∧ (∀ v, (s.memberResult m).2 = some v → t.get (Fld.meLast m.inst) = v
          ∧ (ex = false → n < 4294967295 → t.get (Fld.meStatCount m.inst) = n + 1
              ∧ t.meas.sums.getD m.inst 0 = sum + v ∧ t.get (Fld.meStatMean m.inst) = roundAway (sum + v) (n + 1)
              ∧ t.get (Fld.meStatMin m.inst) = (if n = 0 then v else min (s.get (Fld.meStatMin m.inst)) v)
              ∧ t.get (Fld.meStatMax m.inst) = (if n = 0 then v else max (s.get (Fld.meStatMax m.inst)) v))
          ∧ (s.get (Fld.meLimitMode m.inst) = 0 → t.get (Fld.meOutcome m.inst) = 0)
          ∧ (s.get (Fld.meLimitMode m.inst) ≠ 0 → t.get (Fld.meOutcome m.inst) =
              if v < s.get (Fld.meLimitLo m.inst) then 1 else if s.get (Fld.meLimitHi m.inst) < v then 3 else 2)
          ∧ (stop = true ↔ s.get (Fld.meLimitMode m.inst) = 2
              ∧ (v < s.get (Fld.meLimitLo m.inst) ∨ s.get (Fld.meLimitHi m.inst) < v)))
      ∧ (∀ g : FieldId, g.kind ≠ .measurement ∨ g.inst ≠ m.inst ∨ g.num < 8 → t.get g = s.get g)
      ∧ t.meas.pass = s.meas.pass ∧ t.meas.stamps = s.meas.stamps ∧ t.comb = s.comb ∧ t.sweep = s.sweep ∧ t.trig = s.trig
      ∧ t.notices.flags = s.notices.flags ∧ s.recordsKept t ∧ s.restKept t)
  ∧ ∀ s : State,
    (s.meas.pass ≠ none ∨ s.liveOf .measurement = [] → measSweepEnd s = s)
    ∧ (s.meas.pass = none → s.liveOf .measurement ≠ [] → ∃ p : Pass, (measSweepEnd s).meas.pass = some p
      ∧ p.members.map (·.inst) = s.liveOf .measurement ∧ p.exclude = false ∧ p.timer = 10 * (s.liveOf .measurement).length
      ∧ (∀ m, m ∈ p.members → m.stamp = s.meas.stamps.getD m.inst 0 ∧ m.kind = s.get (Fld.meKind m.inst)
          ∧ m.source = (s.get (Fld.meSource m.inst)).toNat
          ∧ (s.get (Fld.chDisplay m.source) = 0 → m.start = some .sourceOff)
          ∧ (s.get (Fld.chDisplay m.source) ≠ 0 → s.get (Fld.meGate m.inst) ≠ 1 → m.gateLo = 0 ∧ m.gateHi = 999
              ∧ m.start = (if s.shownBank m.source = none then some .noData else none))
          ∧ (m.start = none → m.source < 4 → p.lent.contains m.source = true))
      ∧ (∀ ch, p.lent.contains ch = true → ∃ b b', s.shownBank ch = some b
          ∧ (measSweepEnd s).lentBank .measurement ch = some b' ∧ b'.cols = b.cols ∧ b'.header = b.header
          ∧ b'.origin = b.origin)
      ∧ (measSweepEnd s).store = s.store ∧ (measSweepEnd s).sweep = s.sweep)

/-- One detector's crossings lie at least one whole column apart (R101, R104): what keeps a period from being 0. -/
def Obligations.CrossingsApart : Prop :=
  ∀ (rising armed : Bool) (t h : Int) (c : Nat) (vs : List (Option Int)), 0 ≤ h →
    (crossings rising t h armed c vs).Pairwise fun a b => a + 16 ≤ b

/-- The limit test (R110): OUTCOME by the live limits where LIMIT_MODE is not OFF and the status is VALID or CLIPPED, and on a failure the
FAIL flag and FAIL_COUNT, which stops at 65535; whether it calls for a STOP. -/
def Obligations.LimitTestWrites : Prop :=
  ∀ (s : State) (i : Nat) (tested : Bool), s.tableKept = true → i < 8 →
    ∃ (t : State) (stop : Bool) (o : Int), limitTest i tested s = (t, stop) ∧ t.get (Fld.meOutcome i) = o
      ∧ (s.get (Fld.meLimitMode i) = 0 ∨ tested = false → o = 0)
      ∧ (s.get (Fld.meLimitMode i) ≠ 0 → tested = true →
          (s.get (Fld.meLast i) < s.get (Fld.meLimitLo i) → o = 1)
          ∧ (s.get (Fld.meLimitLo i) ≤ s.get (Fld.meLast i) → s.get (Fld.meLimitHi i) < s.get (Fld.meLast i) → o = 3)
          ∧ (s.get (Fld.meLimitLo i) ≤ s.get (Fld.meLast i) → s.get (Fld.meLast i) ≤ s.get (Fld.meLimitHi i) → o = 2))
      ∧ (o = 1 ∨ o = 3 → t.notices.fails.getLsbD i = true
          ∧ t.get (Fld.meFailCount i) = min 65535 (s.get (Fld.meFailCount i) + 1)
          ∧ (stop = true ↔ s.get (Fld.meLimitMode i) = 2))
      ∧ (o = 0 ∨ o = 2 → t.notices = s.notices ∧ t.get (Fld.meFailCount i) = s.get (Fld.meFailCount i) ∧ stop = false)
      ∧ (∀ g : FieldId, g ≠ Fld.meOutcome i → g ≠ Fld.meFailCount i → t.get g = s.get g)
      ∧ t.comb = s.comb ∧ t.sweep = s.sweep ∧ t.trig = s.trig ∧ t.meas = s.meas ∧ t.panel = s.panel ∧ t.link = s.link
      ∧ t.notices.flags = s.notices.flags ∧ s.recordsKept t ∧ s.restKept t

/-! ## Front panel -/

/-- KEY_SCAN: every key is debounced by R113's three rows, whatever the presses of the scan do; an encoder's pair, phase, interval
and pending detents stay (R113). A scan that completes one key's press hands it to the key's binding: NONE does nothing; NOTIFY,
the start-up load and the lock count it for the host; TOGGLE and CYCLE step the target's effective value, a refused one counts as
NOTIFY; ACTION acts (R120, R121, R124, R126). The keys of one scan are taken in ascending order, each debounced and, once pressed, handed to
its binding before the next (log 14). TOGGLE turns off to on and on to off; a waiting recall's value outside the two counts as on (log
41). What is submitted: a CONFIG
target is written live where R7's checks pass; any other goes to the store, into the newest change that holds the field where that
is a panel change, otherwise as a new panel change at the tail, or it is refused with 16 changes queued or no pool entry
free (R21, R123). -/
def Obligations.KeyScanDebounces : Prop :=
  (∀ (f : FieldId) (sp : FieldSpec) (v w : Int) (s : State),
    (sp.cls ≠ .config → submit f sp v s = panelAdjust f v s)
    ∧ (sp.cls = .config → ∀ e, s.writeCheck .live f sp v = some e → submit f sp v s = none)
    ∧ (sp.cls = .config → s.writeCheck .live f sp v = none → w = (s.storedValue .live f sp v).1 →
      (f.kind ≠ .binding → f.kind ≠ .panel ∨ s.get f ≠ 0 ∨ w ≠ 1 → submit f sp v s = some (setVal f w s))
      ∧ (f.kind = .binding → submit f sp v s = some (setCarry f.inst 0 (setVal f w s)))
      ∧ (f.kind = .panel → s.get f = 0 → w = 1 → ∃ es : List Enc,
        submit f sp v s = some { setVal f w s with panel := { s.panel with encs := es } } ∧ es.length = s.panel.encs.length
        ∧ ∀ (e : Nat) (x : Enc), s.panel.encs[e]? = some x →
          es[e]? = some { x with carry := if e < 12 ∧ s.get (Fld.biLockExempt (48 + e)) = 0 then 0 else x.carry })))
  ∧ (∀ (f : FieldId) (v : Int) (s : State) (q : List Change), q = s.store.queue →
    (∀ (pre post : List Change) (c new : Change), q = pre ++ c :: post → f ∈ c.fields → (∀ d, d ∈ post → f ∉ d.fields) →
      c.origin = .panel →
      new = { c with entries := c.entries.map fun e => if e.id = f then { e with val := .int v } else e } →
      panelAdjust f v s = some (setQueue (pre ++ new :: post) s))
    ∧ ((∀ d, d ∈ q → f ∉ d.fields)
        ∨ (∃ (pre post : List Change) (c : Change), q = pre ++ c :: post ∧ f ∈ c.fields ∧ (∀ d, d ∈ post → f ∉ d.fields)
            ∧ c.origin ≠ .panel) →
      (16 ≤ q.length ∨ s.poolFree = 0 → panelAdjust f v s = none)
      ∧ ∀ new : Change, q.length < 16 → 0 < s.poolFree →
        new = { origin := .panel, entries := [{ id := f, val := .int v }], released := false } →
        (classOf f = .view → panelAdjust f v s = some (examine (setQueue (q ++ [{ new with released := true }]) s)))
        ∧ (classOf f = .sweep → panelAdjust f v s =
            some (examine (setQueue (q ++ [{ new with released := decide (s.sweep.acq ≠ .capturing) }]) s)))
        ∧ (classOf f = .restart → panelAdjust f v s = some (restartEvent (setQueue (q ++ [new]) s)))))
  ∧ (∀ (s : State) (raw : BitVec 48), s.held = false →
    exec (.keyScan raw) s = .next ((List.range 48).foldl (fun s k => scanKey (raw.getLsbD k) k s) s))
  ∧ (∀ (s : State) (raw : Bool) (k : Nat) (x : Key), s.panel.keys[k]? = some x →
    (raw = x.pressed → scanKey raw k s = modKey k (fun x => { x with agree := 0 }) s)
    ∧ (raw ≠ x.pressed → x.agree < 2 → scanKey raw k s = modKey k (fun x => { x with agree := x.agree + 1 }) s)
    ∧ (raw ≠ x.pressed → 2 ≤ x.agree → raw = false →
      scanKey raw k s = modKey k (fun x => { x with pressed := false, agree := 0 }) s)
    ∧ (raw ≠ x.pressed → 2 ≤ x.agree → raw = true →
      scanKey raw k s = press k (modKey k (fun x => { x with pressed := true, agree := 0 }) s)))
  ∧ (∀ (s : State) (raw : BitVec 48), s.held = false →
    ∃ t : State, exec (.keyScan raw) s = .next t ∧ t.setup = s.setup ∧ t.link = s.link ∧ t.rend = s.rend
      ∧ t.held = false ∧ t.cause = s.cause ∧ t.pending = s.pending ∧ t.panel.lamps = s.panel.lamps
      ∧ t.panel.blinkOn = s.panel.blinkOn
      ∧ (t.panel.encs.map fun e => (e.last, e.phase, e.since, e.pending))
          = (s.panel.encs.map fun e => (e.last, e.phase, e.since, e.pending))
      ∧ ∀ (k : Nat) (x : Key), k < 48 → s.panel.keys[k]? = some x → ∃ y : Key, t.panel.keys[k]? = some y
        ∧ (raw.getLsbD k = x.pressed → y.pressed = x.pressed ∧ y.agree = 0 ∧ y.count = x.count)
        ∧ (raw.getLsbD k ≠ x.pressed → x.agree + 1 < 3 →
            y.pressed = x.pressed ∧ y.agree = x.agree + 1 ∧ y.count = x.count)
        ∧ (raw.getLsbD k ≠ x.pressed → 2 ≤ x.agree → y.pressed = raw.getLsbD k ∧ y.agree = 0
            ∧ (y.count = x.count ∨ y.count = Nat.min 15 (x.count + 1))))
  ∧ ∀ (s u : State) (raw : BitVec 48) (k : Nat) (x : Key), s.held = false → k < 48 → s.panel.keys[k]? = some x →
    x.pressed = false → x.agree = 2 → raw.getLsbD k = true →
    (∀ j y, j < 48 → j ≠ k → s.panel.keys[j]? = some y → raw.getLsbD j = y.pressed ∧ y.agree = 0) →
    u = modKey k (fun x => { x with pressed := true, agree := 0 }) s →
    (s.get (Fld.biKind k) = 0 → exec (.keyScan raw) s = .next u)
    ∧ (s.get (Fld.biKind k) ≠ 0 → s.setup.starting = true ∨ s.get (Fld.biKind k) = 1
        ∨ (s.get Fld.paLock ≠ 0 ∧ s.get (Fld.biLockExempt k) = 0) →
      exec (.keyScan raw) s = .next (raise .panelInput
        (modKey k (fun x => { pressed := true, agree := 0, count := Nat.min 15 (x.count + 1) }) s)))
    ∧ (s.setup.starting = false → s.get Fld.paLock = 0 ∨ s.get (Fld.biLockExempt k) ≠ 0 →
      (∀ f sp, s.get (Fld.biKind k) = 3 → s.namesField (s.get (Fld.biTarget k)) = some (f, sp) →
        (∀ t, submit f sp (if s.eff f = 0 then 1 else 0) u = some t → exec (.keyScan raw) s = .next (markChanged f t))
        ∧ (submit f sp (if s.eff f = 0 then 1 else 0) u = none → exec (.keyScan raw) s = .next (notifyPress k u)))
      ∧ (∀ f sp n, s.get (Fld.biKind k) = 4 → s.namesField (s.get (Fld.biTarget k)) = some (f, sp) →
        (sp.ty = .enum n ∨ (sp.ty = .onOff ∧ n = 2)) →
        (∀ t, submit f sp ((s.eff f + 1) % n) u = some t → exec (.keyScan raw) s = .next (markChanged f t))
        ∧ (submit f sp ((s.eff f + 1) % n) u = none → exec (.keyScan raw) s = .next (notifyPress k u)))
      ∧ (s.get (Fld.biKind k) = 5 →
        (s.get (Fld.biAction k) = 0 → exec (.keyScan raw) s =
          .next (if s.sweep.acq = .stopped then takeRun u else takeStop u))
        ∧ (s.get (Fld.biAction k) = 1 → exec (.keyScan raw) s = .next (takeSingle u))
        ∧ (s.get (Fld.biAction k) = 2 → exec (.keyScan raw) s = .next
            (if s.sweep.acq = .waiting then triggerEvent .forced u
             else if s.sweep.acq = .arming then { u with sweep := { s.sweep with force := true } } else u))
        ∧ (s.get (Fld.biAction k) = 3 → s.shownBank s.source = none → exec (.keyScan raw) s = .next u)
        ∧ (∀ b v, s.get (Fld.biAction k) = 3 → s.shownBank s.source = some b →
            v = levelOfCode (((b.header.sweepMin + b.header.sweepMax) / 2 : Nat) : Int) (s.get (Fld.chScaleUv s.source))
              (s.get (Fld.chOffsetUv s.source)) →
            (b.header.validCount = 0 ∨ panelAdjust Fld.trLevelUv v u = none → exec (.keyScan raw) s = .next u)
            ∧ ∀ t, b.header.validCount ≠ 0 → panelAdjust Fld.trLevelUv v u = some t →
              exec (.keyScan raw) s = .next (markChanged Fld.trLevelUv t))
        ∧ (s.get (Fld.biAction k) = 4 → exec (.keyScan raw) s = .next (clearAllStats u))
        ∧ (s.get (Fld.biAction k) = 5 → exec (.keyScan raw) s = .next (setVal Fld.paLock 0 u))))

/-- ENCODER_SAMPLE: every encoder's pair becomes the pair sampled; its phase moves by R114's table and is 0 at rest (R114). The
encoders are taken in ascending order (log 14); a phase of +4 or -4 at rest makes a detent of that sign, and nothing else does
(R114), multiplied by the interval under ACCEL (R115), and handed to the binding: NOTIFY adds to the pending detents; ADJUST moves
the target by the carry and the steps, a refused one keeps them as carry; TOGGLE and CYCLE step it (R120 to R125; a waiting recall's value
as a bound, or outside off and on: log 41). That R115's 20 ms
and 50 ms are 80 and 200 samples, the detent's own counted, is log 15. What submit does with the new value is stated in
KeyScanDebounces (R21, R123). -/
def Obligations.EncoderSampleDecodes : Prop :=
  (∀ (s : State) (pairs : BitVec 24), s.held = false →
    ∃ t : State, exec (.encoderSample pairs) s = .next t ∧ t.setup = s.setup ∧ t.link = s.link ∧ t.rend = s.rend
      ∧ t.held = false ∧ t.cause = s.cause ∧ t.pending = s.pending ∧ t.panel.lamps = s.panel.lamps
      ∧ t.panel.blinkOn = s.panel.blinkOn
      ∧ t.panel.keys = s.panel.keys
      ∧ t = (List.range 12).foldl
          (fun s e => stepEncoder (pairs.getLsbD (2 * e + 1), pairs.getLsbD (2 * e)) e s) s
      ∧ ∀ (e : Nat) (x : Enc), e < 12 → s.panel.encs[e]? = some x → ∃ y : Enc, t.panel.encs[e]? = some y
        ∧ y.last = some (pairs.getLsbD (2 * e + 1), pairs.getLsbD (2 * e))
        ∧ (x.last = none ∨ x.last = y.last → y.phase = x.phase ∧ y.pending = x.pending)
        ∧ (∀ old, x.last = some old → x.last ≠ y.last →
            y.phase = if y.last = some (true, true) then 0
              else phaseAfter x.phase old (pairs.getLsbD (2 * e + 1), pairs.getLsbD (2 * e))))
  ∧ (∀ (s : State) (pair : Bool × Bool) (e : Nat) (x : Enc) (n : Option Nat), s.panel.encs[e]? = some x →
    n = (x.since.map fun n => Nat.min 200 (n + 1)) →
    (x.last = none → stepEncoder pair e s = modEnc e (fun x => { x with last := some pair, since := n }) s)
    ∧ (x.last = some pair → stepEncoder pair e s = modEnc e (fun x => { x with since := n }) s)
    ∧ (∀ old p, x.last = some old → old ≠ pair → p = phaseAfter x.phase old pair →
      (pair ≠ (true, true) →
        stepEncoder pair e s = modEnc e (fun x => { x with last := some pair, phase := p, since := n }) s)
      ∧ (pair = (true, true) → p ≠ 4 → p ≠ -4 →
        stepEncoder pair e s = modEnc e (fun x => { x with last := some pair, phase := 0, since := n }) s)
      ∧ (pair = (true, true) → p = 4 ∨ p = -4 → stepEncoder pair e s =
        detent e (if p = 4 then 1 else -1) (modEnc e (fun x => { x with last := some pair, phase := 0, since := n }) s))))
  ∧ ∀ (s u : State) (e : Nat) (sg k : Int) (x : Enc), s.panel.encs[e]? = some x → sg = 1 ∨ sg = -1 →
    (s.get (Fld.biAccel (48 + e)) = 0 ∨ x.since = none ∨ (∃ n, x.since = some n ∧ 200 ≤ n) → k = 1) →
    (∀ n, s.get (Fld.biAccel (48 + e)) ≠ 0 → x.since = some n → (n < 80 → k = 5) ∧ (80 ≤ n → n < 200 → k = 2)) →
    u = modEnc e (fun x => { x with since := some 0 }) s →
    (s.get (Fld.biKind (48 + e)) = 0 → detent e sg s = u)
    ∧ (s.get (Fld.biKind (48 + e)) ≠ 0 → s.setup.starting = true ∨ s.get (Fld.biKind (48 + e)) = 1
        ∨ (s.get Fld.paLock ≠ 0 ∧ s.get (Fld.biLockExempt (48 + e)) = 0) →
      detent e sg s = raise .panelInput (modEnc e (fun x => { x with
        since := some 0, pending := limit (-127) 127 (x.pending + sg * k) }) s))
    ∧ (s.setup.starting = false → s.get Fld.paLock = 0 ∨ s.get (Fld.biLockExempt (48 + e)) ≠ 0 →
      (∀ f sp lo hi n v, s.get (Fld.biKind (48 + e)) = 2 → s.namesField (s.get (Fld.biTarget (48 + e))) = some (f, sp) →
        sp.ty = .numeric lo hi → n = limit (-127) 127 (x.carry + sg * k) → v = s.adjusted (48 + e) f lo hi n →
        (v = s.eff f → detent e sg s = setCarry (48 + e) 0 u)
        ∧ (∀ t, v ≠ s.eff f → submit f sp v u = some t → detent e sg s = markChanged f (setCarry (48 + e) 0 t))
        ∧ (v ≠ s.eff f → submit f sp v u = none → detent e sg s = setCarry (48 + e) n u)
        ∧ (s.adjustRange f lo hi = (lo, hi) → f ≠ Fld.trHoldoff → s.get (Fld.biScaled (48 + e)) = 0 →
          (s.get (Fld.biWrap (48 + e)) = 0 → v = limit lo hi (s.eff f + n * s.get (Fld.biStep (48 + e))))
          ∧ (s.get (Fld.biWrap (48 + e)) ≠ 0 →
              v = lo + (s.eff f + n * s.get (Fld.biStep (48 + e)) - lo) % (hi - lo + 1))))
      ∧ (∀ f sp w, s.namesField (s.get (Fld.biTarget (48 + e))) = some (f, sp) →
        (s.get (Fld.biKind (48 + e)) = 3 ∧ w = if s.eff f = 0 then 1 else 0)
          ∨ (s.get (Fld.biKind (48 + e)) = 4 ∧ ∃ m : Nat, (sp.ty = .enum m ∨ (sp.ty = .onOff ∧ m = 2)) ∧ w = (s.eff f + sg) % m) →
        (∀ t, submit f sp w u = some t → detent e sg s = markChanged f t)
        ∧ (submit f sp w u = none → detent e sg s = notifyDetent e (sg * k) u)))

/-- CARRY_RETRY, LAMP_REFRESH and BLINK_TOGGLE: a retry with nothing owed changes nothing (log 18), one with no carry held only takes the
debt, a carry under an acting kind other than ADJUST becomes 0, and one under ADJUST is adjusted by again, with no steps of its
own (R122, R123; what submit does is stated in KeyScanDebounces); the encoders are taken in ascending order (log 14). The lamps show
R129's conditions; the blink clock turns (R129, R130). -/
def Obligations.PanelPeriodicEvents : Prop :=
  (∀ s : State, s.held = false → s.panel.retryDue = false → exec .carryRetry s = .next s)
  ∧ (∀ s : State, s.held = false → s.panel.retryDue = true → (∀ x, x ∈ s.panel.encs → x.carry = 0) →
    exec .carryRetry s = .next { s with panel := { s.panel with retryDue := false } })
  ∧ (∀ s : State, s.held = false → s.panel.retryDue = true →
    (∀ e, e < 12 → s.actingKind (48 + e) ≠ kindAdjust) → s.panelKept = true →
    exec .carryRetry s = .next { s with panel := { s.panel with
      retryDue := false, encs := s.panel.encs.map fun x => { x with carry := 0 } } })
  ∧ (∀ (s u : State) (e : Nat) (x : Enc), s.held = false → s.panel.retryDue = true → e < 12 → s.panel.encs[e]? = some x →
    x.carry ≠ 0 → (∀ j y, j ≠ e → s.panel.encs[j]? = some y → y.carry = 0) → s.actingKind (48 + e) = kindAdjust →
    u = { s with panel := { s.panel with retryDue := false } } →
    exec .carryRetry s = .next (adjust e 0 u)
    ∧ ∀ f sp lo hi n v, s.namesField (s.get (Fld.biTarget (48 + e))) = some (f, sp) → sp.ty = .numeric lo hi →
      n = limit (-127) 127 x.carry → v = s.adjusted (48 + e) f lo hi n →
      (v = s.eff f → adjust e 0 u = setCarry (48 + e) 0 u)
      ∧ (∀ t, v ≠ s.eff f → submit f sp v u = some t → adjust e 0 u = markChanged f (setCarry (48 + e) 0 t))
      ∧ (v ≠ s.eff f → submit f sp v u = none → adjust e 0 u = setCarry (48 + e) n u))
  ∧ (∀ s : State, s.held = false → s.panel.retryDue = true →
    exec .carryRetry s = .next ((List.range 12).foldl (fun s e => retryCarry e s)
      { s with panel := { s.panel with retryDue := false } }))
  ∧ (∀ s : State, s.held = false → ∃ l : List Bool,
    exec .lampRefresh s = .next { s with panel := { s.panel with lamps := l } } ∧ l.length = 32
    ∧ ∀ i, i < 32 → l[i]? = some (s.lampCondition i && (decide (s.get (Fld.laBlink i) = 0) || s.panel.blinkOn)))
  ∧ (∀ (s : State) (i : Nat) (src v : Int), src = s.get (Fld.laSource i) → v = s.get (Fld.laValue i) →
    (src = 0 → s.lampCondition i = false) ∧ (src = 1 → s.lampCondition i = true)
    ∧ (src = 2 → (s.lampCondition i = true ↔ ∃ f sp, s.namesField (s.get (Fld.laField i)) = some (f, sp) ∧ s.get f = v))
    ∧ (src = 3 → (s.lampCondition i = true ↔ ∃ f sp, s.namesField (s.get (Fld.laField i)) = some (f, sp) ∧ s.get f ≠ 0))
    ∧ (src = 4 → (s.lampCondition i = true ↔ s.sweep.acq ≠ .stopped))
    ∧ (src = 5 → (s.lampCondition i = true ↔ s.sweep.acq = .arming ∨ s.sweep.acq = .waiting))
    ∧ (src = 6 → (s.lampCondition i = true ↔ s.get Fld.trLastKind = 1))
    ∧ (src = 7 → (s.lampCondition i = true ↔ 0 ≤ v ∧ v ≤ 18
        ∧ if v = 5 then s.notices.fails ≠ 0 else s.notices.flags.getLsbD v.toNat = true)))
  ∧ (∀ s : State, s.held = false →
    exec .blinkToggle s = .next { s with panel := { s.panel with blinkOn := !s.panel.blinkOn } })

/-! ## Screen -/

/-- FRAME_START: the live display state is latched; a blank frame makes no list and no lend; otherwise each displayed channel's shown bank
is lent to the renderer (R134, R135, R136, R138). That a blank frame latches the palette, channels and cursors too is log 33; the
order of the frame list is DrawOrderAndWinner's. -/
def Obligations.FrameStartLatches : Prop :=
  ∀ s : State, s.held = false → s.rend.frame = none →
    ∃ (t : State) (f : Frame), exec .frameStart s = .next t ∧ t.rend = { s.rend with frame := some f, nextLine := 0 }
      ∧ (f.blank = true ↔ s.setup.starting = true ∨ s.get Fld.diEnable = 0)
      ∧ f.background = s.get Fld.diBackground ∧ f.gridStyle = s.get Fld.diGridStyle ∧ f.gridColor = s.get Fld.diGridColor
      ∧ (∀ i, i < 32 → f.palette[i]? =
          some { r := s.get ⟨.palette, i, 0⟩, g := s.get ⟨.palette, i, 1⟩, b := s.get ⟨.palette, i, 2⟩ })
      ∧ (∀ c, c < 4 → f.chans[c]? = some
          { display := decide (s.get (Fld.chDisplay c) ≠ 0), position := s.get (Fld.chPosition c),
            color := s.get (Fld.chColor c), layer := s.get (Fld.chLayer c), label := s.get (Fld.chLabel c) })
      ∧ (f.cursors = (s.liveOf .cursor).map fun i =>
          { inst := i, axis := s.get (Fld.cuAxis i), source := (s.get (Fld.cuSource i)).toNat,
            position := s.get (Fld.cuPosition i), color := s.get (Fld.cuColor i),
            visible := decide (s.get (Fld.cuVisible i) ≠ 0) })
      ∧ (f.blank = false → f.objects = frameList s f.cursors)
      ∧ (f.blank = true → f.objects = [] ∧ t.comb = s.comb)
      ∧ t.store = s.store ∧ t.sweep = s.sweep ∧ t.notices = s.notices ∧ t.path = s.path ∧ t.trig = s.trig
      ∧ t.meas = s.meas ∧ t.panel = s.panel ∧ t.setup = s.setup ∧ t.link = s.link ∧ t.pending = s.pending
      ∧ (f.blank = false → ∀ ch, ch < 4 → s.get (Fld.chDisplay ch) ≠ 0 → s.shownBank ch = none →
          t.lentBank .renderer ch = none)
      ∧ (f.blank = false → ∀ ch b, ch < 4 → s.get (Fld.chDisplay ch) ≠ 0 → s.shownBank ch = some b →
          ∃ b', t.lentBank .renderer ch = some b' ∧ b'.cols = b.cols ∧ b'.header = b.header ∧ b'.origin = b.origin)

/-- LINE and FRAME_END: the lines of a frame are composed in turn from 0 to 599 (R131; a line out of turn, and a frame end
before line 599 is composed, change nothing: log 6), each of 1024 pixels whose colour the arbiter gives over the first 24 objects on
the line, the others counted; a blank frame's are black and count none, and a line between frames is black (log 23); the frame end,
after line 599, writes OVERFLOW and FRAME_COUNT and ends the frame (R131, R137, R138, R139, R149). -/
def Obligations.LinesAndFrameEnd : Prop :=
  (∀ (s : State) (y : Fin 600) (f : Frame), s.held = false → s.rend.frame = some f → y.val = s.rend.nextLine →
    ∃ px : List Rgb, exec (.line y) s = .next { s with rend := { s.rend with
        line := px, nextLine := y.val + 1,
        drops := s.rend.drops + ((f.objects.filter fun o => o.onLine y).length - 24) } }
      ∧ px.length = 1024 ∧ (f.blank = true → px = List.replicate 1024 black)
      ∧ (f.blank = false → ∀ x, x < 1024 →
          px[x]? = some (pixel s f ((f.objects.filter fun o => o.onLine y).take 24) x y)))
  ∧ (∀ (s : State) (y : Fin 600), s.held = false → s.rend.frame ≠ none → y.val ≠ s.rend.nextLine →
    exec (.line y) s = .next s)
  ∧ (∀ (s : State) (y : Fin 600), s.held = false → s.rend.frame = none →
    exec (.line y) s = .next { s with rend := { s.rend with line := List.replicate 1024 black } })
  ∧ (∀ s : State, s.held = false → s.rend.nextLine < 600 → exec .frameEnd s = .next s)
  ∧ (∀ (s : State) (f : Frame), s.held = false → s.tableKept = true → s.rend.frame = some f → 600 ≤ s.rend.nextLine →
    ∃ t : State, exec .frameEnd s = .next t ∧ t.rend = { s.rend with frame := none, nextLine := 0, drops := 0 }
      ∧ t.get Fld.diOverflow = min s.rend.drops 65535
      ∧ t.get Fld.diFrameCount = (s.get Fld.diFrameCount + 1) % 4294967296
      ∧ (∀ g : FieldId, g ≠ Fld.diOverflow → g ≠ Fld.diFrameCount → t.get g = s.get g)
      ∧ t.notices = (if 0 < s.rend.drops then raise .displayOverflow s else s).notices
      ∧ (∀ ch, ch < 4 → t.lentBank .renderer ch = none) ∧ t.sweep = s.sweep ∧ t.path = s.path ∧ t.trig = s.trig
      ∧ t.meas = s.meas ∧ t.panel = s.panel ∧ t.setup = s.setup ∧ t.link = s.link ∧ t.pending = s.pending ∧ s.recordsKept t)

/-- The frame list holds every live visible object once, in draw priority order (R135), and a pixel's winner is a contender with
no contender on a higher layer; with none there is no winner (the arbiter's first test, R139). A MARKER's ink is centred on
column 7, row 7 of its cell: it reaches as far to either side, and a plus, diagonal cross, filled square or dot has ink there
(R147, as log 38 reads it). -/
def Obligations.DrawOrderAndWinner : Prop :=
  (∀ (s : State) (curs : List CurLatch),
    (frameList s curs).Pairwise drawnBefore
    ∧ ∀ i, (∃ o, o ∈ frameList s curs ∧ o.inst = i)
        ↔ i < 64 ∧ s.isLive .object i = true ∧ s.get (Fld.obVisible i) ≠ 0)
  ∧ (∀ (cs : List Contender) (c : Contender), winner cs = some c → c ∈ cs ∧ ∀ d, d ∈ cs → d.layer ≤ c.layer)
  ∧ (∀ cs : List Contender, winner cs = none ↔ cs = [])
  ∧ ∀ o : FrameObj, o.field 0 = 5 → ∃ w h : Nat, w ≤ 7 ∧ h ≤ 7
    ∧ (∀ x y, o.ink x y = true → 7 - w ≤ x ∧ x ≤ 7 + w ∧ 7 - h ≤ y ∧ y ≤ 7 + h)
    ∧ (∃ y, o.ink (7 - w) y = true) ∧ (∃ y, o.ink (7 + w) y = true) ∧ (∃ x, o.ink x (7 - h) = true)
    ∧ (∃ x, o.ink x (7 + h) = true)
    ∧ (o.field 9 = 0 ∨ o.field 9 = 1 ∨ o.field 9 = 3 ∨ o.field 9 = 11 → o.ink 7 7 = true)

/-- Four significant digits (R159): q lies in 1000-9999, is exact where the value has at most four digits, and is within half a unit of
its last place otherwise. -/
def Obligations.FourSignificantDigits : Prop :=
  ∀ n : Nat, 0 < n →
    1000 ≤ (fourDigits n).1 ∧ (fourDigits n).1 ≤ 9999
    ∧ ((fourDigits n).2 < 0 → (fourDigits n).1 = n * 10 ^ (-(fourDigits n).2).toNat)
    ∧ (0 ≤ (fourDigits n).2 →
        2 * n < (2 * (fourDigits n).1 + 1) * 10 ^ (fourDigits n).2.toNat
        ∧ (2 * (fourDigits n).1 - 1) * 10 ^ (fourDigits n).2.toNat ≤ 2 * n)

/-! ## Setup memory -/

/-- SAVE and ERASE: the four checks in order, and an accepted one stands in the pump check with its slot, a SAVE with its snapshot of 55 to
139 entries or 40 (R164, R168). -/
def Obligations.SaveAndEraseAccepted : Prop :=
  (∀ (s : State) (slot : Byte) (cal : Bool), s.takes (.save slot cal) = true → s.flashCheck slot.toNat cal = none →
    ∃ t : State, exec (.save slot cal) s = .next t ∧ t.responds .ok [] ∧ t.setup.phase = .pumpCheck ∧ t.setup.op = .save
      ∧ t.setup.slot = slot.toNat ∧ t.setup.snapshot = s.takeSnapshot slot.toNat ∧ t.setup.counts = Counts.zero
      ∧ t.setup.flash = s.setup.flash ∧ t.setup.dir = s.setup.dir ∧ t.setup.last = s.setup.last
      ∧ t.store = s.store ∧ t.notices = s.notices ∧ s.othersKept t
      ∧ (slot = 15 → t.setup.snapshot.length = 40)
      ∧ (slot ≠ 15 → s.tableKept = true → 55 ≤ t.setup.snapshot.length ∧ t.setup.snapshot.length ≤ 139))
  ∧ (∀ (s : State) (slot : Byte) (cal : Bool), s.takes (.erase slot cal) = true → s.flashCheck slot.toNat cal = none →
    ∃ t : State, exec (.erase slot cal) s = .next t ∧ t.responds .ok [] ∧ t.setup.phase = .pumpCheck ∧ t.setup.op = .erase
      ∧ t.setup.slot = slot.toNat ∧ t.setup.flash = s.setup.flash ∧ t.setup.dir = s.setup.dir
      ∧ t.store = s.store ∧ t.notices = s.notices ∧ s.othersKept t)
  ∧ (∀ (s : State) (slot : Byte) (cal : Bool) (i : Instr),
    i = .save slot cal ∨ i = .erase slot cal → s.takes i = true →
    (16 ≤ slot.toNat → exec i s = .next (s.answer .badValue [] .none))
    ∧ (slot.toNat < 16 → s.setup.phase ≠ .idle → exec i s = .next (s.answer .busy [] .none))
    ∧ (slot = 15 → s.setup.phase = .idle → cal = false → exec i s = .next (s.answer .protectedSlot [] .none))
    ∧ (slot.toNat < 16 → s.setup.phase = .idle → (slot = 15 → cal = true) → s.setup.supplyLow = true →
      exec i s = .next (s.answer .supplyLow [] .none)))

/-- PUMP_CHECK, VOID_MARK and WIPE (R165): a failed pump leaves flash and directory; the void mark turns the marker alone to 0x00; the wipe
leaves the slot blank and every other byte alone, with the directory entry ERASED, and ends an ERASE. -/
def Obligations.ErasingSteps : Prop :=
  (∀ (s : State) (ok : Bool), s.held = false → s.setup.phase = .pumpCheck →
    ∃ t : State, exec (.pumpCheck ok) s = .next t ∧ t.setup.flash = s.setup.flash ∧ t.setup.dir = s.setup.dir
      ∧ t.store = s.store ∧ t.link = s.link ∧ s.othersKept t
      ∧ (ok = true → t.setup.phase = .voidMark ∧ t.notices = s.notices)
      ∧ (ok = false → t.setup.phase = .idle ∧ t.setup.last.result = .failPump ∧ t.noticed .setupFail = true))
  ∧ (∀ s : State, s.held = false → s.flashKept = true → s.setup.phase = .voidMark →
    ∃ t : State, exec .voidMark s = .next t ∧ t.setup.phase = .wipe ∧ t.setup.dir = s.setup.dir ∧ t.store = s.store
      ∧ t.link = s.link ∧ t.notices = s.notices ∧ s.othersKept t
      ∧ t.setup.flash.read (slotBase s.setup.slot) = 0
      ∧ ∀ a, a ≠ slotBase s.setup.slot → t.setup.flash.read a = s.setup.flash.read a)
  ∧ (∀ s : State, s.held = false → s.flashKept = true → s.setup.phase = .wipe →
    ∃ t : State, exec .wipe s = .next t ∧ t.setup.dirAt s.setup.slot = { state := .erased, count := 0 } ∧ t.store = s.store
      ∧ t.link = s.link ∧ s.othersKept t ∧ (∀ i, i ≠ s.setup.slot → t.setup.dirAt i = s.setup.dirAt i)
      ∧ (∀ a, slotBase s.setup.slot ≤ a → a < slotBase s.setup.slot + 2048 → t.setup.flash.read a = blankByte)
      ∧ (∀ a, a < slotBase s.setup.slot ∨ slotBase s.setup.slot + 2048 ≤ a → t.setup.flash.read a = s.setup.flash.read a)
      ∧ (s.setup.op = .erase → t.setup.phase = .idle ∧ t.setup.last.result = .ok ∧ t.noticed .setupDone = true)
      ∧ (s.setup.op ≠ .erase → t.setup.phase = .program ∧ t.notices = s.notices))

/-- ENTRY_PROGRAM, HEADER_PROGRAM and SEAL (R166, R167): each byte of the step is programmed, its bits turned from one to zero alone
but for those stuck (log 8), so that a blank place takes the entry or header whole (R191); a read-back that matches moves on,
one that differs is tried three times, the directory entry is BAD until the seal makes it VALID; no byte outside the step's
own moves. That the BAD entry keeps its count is
log 11's choice. The entry is BAD from the first step's beginning, which no row marks: when a report or a cut-off before the
attempt's end finds it begun is log 10's. -/
def Obligations.ProgrammingSteps : Prop :=
  (∀ (s : State) (stuck : Flips) (e : Nat × Int), s.held = false → s.flashKept = true → s.setup.phase = .program →
    s.setup.snapshot[s.setup.progress]? = some e →
    ∃ t : State, exec (.entryProgram stuck) s = .next t ∧ t.store = s.store ∧ t.link = s.link ∧ s.othersKept t
      ∧ t.setup.dir = s.setup.dir.modify s.setup.slot (fun d => { d with state := .bad })
      ∧ (∀ a, a < placeBase s.setup.slot (s.setup.progress + 1) ∨ placeBase s.setup.slot (s.setup.progress + 1) + 11 ≤ a →
          t.setup.flash.read a = s.setup.flash.read a)
      ∧ (s.setup.progress < 184 → ∀ (i : Nat) (b : Byte), (entryBytes e)[i]? = some b →
          t.setup.flash.read (placeBase s.setup.slot (s.setup.progress + 1) + i)
            = s.setup.flash.read (placeBase s.setup.slot (s.setup.progress + 1) + i)
              &&& (b ||| flipAt stuck (placeBase s.setup.slot (s.setup.progress + 1) + i)))
      ∧ (stuck = [] → s.setup.progress < 184 →
          s.setup.flash.bytes (placeBase s.setup.slot (s.setup.progress + 1)) 11 = List.replicate 11 blankByte →
          t.setup.flash.bytes (placeBase s.setup.slot (s.setup.progress + 1)) 11 = entryBytes e
          ∧ t.setup.progress = s.setup.progress + 1)
      ∧ (t.setup.flash.bytes (placeBase s.setup.slot (s.setup.progress + 1)) 11 = entryBytes e →
          t.setup.progress = s.setup.progress + 1 ∧ t.setup.attempts = 0 ∧ t.notices = s.notices
          ∧ (t.setup.phase = if s.setup.snapshot.length ≤ s.setup.progress + 1 then .sealHeader else .program))
      ∧ (t.setup.flash.bytes (placeBase s.setup.slot (s.setup.progress + 1)) 11 ≠ entryBytes e →
          (s.setup.attempts < 2 → t.setup.phase = .program ∧ t.setup.attempts = s.setup.attempts + 1
            ∧ t.setup.progress = s.setup.progress ∧ t.setup.counts.retries = Nat.min 255 (s.setup.counts.retries + 1))
          ∧ (2 ≤ s.setup.attempts → t.setup.phase = .idle ∧ t.setup.last.result = .failVerify ∧ t.noticed .setupFail = true)))
  ∧ (∀ (s : State) (stuck : Flips), s.held = false → s.flashKept = true → s.setup.phase = .sealHeader →
    ∃ t : State, exec (.headerProgram stuck) s = .next t ∧ t.store = s.store ∧ t.link = s.link ∧ s.othersKept t
      ∧ t.setup.dir = s.setup.dir
      ∧ (∀ a, a < slotBase s.setup.slot + 1 ∨ slotBase s.setup.slot + 16 ≤ a → t.setup.flash.read a = s.setup.flash.read a)
      ∧ (∀ (i : Nat) (b : Byte), (headerFields s.setup.slot s.setup.snapshot.length)[i]? = some b →
          t.setup.flash.read (slotBase s.setup.slot + 1 + i)
            = s.setup.flash.read (slotBase s.setup.slot + 1 + i) &&& (b ||| flipAt stuck (slotBase s.setup.slot + 1 + i)))
      ∧ (stuck = [] → s.setup.flash.bytes (slotBase s.setup.slot + 1) 15 = List.replicate 15 blankByte →
          t.setup.flash.bytes (slotBase s.setup.slot + 1) 15 = headerFields s.setup.slot s.setup.snapshot.length
          ∧ t.setup.phase = .sealMarker)
      ∧ (t.setup.flash.bytes (slotBase s.setup.slot + 1) 15 = headerFields s.setup.slot s.setup.snapshot.length →
          t.setup.phase = .sealMarker)
      ∧ (t.setup.flash.bytes (slotBase s.setup.slot + 1) 15 ≠ headerFields s.setup.slot s.setup.snapshot.length →
          (s.setup.attempts < 2 → t.setup.phase = .sealHeader ∧ t.setup.attempts = s.setup.attempts + 1)
          ∧ (2 ≤ s.setup.attempts → t.setup.phase = .idle ∧ t.setup.last.result = .failVerify)))
  ∧ (∀ s : State, s.held = false → s.flashKept = true → s.setup.phase = .sealMarker →
    s.setup.flash.read (slotBase s.setup.slot) = blankByte →
    ∃ t : State, exec .seal s = .next t ∧ t.setup.flash.read (slotBase s.setup.slot) = sealed
      ∧ (∀ a, a ≠ slotBase s.setup.slot → t.setup.flash.read a = s.setup.flash.read a)
      ∧ t.setup.dirAt s.setup.slot = { state := .valid, count := s.setup.snapshot.length }
      ∧ t.setup.phase = .idle ∧ t.setup.last = { op := s.setup.op, slot := s.setup.slot, result := .ok, counts := s.setup.counts }
      ∧ t.noticed .setupDone = true ∧ t.store = s.store ∧ t.link = s.link ∧ s.othersKept t
      ∧ (∀ i, i ≠ s.setup.slot → t.setup.dirAt i = s.setup.dirAt i))

/-- RECALL and HEADER_REREAD: the checks in order; an accepted recall of a setup slot opens group 3 with as many entries as the directory
counts (R170, R16); a header that reads as the directory says goes on to the entries, or with no
entry ends the reading; any other, uncorrectable or with another marker, kind or count, is FAIL_HEADER (R171). In the start-up load it
raises neither SETUP_DONE nor SETUP_FAIL: that of slot 15 is a missing calibration, which raises CAL_MISSING and goes on to slot 0;
that of slot 0 ends the load with its record (R177). That the BAD entry keeps its count is log 11's choice. -/
def Obligations.RecallOpensAndRereads : Prop :=
  (∀ (s : State) (slot : Byte), s.takes (.recallSetup slot) = true →
    (16 ≤ slot.toNat → exec (.recallSetup slot) s = .next (s.answer .badValue [] .none))
    ∧ (slot.toNat < 16 → s.setup.phase ≠ .idle ∨ (s.store.group 3).state ≠ .empty →
      exec (.recallSetup slot) s = .next (s.answer .busy [] .none))
    ∧ (slot.toNat < 16 → s.setup.phase = .idle → (s.store.group 3).state = .empty →
      ((s.setup.dirAt slot.toNat).state = .erased → exec (.recallSetup slot) s = .next (s.answer .emptySlot [] .none))
      ∧ ((s.setup.dirAt slot.toNat).state = .bad → exec (.recallSetup slot) s = .next (s.answer .badSlot [] .none))
      ∧ ((s.setup.dirAt slot.toNat).state = .valid → slot ≠ 15 → s.poolFree < (s.setup.dirAt slot.toNat).count →
          exec (.recallSetup slot) s = .next (s.answer .groupFull [] .none))
      ∧ ((s.setup.dirAt slot.toNat).state = .valid → slot = 15 ∨ (s.setup.dirAt slot.toNat).count ≤ s.poolFree →
          ∃ t : State, exec (.recallSetup slot) s = .next t ∧ t.responds .ok [] ∧ t.setup.phase = .readHeader
            ∧ t.setup.op = .recall ∧ t.setup.slot = slot.toNat ∧ t.setup.counts = Counts.zero
            ∧ t.setup.flash = s.setup.flash ∧ t.setup.dir = s.setup.dir ∧ t.notices = s.notices ∧ s.othersKept t
            ∧ t.store = (if slot = 15 then s
                else setGroup 3 { state := .holding, entries := [], reserved := (s.setup.dirAt slot.toNat).count } s).store)))
  ∧ (∀ (s : State) (fl : Flips) (h : SlotHeader), s.held = false → s.setup.phase = .readHeader →
    readHeader (s.setup.flash.bytesAsRead fl (slotBase s.setup.slot) 16) = some h →
    h.marker = sealed → h.kind = slotKind s.setup.slot → h.count = (s.setup.dirAt s.setup.slot).count → 0 < h.count →
    exec (.headerReread fl) s = .next (setPhase .readEntries s))
  ∧ (∀ (s : State) (fl : Flips) (h : SlotHeader), s.held = false → s.setup.phase = .readHeader →
    readHeader (s.setup.flash.bytesAsRead fl (slotBase s.setup.slot) 16) = some h →
    h.marker = sealed → h.kind = slotKind s.setup.slot → h.count = (s.setup.dirAt s.setup.slot).count → h.count = 0 →
    exec (.headerReread fl) s = .next (endReading s))
  ∧ (∀ (s : State) (fl : Flips), s.held = false → s.setup.starting = true → s.setup.phase = .readHeader →
    (∀ h, readHeader (s.setup.flash.bytesAsRead fl (slotBase s.setup.slot) 16) = some h →
      h.marker ≠ sealed ∨ h.kind ≠ slotKind s.setup.slot ∨ h.count ≠ (s.setup.dirAt s.setup.slot).count) →
    ∃ t : State, exec (.headerReread fl) s = .next t
      ∧ t.setup.dir = s.setup.dir.modify s.setup.slot (fun d => { d with state := .bad })
      ∧ t.link = s.link ∧ s.othersKept t ∧ t.store = { s.store with groups := t.store.groups }
      ∧ (s.setup.slot = 15 → t.notices = (raise .calMissing s).notices ∧ t.setup.calResult = .absent ∧ s.loadsSetup t)
      ∧ (s.setup.slot ≠ 15 → t.notices = s.notices ∧ t.setup.starting = true ∧ t.setup.phase = .idle ∧ t.setup.op = .none
          ∧ t.setup.setupResult = .absent ∧ t.setup.calResult = s.setup.calResult ∧ t.setup.flash = s.setup.flash
          ∧ t.setup.last = { op := .start, slot := 0, result := .failHeader, counts := s.setup.counts }
          ∧ t.store.groups = s.store.groups.set 3 Group.reset))
  ∧ (∀ (s : State) (fl : Flips), s.held = false → s.setup.starting = false → s.setup.phase = .readHeader →
    (∀ h, readHeader (s.setup.flash.bytesAsRead fl (slotBase s.setup.slot) 16) = some h →
      h.marker ≠ sealed ∨ h.kind ≠ slotKind s.setup.slot ∨ h.count ≠ (s.setup.dirAt s.setup.slot).count) →
    ∃ t : State, exec (.headerReread fl) s = .next t ∧ t.setup.phase = .idle ∧ t.setup.last.result = .failHeader
      ∧ t.setup.dir = s.setup.dir.modify s.setup.slot (fun d => { d with state := .bad })
      ∧ t.noticed .setupFail = true ∧ t.setup.flash = s.setup.flash ∧ t.link = s.link ∧ s.othersKept t
      ∧ t.store = (if s.setup.slot = 15 then s else setGroup 3 Group.reset s).store)

/-- ENTRY_READ, GROUP3_LAUNCH_RETRY and what the launched change does: an entry that reads uncorrectable is skipped; a clean or
corrected one is taken where it names a field of the slot's snapshot above the last one taken, into group 3 or slot 15's buffer,
and skipped as unknown otherwise; the entry at the directory's count ends the reading (R171). A calibration reading writes its
buffer in one event (R174). Group 3 is launched as one change, which a full queue makes wait; an empty one ends the recall (R172).
In the start-up load neither raises a notice: slot 15's reading sets the calibration result and goes on to slot 0, slot 0's sets the
setup result and writes the load's record (R177, R178).
A recall's change leaves live the cursors and measurements it holds entries for, those before it retired, and group 3 EMPTY
(R173). -/
def Obligations.EntriesReadAndLaunched : Prop :=
  (∀ (s : State) (fl : Flips), s.held = false → s.setup.phase = .readEntries →
    exec (.entryRead fl) s = .next
      (if (s.setup.dirAt s.setup.slot).count ≤ s.setup.place + 1 then endReading (readEntry fl s) else readEntry fl s))
  ∧ (∀ (s : State) (fl : Flips) (bs d : List Byte) (c : Counts),
    bs = s.setup.flash.bytesAsRead fl (placeBase s.setup.slot (s.setup.place + 1)) 11 →
    (testCheck (bs.take 10) (bs.getD 10 0) = .uncorrectable →
      readEntry fl s = { s with setup := { s.setup with place := s.setup.place + 1, counts := { s.setup.counts with
        uncorrectable := Nat.min 255 (s.setup.counts.uncorrectable + 1) } } })
    ∧ ((testCheck (bs.take 10) (bs.getD 10 0) = .clean d ∧ c = s.setup.counts)
        ∨ (testCheck (bs.take 10) (bs.getD 10 0) = .corrected d
          ∧ c = { s.setup.counts with corrected := Nat.min 255 (s.setup.counts.corrected + 1) }) →
      ((∀ f, fieldOf (beNat (d.take 2)) = some f → inSnapshot s.setup.slot f = false
          ∨ ∃ n, s.setup.lastTaken = some n ∧ beNat (d.take 2) ≤ n) →
        readEntry fl s = { s with setup := { s.setup with
          place := s.setup.place + 1, counts := { c with unknown := Nat.min 255 (c.unknown + 1) } } })
      ∧ (∀ (f : FieldId) (v : Int) (u : Setup), fieldOf (beNat (d.take 2)) = some f → inSnapshot s.setup.slot f = true →
        (∀ n, s.setup.lastTaken = some n → n < beNat (d.take 2)) → v = signed64 (beNat (d.drop 2)) →
        u = { s.setup with
          place := s.setup.place + 1, progress := s.setup.progress + 1, lastTaken := some (fieldCode f),
          counts := { c with done := Nat.min 255 (c.done + 1) } } →
        (s.setup.slot ≠ 15 → readEntry fl s = setGroup 3
          { state := (s.store.group 3).state, entries := (s.store.group 3).entries ++ [{ id := f, val := .int v }],
            reserved := (s.store.group 3).reserved - 1 } { s with setup := u })
        ∧ (s.setup.slot = 15 → readEntry fl s = { s with setup := { u with calBuf := s.setup.calBuf ++ [(f, v)] } }))))
  ∧ (∀ s : State, s.setup.slot ≠ 15 → endReading s = launch3 s)
  ∧ (∀ s : State, s.setup.slot = 15 → s.setup.starting = false → s.tableKept = true →
    (s.setup.calBuf.map (·.1)).Pairwise (· ≠ ·) → (∀ e, e ∈ s.setup.calBuf → inSnapshot 15 e.1 = true) →
    ∃ t : State, endReading s = t ∧ t.setup.phase = .idle ∧ t.setup.calBuf = []
      ∧ t.setup.last = { op := s.setup.op, slot := 15, result := readResult s.setup.counts, counts := s.setup.counts }
      ∧ (∀ f v, (f, v) ∈ s.setup.calBuf → t.get f = if f.num = 19 then limit 24576 40960 v else limit (-32) 31 v)
      ∧ (∀ f, f ∉ s.setup.calBuf.map (·.1) → t.get f = s.get f)
      ∧ t.setup.flash = s.setup.flash ∧ t.setup.dir = s.setup.dir ∧ t.link = s.link ∧ t.store.groups = s.store.groups
      ∧ t.store.queue = s.store.queue ∧ s.othersKept t)
  ∧ (∀ s : State, s.setup.slot = 15 → s.setup.starting = true → s.tableKept = true →
    (s.setup.calBuf.map (·.1)).Pairwise (· ≠ ·) → (∀ e, e ∈ s.setup.calBuf → inSnapshot 15 e.1 = true) →
    ∃ t : State, endReading s = t ∧ t.setup.calResult = loadResult s.setup.counts ∧ s.loadsSetup t ∧ t.notices = s.notices
      ∧ (∀ f v, (f, v) ∈ s.setup.calBuf → t.get f = if f.num = 19 then limit 24576 40960 v else limit (-32) 31 v)
      ∧ (∀ f, f ∉ s.setup.calBuf.map (·.1) → t.get f = s.get f)
      ∧ t.setup.dir = s.setup.dir ∧ t.link = s.link ∧ s.othersKept t)
  ∧ (∀ s : State, s.held = false → s.setup.phase = .launchWait → exec .group3LaunchRetry s = .next (launch3 s))
  ∧ (∀ s : State, s.held = false → s.setup.phase = .launchWait → (s.store.group 3).entries ≠ [] →
    16 ≤ s.store.queue.length → exec .group3LaunchRetry s = .next s)
  ∧ (∀ s : State, (s.store.group 3).entries ≠ [] → 16 ≤ s.store.queue.length → launch3 s = setPhase .launchWait s)
  ∧ (∀ s : State, s.setup.starting = false → (s.store.group 3).entries = [] →
    ∃ t : State, launch3 s = t ∧ t.setup.phase = .idle ∧ t.store.queue = s.store.queue
      ∧ t.store.groups = s.store.groups.set 3 Group.reset
      ∧ t.setup.last = { op := s.setup.op, slot := s.setup.slot, result := readResult s.setup.counts, counts := s.setup.counts }
      ∧ t.setup.flash = s.setup.flash ∧ t.setup.dir = s.setup.dir ∧ t.link = s.link ∧ s.othersKept t)
  ∧ (∀ s : State, s.setup.starting = false → (s.store.group 3).entries ≠ [] → s.store.queue.length < 16 →
    ∃ u : State, launch3 s = joinQueue .recall (s.store.group 3).entries u
      ∧ u.store = (setGroup 3 { state := .launched, entries := [], reserved := 0 } s).store
      ∧ u.setup = { s.setup with
          last := { op := s.setup.op, slot := s.setup.slot, result := readResult s.setup.counts, counts := s.setup.counts },
          phase := .idle, op := .none, snapshot := [], calBuf := [] }
      ∧ u.notices = (raise (if s.setup.counts.uncorrectable + s.setup.counts.unknown = 0 then .setupDone else .setupFail) s).notices
      ∧ u.link = s.link ∧ s.othersKept u
      ∧ (launch3 s).setup = u.setup ∧ (launch3 s).link = s.link ∧ (launch3 s).rend = s.rend)
  ∧ (∀ s : State, s.setup.starting = true → s.setup.slot ≠ 15 → (s.store.group 3).entries = [] →
    ∃ t : State, launch3 s = t ∧ t.setup = { s.setup with
          last := { op := .start, slot := 0, result := readResult s.setup.counts, counts := s.setup.counts },
          phase := .idle, op := .none, setupResult := loadResult s.setup.counts }
      ∧ t.store.queue = s.store.queue ∧ t.store.groups = s.store.groups.set 3 Group.reset ∧ t.notices = s.notices
      ∧ t.link = s.link ∧ s.othersKept t)
  ∧ (∀ s : State, s.setup.starting = true → s.setup.slot ≠ 15 → (s.store.group 3).entries ≠ [] → s.store.queue.length < 16 →
    ∃ u : State, launch3 s = joinQueue .recall (s.store.group 3).entries u
      ∧ u.store = (setGroup 3 { state := .launched, entries := [], reserved := 0 } s).store
      ∧ u.setup = { s.setup with
          last := { op := .start, slot := 0, result := readResult s.setup.counts, counts := s.setup.counts },
          phase := .idle, op := .none, setupResult := loadResult s.setup.counts }
      ∧ u.notices = s.notices ∧ u.link = s.link ∧ s.othersKept u
      ∧ (launch3 s).setup = u.setup ∧ (launch3 s).link = s.link ∧ (launch3 s).rend = s.rend)
  ∧ ∀ (s : State) (c : Change), s.tableKept = true → c.origin = .recall →
    ∃ t : State, applyChange c s = t ∧ (t.store.group 3).state = .empty
      ∧ (∀ i, i < 4 → t.isLive .cursor i = touches c.entries .cursor i
          ∧ (t.recAt .cursor i).gen =
              if s.isLive .cursor i = true then ((s.recAt .cursor i).gen + 1) % 16 else (s.recAt .cursor i).gen)
      ∧ (∀ i, i < 8 → t.isLive .measurement i = touches c.entries .measurement i
          ∧ (t.recAt .measurement i).gen =
              if s.isLive .measurement i = true then ((s.recAt .measurement i).gen + 1) % 16 else (s.recAt .measurement i).gen)
      ∧ (∀ i, t.isLive .object i = s.isLive .object i) ∧ t.setup = s.setup

/-- ABORT: refused in IDLE; in every phase the operation ends ABORTED with SETUP_FAIL, and leaves the flash, the directory and group 3
by R169's table: the pump check and READING leave flash and directory, PROGRAMMING before its first program step an ERASED entry, every
other phase a BAD one, and a setup recall's group 3 is EMPTY (R169). The BAD entry's count is log 11's; whether the first program
step has begun, where nothing shows it yet, is log 10's. -/
def Obligations.AbortCutsOff : Prop :=
  (∀ s : State, s.takes .abort = true → s.setup.phase = .idle → exec .abort s = .next (s.answer .wrongState [] .none))
  ∧ (∀ s : State, s.takes .abort = true → s.setup.phase ≠ .idle →
    ∃ t : State, exec .abort s = .next t ∧ t.responds .ok [] ∧ t.setup.phase = .idle
      ∧ t.setup.last = { op := s.setup.op, slot := s.setup.slot, result := .aborted, counts := s.setup.counts }
      ∧ t.setup.snapshot = [] ∧ t.setup.calBuf = [] ∧ t.noticed .setupFail = true ∧ s.cutLeaves t ∧ s.othersKept t)

/-- The SECDED code (R191): undisturbed data tests clean, any one wrong data bit is corrected, and an entry as stored reads back as
the field and value stored (R190). -/
def Obligations.CheckCorrectsOneBit : Prop :=
  (∀ data : List Byte, data.length = 10 →
    testCheck data (checkByte data) = .clean data
    ∧ ∀ j, j < 80 → testCheck (flipBit j data) (checkByte data) = .corrected data)
  ∧ ∀ (f : FieldId) (v : Int), f.inst < 64 → f.num < 32 → -9223372036854775808 ≤ v → v ≤ 9223372036854775807 →
    ∃ d : List Byte, (entryBytes (fieldCode f, v)).length = 11
      ∧ testCheck ((entryBytes (fieldCode f, v)).take 10) ((entryBytes (fieldCode f, v)).getD 10 0) = .clean d
      ∧ fieldOf (beNat (d.take 2)) = some f ∧ signed64 (beNat (d.drop 2)) = v

/-! ## Invariants -/

/-- Every step keeps the record table: each kind's instances, each with its fields, the fixed ones live with generation 0 (R1, R2). -/
def Obligations.StepKeepsRecordTable : Prop :=
  ∀ s t : State, s.tableKept = true → step s = .next t → t.tableKept = true

/-- Every step keeps four groups and at most 16 changes in the launch queue (R16, R20). -/
def Obligations.StepKeepsQueueBound : Prop :=
  ∀ s t : State, s.queueKept = true → step s = .next t → t.queueKept = true

/-- Every step keeps 48 keys and 12 encoders, press counts in 0-15 and pending detents and carries in -127..+127,
and a PANEL_READ snapshot held by the link of 48 counts and 12 pending values (R112, R116, R117). -/
def Obligations.StepKeepsPanelTable : Prop :=
  ∀ s t : State, s.panelKept = true → step s = .next t → t.panelKept = true

/-- Every step keeps the flash in its canonical form, whatever it programs, wipes or cuts off, with 16 directory entries and the
operation's slot one of them (R161, R163). -/
def Obligations.StepKeepsFlash : Prop :=
  ∀ s t : State, s.flashKept = true → step s = .next t → t.flashKept = true

/-- The reset state meets the four invariants. -/
def Obligations.ResetKeepsInvariants : Prop :=
  State.reset.tableKept = true ∧ State.reset.queueKept = true ∧ State.reset.panelKept = true ∧ State.reset.flashKept = true
end

