-- ==== Sys2Proof/Laws/State.lean ====
section
/-! SUPPORT. What each update of the state does to each block: one lemma per block per update, so that no later proof
unfolds a record update. -/

namespace Sys2Proof.Machine

variable (s : State)

@[simp] theorem modRec_store (k : Kind) (i : Nat) (g : Rec → Rec) : (modRec k i g s).store = s.store.setTable k ((s.store.table k).modify i g) := rfl
@[simp] theorem modRec_path (k : Kind) (i : Nat) (g : Rec → Rec) : (modRec k i g s).path = s.path := rfl
@[simp] theorem modRec_comb (k : Kind) (i : Nat) (g : Rec → Rec) : (modRec k i g s).comb = s.comb := rfl
@[simp] theorem modRec_sweep (k : Kind) (i : Nat) (g : Rec → Rec) : (modRec k i g s).sweep = s.sweep := rfl
@[simp] theorem modRec_trig (k : Kind) (i : Nat) (g : Rec → Rec) : (modRec k i g s).trig = s.trig := rfl
@[simp] theorem modRec_meas (k : Kind) (i : Nat) (g : Rec → Rec) : (modRec k i g s).meas = s.meas := rfl
@[simp] theorem modRec_panel (k : Kind) (i : Nat) (g : Rec → Rec) : (modRec k i g s).panel = s.panel := rfl
@[simp] theorem modRec_rend (k : Kind) (i : Nat) (g : Rec → Rec) : (modRec k i g s).rend = s.rend := rfl
@[simp] theorem modRec_setup (k : Kind) (i : Nat) (g : Rec → Rec) : (modRec k i g s).setup = s.setup := rfl
@[simp] theorem modRec_link (k : Kind) (i : Nat) (g : Rec → Rec) : (modRec k i g s).link = s.link := rfl
@[simp] theorem modRec_notices (k : Kind) (i : Nat) (g : Rec → Rec) : (modRec k i g s).notices = s.notices := rfl
@[simp] theorem modRec_held (k : Kind) (i : Nat) (g : Rec → Rec) : (modRec k i g s).held = s.held := rfl
@[simp] theorem modRec_cause (k : Kind) (i : Nat) (g : Rec → Rec) : (modRec k i g s).cause = s.cause := rfl
@[simp] theorem modRec_free (k : Kind) (i : Nat) (g : Rec → Rec) : (modRec k i g s).free = s.free := rfl
@[simp] theorem modRec_pending (k : Kind) (i : Nat) (g : Rec → Rec) : (modRec k i g s).pending = s.pending := rfl

@[simp] theorem setVal_path (f : FieldId) (v : Int) : (setVal f v s).path = s.path := rfl
@[simp] theorem setVal_comb (f : FieldId) (v : Int) : (setVal f v s).comb = s.comb := rfl
@[simp] theorem setVal_sweep (f : FieldId) (v : Int) : (setVal f v s).sweep = s.sweep := rfl
@[simp] theorem setVal_trig (f : FieldId) (v : Int) : (setVal f v s).trig = s.trig := rfl
@[simp] theorem setVal_meas (f : FieldId) (v : Int) : (setVal f v s).meas = s.meas := rfl
@[simp] theorem setVal_panel (f : FieldId) (v : Int) : (setVal f v s).panel = s.panel := rfl
@[simp] theorem setVal_rend (f : FieldId) (v : Int) : (setVal f v s).rend = s.rend := rfl
@[simp] theorem setVal_setup (f : FieldId) (v : Int) : (setVal f v s).setup = s.setup := rfl
@[simp] theorem setVal_link (f : FieldId) (v : Int) : (setVal f v s).link = s.link := rfl
@[simp] theorem setVal_notices (f : FieldId) (v : Int) : (setVal f v s).notices = s.notices := rfl
@[simp] theorem setVal_held (f : FieldId) (v : Int) : (setVal f v s).held = s.held := rfl
@[simp] theorem setVal_cause (f : FieldId) (v : Int) : (setVal f v s).cause = s.cause := rfl
@[simp] theorem setVal_free (f : FieldId) (v : Int) : (setVal f v s).free = s.free := rfl
@[simp] theorem setVal_pending (f : FieldId) (v : Int) : (setVal f v s).pending = s.pending := rfl

@[simp] theorem setText_path (i : Nat) (t : List Byte) : (setText i t s).path = s.path := rfl
@[simp] theorem setText_comb (i : Nat) (t : List Byte) : (setText i t s).comb = s.comb := rfl
@[simp] theorem setText_sweep (i : Nat) (t : List Byte) : (setText i t s).sweep = s.sweep := rfl
@[simp] theorem setText_trig (i : Nat) (t : List Byte) : (setText i t s).trig = s.trig := rfl
@[simp] theorem setText_meas (i : Nat) (t : List Byte) : (setText i t s).meas = s.meas := rfl
@[simp] theorem setText_panel (i : Nat) (t : List Byte) : (setText i t s).panel = s.panel := rfl
@[simp] theorem setText_rend (i : Nat) (t : List Byte) : (setText i t s).rend = s.rend := rfl
@[simp] theorem setText_setup (i : Nat) (t : List Byte) : (setText i t s).setup = s.setup := rfl
@[simp] theorem setText_link (i : Nat) (t : List Byte) : (setText i t s).link = s.link := rfl
@[simp] theorem setText_notices (i : Nat) (t : List Byte) : (setText i t s).notices = s.notices := rfl
@[simp] theorem setText_held (i : Nat) (t : List Byte) : (setText i t s).held = s.held := rfl
@[simp] theorem setText_cause (i : Nat) (t : List Byte) : (setText i t s).cause = s.cause := rfl
@[simp] theorem setText_free (i : Nat) (t : List Byte) : (setText i t s).free = s.free := rfl
@[simp] theorem setText_pending (i : Nat) (t : List Byte) : (setText i t s).pending = s.pending := rfl

@[simp] theorem setGroup_store (g : Nat) (x : Group) : (setGroup g x s).store = { s.store with groups := s.store.groups.set g x } := rfl
@[simp] theorem setGroup_path (g : Nat) (x : Group) : (setGroup g x s).path = s.path := rfl
@[simp] theorem setGroup_comb (g : Nat) (x : Group) : (setGroup g x s).comb = s.comb := rfl
@[simp] theorem setGroup_sweep (g : Nat) (x : Group) : (setGroup g x s).sweep = s.sweep := rfl
@[simp] theorem setGroup_trig (g : Nat) (x : Group) : (setGroup g x s).trig = s.trig := rfl
@[simp] theorem setGroup_meas (g : Nat) (x : Group) : (setGroup g x s).meas = s.meas := rfl
@[simp] theorem setGroup_panel (g : Nat) (x : Group) : (setGroup g x s).panel = s.panel := rfl
@[simp] theorem setGroup_rend (g : Nat) (x : Group) : (setGroup g x s).rend = s.rend := rfl
@[simp] theorem setGroup_setup (g : Nat) (x : Group) : (setGroup g x s).setup = s.setup := rfl
@[simp] theorem setGroup_link (g : Nat) (x : Group) : (setGroup g x s).link = s.link := rfl
@[simp] theorem setGroup_notices (g : Nat) (x : Group) : (setGroup g x s).notices = s.notices := rfl
@[simp] theorem setGroup_held (g : Nat) (x : Group) : (setGroup g x s).held = s.held := rfl
@[simp] theorem setGroup_cause (g : Nat) (x : Group) : (setGroup g x s).cause = s.cause := rfl
@[simp] theorem setGroup_free (g : Nat) (x : Group) : (setGroup g x s).free = s.free := rfl
@[simp] theorem setGroup_pending (g : Nat) (x : Group) : (setGroup g x s).pending = s.pending := rfl

@[simp] theorem setQueue_store (q : List Change) : (setQueue q s).store = { s.store with queue := q } := rfl
@[simp] theorem setQueue_path (q : List Change) : (setQueue q s).path = s.path := rfl
@[simp] theorem setQueue_comb (q : List Change) : (setQueue q s).comb = s.comb := rfl
@[simp] theorem setQueue_sweep (q : List Change) : (setQueue q s).sweep = s.sweep := rfl
@[simp] theorem setQueue_trig (q : List Change) : (setQueue q s).trig = s.trig := rfl
@[simp] theorem setQueue_meas (q : List Change) : (setQueue q s).meas = s.meas := rfl
@[simp] theorem setQueue_panel (q : List Change) : (setQueue q s).panel = s.panel := rfl
@[simp] theorem setQueue_rend (q : List Change) : (setQueue q s).rend = s.rend := rfl
@[simp] theorem setQueue_setup (q : List Change) : (setQueue q s).setup = s.setup := rfl
@[simp] theorem setQueue_link (q : List Change) : (setQueue q s).link = s.link := rfl
@[simp] theorem setQueue_notices (q : List Change) : (setQueue q s).notices = s.notices := rfl
@[simp] theorem setQueue_held (q : List Change) : (setQueue q s).held = s.held := rfl
@[simp] theorem setQueue_cause (q : List Change) : (setQueue q s).cause = s.cause := rfl
@[simp] theorem setQueue_free (q : List Change) : (setQueue q s).free = s.free := rfl
@[simp] theorem setQueue_pending (q : List Change) : (setQueue q s).pending = s.pending := rfl

@[simp] theorem setLockCount_store (p n : Nat) : (setLockCount p n s).store = s.store := rfl
@[simp] theorem setLockCount_path (p n : Nat) : (setLockCount p n s).path = { s.path with lockCount := s.path.lockCount.set p n } := rfl
@[simp] theorem setLockCount_comb (p n : Nat) : (setLockCount p n s).comb = s.comb := rfl
@[simp] theorem setLockCount_sweep (p n : Nat) : (setLockCount p n s).sweep = s.sweep := rfl
@[simp] theorem setLockCount_trig (p n : Nat) : (setLockCount p n s).trig = s.trig := rfl
@[simp] theorem setLockCount_meas (p n : Nat) : (setLockCount p n s).meas = s.meas := rfl
@[simp] theorem setLockCount_panel (p n : Nat) : (setLockCount p n s).panel = s.panel := rfl
@[simp] theorem setLockCount_rend (p n : Nat) : (setLockCount p n s).rend = s.rend := rfl
@[simp] theorem setLockCount_setup (p n : Nat) : (setLockCount p n s).setup = s.setup := rfl
@[simp] theorem setLockCount_link (p n : Nat) : (setLockCount p n s).link = s.link := rfl
@[simp] theorem setLockCount_notices (p n : Nat) : (setLockCount p n s).notices = s.notices := rfl
@[simp] theorem setLockCount_held (p n : Nat) : (setLockCount p n s).held = s.held := rfl
@[simp] theorem setLockCount_cause (p n : Nat) : (setLockCount p n s).cause = s.cause := rfl
@[simp] theorem setLockCount_free (p n : Nat) : (setLockCount p n s).free = s.free := rfl
@[simp] theorem setLockCount_pending (p n : Nat) : (setLockCount p n s).pending = s.pending := rfl

@[simp] theorem fePut_store (ch : Nat) (f : FeSettings) : (fePut ch f s).store = s.store := rfl
@[simp] theorem fePut_path (ch : Nat) (f : FeSettings) : (fePut ch f s).path = { s.path with pending := s.path.pending.set ch (some f), image := s.path.image.set ch f } := rfl
@[simp] theorem fePut_comb (ch : Nat) (f : FeSettings) : (fePut ch f s).comb = s.comb := rfl
@[simp] theorem fePut_sweep (ch : Nat) (f : FeSettings) : (fePut ch f s).sweep = s.sweep := rfl
@[simp] theorem fePut_trig (ch : Nat) (f : FeSettings) : (fePut ch f s).trig = s.trig := rfl
@[simp] theorem fePut_meas (ch : Nat) (f : FeSettings) : (fePut ch f s).meas = s.meas := rfl
@[simp] theorem fePut_panel (ch : Nat) (f : FeSettings) : (fePut ch f s).panel = s.panel := rfl
@[simp] theorem fePut_rend (ch : Nat) (f : FeSettings) : (fePut ch f s).rend = s.rend := rfl
@[simp] theorem fePut_setup (ch : Nat) (f : FeSettings) : (fePut ch f s).setup = s.setup := rfl
@[simp] theorem fePut_link (ch : Nat) (f : FeSettings) : (fePut ch f s).link = s.link := rfl
@[simp] theorem fePut_notices (ch : Nat) (f : FeSettings) : (fePut ch f s).notices = s.notices := rfl
@[simp] theorem fePut_held (ch : Nat) (f : FeSettings) : (fePut ch f s).held = s.held := rfl
@[simp] theorem fePut_cause (ch : Nat) (f : FeSettings) : (fePut ch f s).cause = s.cause := rfl
@[simp] theorem fePut_free (ch : Nat) (f : FeSettings) : (fePut ch f s).free = s.free := rfl
@[simp] theorem fePut_pending (ch : Nat) (f : FeSettings) : (fePut ch f s).pending = s.pending := rfl

@[simp] theorem modBanks_store (ch : Nat) (g : List Bank → List Bank) : (modBanks ch g s).store = s.store := rfl
@[simp] theorem modBanks_path (ch : Nat) (g : List Bank → List Bank) : (modBanks ch g s).path = s.path := rfl
@[simp] theorem modBanks_comb (ch : Nat) (g : List Bank → List Bank) : (modBanks ch g s).comb = { s.comb with banks := s.comb.banks.modify ch g } := rfl
@[simp] theorem modBanks_sweep (ch : Nat) (g : List Bank → List Bank) : (modBanks ch g s).sweep = s.sweep := rfl
@[simp] theorem modBanks_trig (ch : Nat) (g : List Bank → List Bank) : (modBanks ch g s).trig = s.trig := rfl
@[simp] theorem modBanks_meas (ch : Nat) (g : List Bank → List Bank) : (modBanks ch g s).meas = s.meas := rfl
@[simp] theorem modBanks_panel (ch : Nat) (g : List Bank → List Bank) : (modBanks ch g s).panel = s.panel := rfl
@[simp] theorem modBanks_rend (ch : Nat) (g : List Bank → List Bank) : (modBanks ch g s).rend = s.rend := rfl
@[simp] theorem modBanks_setup (ch : Nat) (g : List Bank → List Bank) : (modBanks ch g s).setup = s.setup := rfl
@[simp] theorem modBanks_link (ch : Nat) (g : List Bank → List Bank) : (modBanks ch g s).link = s.link := rfl
@[simp] theorem modBanks_notices (ch : Nat) (g : List Bank → List Bank) : (modBanks ch g s).notices = s.notices := rfl
@[simp] theorem modBanks_held (ch : Nat) (g : List Bank → List Bank) : (modBanks ch g s).held = s.held := rfl
@[simp] theorem modBanks_cause (ch : Nat) (g : List Bank → List Bank) : (modBanks ch g s).cause = s.cause := rfl
@[simp] theorem modBanks_free (ch : Nat) (g : List Bank → List Bank) : (modBanks ch g s).free = s.free := rfl
@[simp] theorem modBanks_pending (ch : Nat) (g : List Bank → List Bank) : (modBanks ch g s).pending = s.pending := rfl

@[simp] theorem setAcq_store (a : Acq) : (setAcq a s).store = s.store := rfl
@[simp] theorem setAcq_path (a : Acq) : (setAcq a s).path = s.path := rfl
@[simp] theorem setAcq_comb (a : Acq) : (setAcq a s).comb = s.comb := rfl
@[simp] theorem setAcq_sweep (a : Acq) : (setAcq a s).sweep = { s.sweep with acq := a } := rfl
@[simp] theorem setAcq_trig (a : Acq) : (setAcq a s).trig = s.trig := rfl
@[simp] theorem setAcq_meas (a : Acq) : (setAcq a s).meas = s.meas := rfl
@[simp] theorem setAcq_panel (a : Acq) : (setAcq a s).panel = s.panel := rfl
@[simp] theorem setAcq_rend (a : Acq) : (setAcq a s).rend = s.rend := rfl
@[simp] theorem setAcq_setup (a : Acq) : (setAcq a s).setup = s.setup := rfl
@[simp] theorem setAcq_link (a : Acq) : (setAcq a s).link = s.link := rfl
@[simp] theorem setAcq_notices (a : Acq) : (setAcq a s).notices = s.notices := rfl
@[simp] theorem setAcq_held (a : Acq) : (setAcq a s).held = s.held := rfl
@[simp] theorem setAcq_cause (a : Acq) : (setAcq a s).cause = s.cause := rfl
@[simp] theorem setAcq_free (a : Acq) : (setAcq a s).free = s.free := rfl
@[simp] theorem setAcq_pending (a : Acq) : (setAcq a s).pending = s.pending := rfl

@[simp] theorem setAuto_store (t : Option Nat) : (setAuto t s).store = s.store := rfl
@[simp] theorem setAuto_path (t : Option Nat) : (setAuto t s).path = s.path := rfl
@[simp] theorem setAuto_comb (t : Option Nat) : (setAuto t s).comb = s.comb := rfl
@[simp] theorem setAuto_sweep (t : Option Nat) : (setAuto t s).sweep = { s.sweep with auto := t } := rfl
@[simp] theorem setAuto_trig (t : Option Nat) : (setAuto t s).trig = s.trig := rfl
@[simp] theorem setAuto_meas (t : Option Nat) : (setAuto t s).meas = s.meas := rfl
@[simp] theorem setAuto_panel (t : Option Nat) : (setAuto t s).panel = s.panel := rfl
@[simp] theorem setAuto_rend (t : Option Nat) : (setAuto t s).rend = s.rend := rfl
@[simp] theorem setAuto_setup (t : Option Nat) : (setAuto t s).setup = s.setup := rfl
@[simp] theorem setAuto_link (t : Option Nat) : (setAuto t s).link = s.link := rfl
@[simp] theorem setAuto_notices (t : Option Nat) : (setAuto t s).notices = s.notices := rfl
@[simp] theorem setAuto_held (t : Option Nat) : (setAuto t s).held = s.held := rfl
@[simp] theorem setAuto_cause (t : Option Nat) : (setAuto t s).cause = s.cause := rfl
@[simp] theorem setAuto_free (t : Option Nat) : (setAuto t s).free = s.free := rfl
@[simp] theorem setAuto_pending (t : Option Nat) : (setAuto t s).pending = s.pending := rfl

@[simp] theorem settleRequest_store (t : Option Nat) : (settleRequest t s).store = s.store := rfl
@[simp] theorem settleRequest_path (t : Option Nat) : (settleRequest t s).path = s.path := rfl
@[simp] theorem settleRequest_comb (t : Option Nat) : (settleRequest t s).comb = s.comb := rfl
@[simp] theorem settleRequest_sweep (t : Option Nat) : (settleRequest t s).sweep = { s.sweep with settle := longer s.sweep.settle t } := rfl
@[simp] theorem settleRequest_trig (t : Option Nat) : (settleRequest t s).trig = s.trig := rfl
@[simp] theorem settleRequest_meas (t : Option Nat) : (settleRequest t s).meas = s.meas := rfl
@[simp] theorem settleRequest_panel (t : Option Nat) : (settleRequest t s).panel = s.panel := rfl
@[simp] theorem settleRequest_rend (t : Option Nat) : (settleRequest t s).rend = s.rend := rfl
@[simp] theorem settleRequest_setup (t : Option Nat) : (settleRequest t s).setup = s.setup := rfl
@[simp] theorem settleRequest_link (t : Option Nat) : (settleRequest t s).link = s.link := rfl
@[simp] theorem settleRequest_notices (t : Option Nat) : (settleRequest t s).notices = s.notices := rfl
@[simp] theorem settleRequest_held (t : Option Nat) : (settleRequest t s).held = s.held := rfl
@[simp] theorem settleRequest_cause (t : Option Nat) : (settleRequest t s).cause = s.cause := rfl
@[simp] theorem settleRequest_free (t : Option Nat) : (settleRequest t s).free = s.free := rfl
@[simp] theorem settleRequest_pending (t : Option Nat) : (settleRequest t s).pending = s.pending := rfl

@[simp] theorem disarm_store : (disarm s).store = s.store := rfl
@[simp] theorem disarm_path : (disarm s).path = s.path := rfl
@[simp] theorem disarm_comb : (disarm s).comb = s.comb := rfl
@[simp] theorem disarm_sweep : (disarm s).sweep = s.sweep := rfl
@[simp] theorem disarm_trig : (disarm s).trig = { s.trig with armedRise := false, armedFall := false } := rfl
@[simp] theorem disarm_meas : (disarm s).meas = s.meas := rfl
@[simp] theorem disarm_panel : (disarm s).panel = s.panel := rfl
@[simp] theorem disarm_rend : (disarm s).rend = s.rend := rfl
@[simp] theorem disarm_setup : (disarm s).setup = s.setup := rfl
@[simp] theorem disarm_link : (disarm s).link = s.link := rfl
@[simp] theorem disarm_notices : (disarm s).notices = s.notices := rfl
@[simp] theorem disarm_held : (disarm s).held = s.held := rfl
@[simp] theorem disarm_cause : (disarm s).cause = s.cause := rfl
@[simp] theorem disarm_free : (disarm s).free = s.free := rfl
@[simp] theorem disarm_pending : (disarm s).pending = s.pending := rfl

@[simp] theorem oweRetry_store : (oweRetry s).store = s.store := rfl
@[simp] theorem oweRetry_path : (oweRetry s).path = s.path := rfl
@[simp] theorem oweRetry_comb : (oweRetry s).comb = s.comb := rfl
@[simp] theorem oweRetry_sweep : (oweRetry s).sweep = s.sweep := rfl
@[simp] theorem oweRetry_trig : (oweRetry s).trig = s.trig := rfl
@[simp] theorem oweRetry_meas : (oweRetry s).meas = s.meas := rfl
@[simp] theorem oweRetry_panel : (oweRetry s).panel = { s.panel with retryDue := true } := rfl
@[simp] theorem oweRetry_rend : (oweRetry s).rend = s.rend := rfl
@[simp] theorem oweRetry_setup : (oweRetry s).setup = s.setup := rfl
@[simp] theorem oweRetry_link : (oweRetry s).link = s.link := rfl
@[simp] theorem oweRetry_notices : (oweRetry s).notices = s.notices := rfl
@[simp] theorem oweRetry_held : (oweRetry s).held = s.held := rfl
@[simp] theorem oweRetry_cause : (oweRetry s).cause = s.cause := rfl
@[simp] theorem oweRetry_free : (oweRetry s).free = s.free := rfl
@[simp] theorem oweRetry_pending : (oweRetry s).pending = s.pending := rfl

@[simp] theorem modKey_store (k : Nat) (g : Key → Key) : (modKey k g s).store = s.store := rfl
@[simp] theorem modKey_path (k : Nat) (g : Key → Key) : (modKey k g s).path = s.path := rfl
@[simp] theorem modKey_comb (k : Nat) (g : Key → Key) : (modKey k g s).comb = s.comb := rfl
@[simp] theorem modKey_sweep (k : Nat) (g : Key → Key) : (modKey k g s).sweep = s.sweep := rfl
@[simp] theorem modKey_trig (k : Nat) (g : Key → Key) : (modKey k g s).trig = s.trig := rfl
@[simp] theorem modKey_meas (k : Nat) (g : Key → Key) : (modKey k g s).meas = s.meas := rfl
@[simp] theorem modKey_panel (k : Nat) (g : Key → Key) : (modKey k g s).panel = { s.panel with keys := s.panel.keys.modify k g } := rfl
@[simp] theorem modKey_rend (k : Nat) (g : Key → Key) : (modKey k g s).rend = s.rend := rfl
@[simp] theorem modKey_setup (k : Nat) (g : Key → Key) : (modKey k g s).setup = s.setup := rfl
@[simp] theorem modKey_link (k : Nat) (g : Key → Key) : (modKey k g s).link = s.link := rfl
@[simp] theorem modKey_notices (k : Nat) (g : Key → Key) : (modKey k g s).notices = s.notices := rfl
@[simp] theorem modKey_held (k : Nat) (g : Key → Key) : (modKey k g s).held = s.held := rfl
@[simp] theorem modKey_cause (k : Nat) (g : Key → Key) : (modKey k g s).cause = s.cause := rfl
@[simp] theorem modKey_free (k : Nat) (g : Key → Key) : (modKey k g s).free = s.free := rfl
@[simp] theorem modKey_pending (k : Nat) (g : Key → Key) : (modKey k g s).pending = s.pending := rfl

@[simp] theorem modEnc_store (i : Nat) (g : Enc → Enc) : (modEnc i g s).store = s.store := rfl
@[simp] theorem modEnc_path (i : Nat) (g : Enc → Enc) : (modEnc i g s).path = s.path := rfl
@[simp] theorem modEnc_comb (i : Nat) (g : Enc → Enc) : (modEnc i g s).comb = s.comb := rfl
@[simp] theorem modEnc_sweep (i : Nat) (g : Enc → Enc) : (modEnc i g s).sweep = s.sweep := rfl
@[simp] theorem modEnc_trig (i : Nat) (g : Enc → Enc) : (modEnc i g s).trig = s.trig := rfl
@[simp] theorem modEnc_meas (i : Nat) (g : Enc → Enc) : (modEnc i g s).meas = s.meas := rfl
@[simp] theorem modEnc_panel (i : Nat) (g : Enc → Enc) : (modEnc i g s).panel = { s.panel with encs := s.panel.encs.modify i g } := rfl
@[simp] theorem modEnc_rend (i : Nat) (g : Enc → Enc) : (modEnc i g s).rend = s.rend := rfl
@[simp] theorem modEnc_setup (i : Nat) (g : Enc → Enc) : (modEnc i g s).setup = s.setup := rfl
@[simp] theorem modEnc_link (i : Nat) (g : Enc → Enc) : (modEnc i g s).link = s.link := rfl
@[simp] theorem modEnc_notices (i : Nat) (g : Enc → Enc) : (modEnc i g s).notices = s.notices := rfl
@[simp] theorem modEnc_held (i : Nat) (g : Enc → Enc) : (modEnc i g s).held = s.held := rfl
@[simp] theorem modEnc_cause (i : Nat) (g : Enc → Enc) : (modEnc i g s).cause = s.cause := rfl
@[simp] theorem modEnc_free (i : Nat) (g : Enc → Enc) : (modEnc i g s).free = s.free := rfl
@[simp] theorem modEnc_pending (i : Nat) (g : Enc → Enc) : (modEnc i g s).pending = s.pending := rfl

@[simp] theorem modSetup_store (g : Setup → Setup) : (modSetup g s).store = s.store := rfl
@[simp] theorem modSetup_path (g : Setup → Setup) : (modSetup g s).path = s.path := rfl
@[simp] theorem modSetup_comb (g : Setup → Setup) : (modSetup g s).comb = s.comb := rfl
@[simp] theorem modSetup_sweep (g : Setup → Setup) : (modSetup g s).sweep = s.sweep := rfl
@[simp] theorem modSetup_trig (g : Setup → Setup) : (modSetup g s).trig = s.trig := rfl
@[simp] theorem modSetup_meas (g : Setup → Setup) : (modSetup g s).meas = s.meas := rfl
@[simp] theorem modSetup_panel (g : Setup → Setup) : (modSetup g s).panel = s.panel := rfl
@[simp] theorem modSetup_rend (g : Setup → Setup) : (modSetup g s).rend = s.rend := rfl
@[simp] theorem modSetup_setup (g : Setup → Setup) : (modSetup g s).setup = g s.setup := rfl
@[simp] theorem modSetup_link (g : Setup → Setup) : (modSetup g s).link = s.link := rfl
@[simp] theorem modSetup_notices (g : Setup → Setup) : (modSetup g s).notices = s.notices := rfl
@[simp] theorem modSetup_held (g : Setup → Setup) : (modSetup g s).held = s.held := rfl
@[simp] theorem modSetup_cause (g : Setup → Setup) : (modSetup g s).cause = s.cause := rfl
@[simp] theorem modSetup_free (g : Setup → Setup) : (modSetup g s).free = s.free := rfl
@[simp] theorem modSetup_pending (g : Setup → Setup) : (modSetup g s).pending = s.pending := rfl

@[simp] theorem setPhase_store (p : Phase) : (setPhase p s).store = s.store := rfl
@[simp] theorem setPhase_path (p : Phase) : (setPhase p s).path = s.path := rfl
@[simp] theorem setPhase_comb (p : Phase) : (setPhase p s).comb = s.comb := rfl
@[simp] theorem setPhase_sweep (p : Phase) : (setPhase p s).sweep = s.sweep := rfl
@[simp] theorem setPhase_trig (p : Phase) : (setPhase p s).trig = s.trig := rfl
@[simp] theorem setPhase_meas (p : Phase) : (setPhase p s).meas = s.meas := rfl
@[simp] theorem setPhase_panel (p : Phase) : (setPhase p s).panel = s.panel := rfl
@[simp] theorem setPhase_rend (p : Phase) : (setPhase p s).rend = s.rend := rfl
@[simp] theorem setPhase_setup (p : Phase) : (setPhase p s).setup = { s.setup with phase := p } := rfl
@[simp] theorem setPhase_link (p : Phase) : (setPhase p s).link = s.link := rfl
@[simp] theorem setPhase_notices (p : Phase) : (setPhase p s).notices = s.notices := rfl
@[simp] theorem setPhase_held (p : Phase) : (setPhase p s).held = s.held := rfl
@[simp] theorem setPhase_cause (p : Phase) : (setPhase p s).cause = s.cause := rfl
@[simp] theorem setPhase_free (p : Phase) : (setPhase p s).free = s.free := rfl
@[simp] theorem setPhase_pending (p : Phase) : (setPhase p s).pending = s.pending := rfl

@[simp] theorem setDir_store (slot : Nat) (e : DirEntry) : (setDir slot e s).store = s.store := rfl
@[simp] theorem setDir_path (slot : Nat) (e : DirEntry) : (setDir slot e s).path = s.path := rfl
@[simp] theorem setDir_comb (slot : Nat) (e : DirEntry) : (setDir slot e s).comb = s.comb := rfl
@[simp] theorem setDir_sweep (slot : Nat) (e : DirEntry) : (setDir slot e s).sweep = s.sweep := rfl
@[simp] theorem setDir_trig (slot : Nat) (e : DirEntry) : (setDir slot e s).trig = s.trig := rfl
@[simp] theorem setDir_meas (slot : Nat) (e : DirEntry) : (setDir slot e s).meas = s.meas := rfl
@[simp] theorem setDir_panel (slot : Nat) (e : DirEntry) : (setDir slot e s).panel = s.panel := rfl
@[simp] theorem setDir_rend (slot : Nat) (e : DirEntry) : (setDir slot e s).rend = s.rend := rfl
@[simp] theorem setDir_setup (slot : Nat) (e : DirEntry) : (setDir slot e s).setup = { s.setup with dir := s.setup.dir.set slot e } := rfl
@[simp] theorem setDir_link (slot : Nat) (e : DirEntry) : (setDir slot e s).link = s.link := rfl
@[simp] theorem setDir_notices (slot : Nat) (e : DirEntry) : (setDir slot e s).notices = s.notices := rfl
@[simp] theorem setDir_held (slot : Nat) (e : DirEntry) : (setDir slot e s).held = s.held := rfl
@[simp] theorem setDir_cause (slot : Nat) (e : DirEntry) : (setDir slot e s).cause = s.cause := rfl
@[simp] theorem setDir_free (slot : Nat) (e : DirEntry) : (setDir slot e s).free = s.free := rfl
@[simp] theorem setDir_pending (slot : Nat) (e : DirEntry) : (setDir slot e s).pending = s.pending := rfl

@[simp] theorem setDirState_store (slot : Nat) (st : DirState) : (setDirState slot st s).store = s.store := rfl
@[simp] theorem setDirState_path (slot : Nat) (st : DirState) : (setDirState slot st s).path = s.path := rfl
@[simp] theorem setDirState_comb (slot : Nat) (st : DirState) : (setDirState slot st s).comb = s.comb := rfl
@[simp] theorem setDirState_sweep (slot : Nat) (st : DirState) : (setDirState slot st s).sweep = s.sweep := rfl
@[simp] theorem setDirState_trig (slot : Nat) (st : DirState) : (setDirState slot st s).trig = s.trig := rfl
@[simp] theorem setDirState_meas (slot : Nat) (st : DirState) : (setDirState slot st s).meas = s.meas := rfl
@[simp] theorem setDirState_panel (slot : Nat) (st : DirState) : (setDirState slot st s).panel = s.panel := rfl
@[simp] theorem setDirState_rend (slot : Nat) (st : DirState) : (setDirState slot st s).rend = s.rend := rfl
@[simp] theorem setDirState_setup (slot : Nat) (st : DirState) : (setDirState slot st s).setup = { s.setup with dir := s.setup.dir.modify slot fun e => { e with state := st } } := rfl
@[simp] theorem setDirState_link (slot : Nat) (st : DirState) : (setDirState slot st s).link = s.link := rfl
@[simp] theorem setDirState_notices (slot : Nat) (st : DirState) : (setDirState slot st s).notices = s.notices := rfl
@[simp] theorem setDirState_held (slot : Nat) (st : DirState) : (setDirState slot st s).held = s.held := rfl
@[simp] theorem setDirState_cause (slot : Nat) (st : DirState) : (setDirState slot st s).cause = s.cause := rfl
@[simp] theorem setDirState_free (slot : Nat) (st : DirState) : (setDirState slot st s).free = s.free := rfl
@[simp] theorem setDirState_pending (slot : Nat) (st : DirState) : (setDirState slot st s).pending = s.pending := rfl

/-- All that finding PROGRAMMING before its first attempt's end can do: the directory entry may turn BAD, and one free value is
drawn (R163, R166, log 10). -/
theorem firstStepMayBegin_eq :
    firstStepMayBegin s =
      if s.setup.phase = .program ∧ programBegun s.setup = false then
        { s with
          free := s.free + 1
          setup := { s.setup with
            dir := if Config.firstStepBegun s.free = true then
                s.setup.dir.modify s.setup.slot (fun e => { e with state := .bad })
              else s.setup.dir } }
      else s := by
  unfold firstStepMayBegin
  split
  · cases Config.firstStepBegun s.free <;> rfl
  · rfl

theorem firstStepMayBegin_of_not (h : ¬ (s.setup.phase = .program ∧ programBegun s.setup = false)) :
    firstStepMayBegin s = s := if_neg h

@[simp] theorem firstStepMayBegin_store : (firstStepMayBegin s).store = s.store := by rw [firstStepMayBegin_eq]; split <;> rfl
@[simp] theorem firstStepMayBegin_path : (firstStepMayBegin s).path = s.path := by rw [firstStepMayBegin_eq]; split <;> rfl
@[simp] theorem firstStepMayBegin_comb : (firstStepMayBegin s).comb = s.comb := by rw [firstStepMayBegin_eq]; split <;> rfl
@[simp] theorem firstStepMayBegin_sweep : (firstStepMayBegin s).sweep = s.sweep := by rw [firstStepMayBegin_eq]; split <;> rfl
@[simp] theorem firstStepMayBegin_trig : (firstStepMayBegin s).trig = s.trig := by rw [firstStepMayBegin_eq]; split <;> rfl
@[simp] theorem firstStepMayBegin_meas : (firstStepMayBegin s).meas = s.meas := by rw [firstStepMayBegin_eq]; split <;> rfl
@[simp] theorem firstStepMayBegin_panel : (firstStepMayBegin s).panel = s.panel := by rw [firstStepMayBegin_eq]; split <;> rfl
@[simp] theorem firstStepMayBegin_rend : (firstStepMayBegin s).rend = s.rend := by rw [firstStepMayBegin_eq]; split <;> rfl
@[simp] theorem firstStepMayBegin_link : (firstStepMayBegin s).link = s.link := by rw [firstStepMayBegin_eq]; split <;> rfl
@[simp] theorem firstStepMayBegin_notices : (firstStepMayBegin s).notices = s.notices := by rw [firstStepMayBegin_eq]; split <;> rfl
@[simp] theorem firstStepMayBegin_held : (firstStepMayBegin s).held = s.held := by rw [firstStepMayBegin_eq]; split <;> rfl
@[simp] theorem firstStepMayBegin_cause : (firstStepMayBegin s).cause = s.cause := by rw [firstStepMayBegin_eq]; split <;> rfl
@[simp] theorem firstStepMayBegin_pending : (firstStepMayBegin s).pending = s.pending := by rw [firstStepMayBegin_eq]; split <;> rfl
theorem firstStepMayBegin_setup : (firstStepMayBegin s).setup = { s.setup with dir := (firstStepMayBegin s).setup.dir } := by
  rw [firstStepMayBegin_eq]; split <;> rfl
@[simp] theorem firstStepMayBegin_dir_length : (firstStepMayBegin s).setup.dir.length = s.setup.dir.length := by
  rw [firstStepMayBegin_eq]; split
  · dsimp only; split <;> simp
  · rfl

@[simp] theorem setFlash_store (m : Memory) : (setFlash m s).store = s.store := rfl
@[simp] theorem setFlash_path (m : Memory) : (setFlash m s).path = s.path := rfl
@[simp] theorem setFlash_comb (m : Memory) : (setFlash m s).comb = s.comb := rfl
@[simp] theorem setFlash_sweep (m : Memory) : (setFlash m s).sweep = s.sweep := rfl
@[simp] theorem setFlash_trig (m : Memory) : (setFlash m s).trig = s.trig := rfl
@[simp] theorem setFlash_meas (m : Memory) : (setFlash m s).meas = s.meas := rfl
@[simp] theorem setFlash_panel (m : Memory) : (setFlash m s).panel = s.panel := rfl
@[simp] theorem setFlash_rend (m : Memory) : (setFlash m s).rend = s.rend := rfl
@[simp] theorem setFlash_setup (m : Memory) : (setFlash m s).setup = { s.setup with flash := m } := rfl
@[simp] theorem setFlash_link (m : Memory) : (setFlash m s).link = s.link := rfl
@[simp] theorem setFlash_notices (m : Memory) : (setFlash m s).notices = s.notices := rfl
@[simp] theorem setFlash_held (m : Memory) : (setFlash m s).held = s.held := rfl
@[simp] theorem setFlash_cause (m : Memory) : (setFlash m s).cause = s.cause := rfl
@[simp] theorem setFlash_free (m : Memory) : (setFlash m s).free = s.free := rfl
@[simp] theorem setFlash_pending (m : Memory) : (setFlash m s).pending = s.pending := rfl

@[simp] theorem modCounts_store (g : Counts → Counts) : (modCounts g s).store = s.store := rfl
@[simp] theorem modCounts_path (g : Counts → Counts) : (modCounts g s).path = s.path := rfl
@[simp] theorem modCounts_comb (g : Counts → Counts) : (modCounts g s).comb = s.comb := rfl
@[simp] theorem modCounts_sweep (g : Counts → Counts) : (modCounts g s).sweep = s.sweep := rfl
@[simp] theorem modCounts_trig (g : Counts → Counts) : (modCounts g s).trig = s.trig := rfl
@[simp] theorem modCounts_meas (g : Counts → Counts) : (modCounts g s).meas = s.meas := rfl
@[simp] theorem modCounts_panel (g : Counts → Counts) : (modCounts g s).panel = s.panel := rfl
@[simp] theorem modCounts_rend (g : Counts → Counts) : (modCounts g s).rend = s.rend := rfl
@[simp] theorem modCounts_setup (g : Counts → Counts) : (modCounts g s).setup = { s.setup with counts := g s.setup.counts } := rfl
@[simp] theorem modCounts_link (g : Counts → Counts) : (modCounts g s).link = s.link := rfl
@[simp] theorem modCounts_notices (g : Counts → Counts) : (modCounts g s).notices = s.notices := rfl
@[simp] theorem modCounts_held (g : Counts → Counts) : (modCounts g s).held = s.held := rfl
@[simp] theorem modCounts_cause (g : Counts → Counts) : (modCounts g s).cause = s.cause := rfl
@[simp] theorem modCounts_free (g : Counts → Counts) : (modCounts g s).free = s.free := rfl
@[simp] theorem modCounts_pending (g : Counts → Counts) : (modCounts g s).pending = s.pending := rfl

@[simp] theorem setParser_store (p : Parser) : (setParser p s).store = s.store := rfl
@[simp] theorem setParser_path (p : Parser) : (setParser p s).path = s.path := rfl
@[simp] theorem setParser_comb (p : Parser) : (setParser p s).comb = s.comb := rfl
@[simp] theorem setParser_sweep (p : Parser) : (setParser p s).sweep = s.sweep := rfl
@[simp] theorem setParser_trig (p : Parser) : (setParser p s).trig = s.trig := rfl
@[simp] theorem setParser_meas (p : Parser) : (setParser p s).meas = s.meas := rfl
@[simp] theorem setParser_panel (p : Parser) : (setParser p s).panel = s.panel := rfl
@[simp] theorem setParser_rend (p : Parser) : (setParser p s).rend = s.rend := rfl
@[simp] theorem setParser_setup (p : Parser) : (setParser p s).setup = s.setup := rfl
@[simp] theorem setParser_link (p : Parser) : (setParser p s).link = { s.link with parser := p } := rfl
@[simp] theorem setParser_notices (p : Parser) : (setParser p s).notices = s.notices := rfl
@[simp] theorem setParser_held (p : Parser) : (setParser p s).held = s.held := rfl
@[simp] theorem setParser_cause (p : Parser) : (setParser p s).cause = s.cause := rfl
@[simp] theorem setParser_free (p : Parser) : (setParser p s).free = s.free := rfl
@[simp] theorem setParser_pending (p : Parser) : (setParser p s).pending = s.pending := rfl

@[simp] theorem setCsLow_store (b : Bool) : (setCsLow b s).store = s.store := rfl
@[simp] theorem setCsLow_path (b : Bool) : (setCsLow b s).path = s.path := rfl
@[simp] theorem setCsLow_comb (b : Bool) : (setCsLow b s).comb = s.comb := rfl
@[simp] theorem setCsLow_sweep (b : Bool) : (setCsLow b s).sweep = s.sweep := rfl
@[simp] theorem setCsLow_trig (b : Bool) : (setCsLow b s).trig = s.trig := rfl
@[simp] theorem setCsLow_meas (b : Bool) : (setCsLow b s).meas = s.meas := rfl
@[simp] theorem setCsLow_panel (b : Bool) : (setCsLow b s).panel = s.panel := rfl
@[simp] theorem setCsLow_rend (b : Bool) : (setCsLow b s).rend = s.rend := rfl
@[simp] theorem setCsLow_setup (b : Bool) : (setCsLow b s).setup = s.setup := rfl
@[simp] theorem setCsLow_link (b : Bool) : (setCsLow b s).link = { s.link with csLow := b } := rfl
@[simp] theorem setCsLow_notices (b : Bool) : (setCsLow b s).notices = s.notices := rfl
@[simp] theorem setCsLow_held (b : Bool) : (setCsLow b s).held = s.held := rfl
@[simp] theorem setCsLow_cause (b : Bool) : (setCsLow b s).cause = s.cause := rfl
@[simp] theorem setCsLow_free (b : Bool) : (setCsLow b s).free = s.free := rfl
@[simp] theorem setCsLow_pending (b : Bool) : (setCsLow b s).pending = s.pending := rfl

@[simp] theorem setTie_store (t : Tie) : (setTie t s).store = s.store := rfl
@[simp] theorem setTie_path (t : Tie) : (setTie t s).path = s.path := rfl
@[simp] theorem setTie_comb (t : Tie) : (setTie t s).comb = s.comb := rfl
@[simp] theorem setTie_sweep (t : Tie) : (setTie t s).sweep = s.sweep := rfl
@[simp] theorem setTie_trig (t : Tie) : (setTie t s).trig = s.trig := rfl
@[simp] theorem setTie_meas (t : Tie) : (setTie t s).meas = s.meas := rfl
@[simp] theorem setTie_panel (t : Tie) : (setTie t s).panel = s.panel := rfl
@[simp] theorem setTie_rend (t : Tie) : (setTie t s).rend = s.rend := rfl
@[simp] theorem setTie_setup (t : Tie) : (setTie t s).setup = s.setup := rfl
@[simp] theorem setTie_link (t : Tie) : (setTie t s).link = { s.link with tie := t } := rfl
@[simp] theorem setTie_notices (t : Tie) : (setTie t s).notices = s.notices := rfl
@[simp] theorem setTie_held (t : Tie) : (setTie t s).held = s.held := rfl
@[simp] theorem setTie_cause (t : Tie) : (setTie t s).cause = s.cause := rfl
@[simp] theorem setTie_free (t : Tie) : (setTie t s).free = s.free := rfl
@[simp] theorem setTie_pending (t : Tie) : (setTie t s).pending = s.pending := rfl

@[simp] theorem raise_store (n : Source) : (raise n s).store = s.store := rfl
@[simp] theorem raise_path (n : Source) : (raise n s).path = s.path := rfl
@[simp] theorem raise_comb (n : Source) : (raise n s).comb = s.comb := rfl
@[simp] theorem raise_sweep (n : Source) : (raise n s).sweep = s.sweep := rfl
@[simp] theorem raise_trig (n : Source) : (raise n s).trig = s.trig := rfl
@[simp] theorem raise_meas (n : Source) : (raise n s).meas = s.meas := rfl
@[simp] theorem raise_panel (n : Source) : (raise n s).panel = s.panel := rfl
@[simp] theorem raise_rend (n : Source) : (raise n s).rend = s.rend := rfl
@[simp] theorem raise_setup (n : Source) : (raise n s).setup = s.setup := rfl
@[simp] theorem raise_link (n : Source) : (raise n s).link = s.link := rfl
@[simp] theorem raise_notices (n : Source) : (raise n s).notices = { s.notices with flags := s.notices.flags ||| BitVec.ofNat 19 (2 ^ sourceNo n) } := rfl
@[simp] theorem raise_held (n : Source) : (raise n s).held = s.held := rfl
@[simp] theorem raise_cause (n : Source) : (raise n s).cause = s.cause := rfl
@[simp] theorem raise_free (n : Source) : (raise n s).free = s.free := rfl
@[simp] theorem raise_pending (n : Source) : (raise n s).pending = s.pending := rfl

@[simp] theorem clearFlag_store (n : Source) : (clearFlag n s).store = s.store := rfl
@[simp] theorem clearFlag_path (n : Source) : (clearFlag n s).path = s.path := rfl
@[simp] theorem clearFlag_comb (n : Source) : (clearFlag n s).comb = s.comb := rfl
@[simp] theorem clearFlag_sweep (n : Source) : (clearFlag n s).sweep = s.sweep := rfl
@[simp] theorem clearFlag_trig (n : Source) : (clearFlag n s).trig = s.trig := rfl
@[simp] theorem clearFlag_meas (n : Source) : (clearFlag n s).meas = s.meas := rfl
@[simp] theorem clearFlag_panel (n : Source) : (clearFlag n s).panel = s.panel := rfl
@[simp] theorem clearFlag_rend (n : Source) : (clearFlag n s).rend = s.rend := rfl
@[simp] theorem clearFlag_setup (n : Source) : (clearFlag n s).setup = s.setup := rfl
@[simp] theorem clearFlag_link (n : Source) : (clearFlag n s).link = s.link := rfl
@[simp] theorem clearFlag_notices (n : Source) : (clearFlag n s).notices = { s.notices with flags := s.notices.flags &&& ~~~ BitVec.ofNat 19 (2 ^ sourceNo n) } := rfl
@[simp] theorem clearFlag_held (n : Source) : (clearFlag n s).held = s.held := rfl
@[simp] theorem clearFlag_cause (n : Source) : (clearFlag n s).cause = s.cause := rfl
@[simp] theorem clearFlag_free (n : Source) : (clearFlag n s).free = s.free := rfl
@[simp] theorem clearFlag_pending (n : Source) : (clearFlag n s).pending = s.pending := rfl

@[simp] theorem setFail_store (i : Nat) : (setFail i s).store = s.store := rfl
@[simp] theorem setFail_path (i : Nat) : (setFail i s).path = s.path := rfl
@[simp] theorem setFail_comb (i : Nat) : (setFail i s).comb = s.comb := rfl
@[simp] theorem setFail_sweep (i : Nat) : (setFail i s).sweep = s.sweep := rfl
@[simp] theorem setFail_trig (i : Nat) : (setFail i s).trig = s.trig := rfl
@[simp] theorem setFail_meas (i : Nat) : (setFail i s).meas = s.meas := rfl
@[simp] theorem setFail_panel (i : Nat) : (setFail i s).panel = s.panel := rfl
@[simp] theorem setFail_rend (i : Nat) : (setFail i s).rend = s.rend := rfl
@[simp] theorem setFail_setup (i : Nat) : (setFail i s).setup = s.setup := rfl
@[simp] theorem setFail_link (i : Nat) : (setFail i s).link = s.link := rfl
@[simp] theorem setFail_notices (i : Nat) : (setFail i s).notices = { s.notices with fails := s.notices.fails ||| BitVec.ofNat 8 (2 ^ i) } := rfl
@[simp] theorem setFail_held (i : Nat) : (setFail i s).held = s.held := rfl
@[simp] theorem setFail_cause (i : Nat) : (setFail i s).cause = s.cause := rfl
@[simp] theorem setFail_free (i : Nat) : (setFail i s).free = s.free := rfl
@[simp] theorem setFail_pending (i : Nat) : (setFail i s).pending = s.pending := rfl

@[simp] theorem clearFail_store (i : Nat) : (clearFail i s).store = s.store := rfl
@[simp] theorem clearFail_path (i : Nat) : (clearFail i s).path = s.path := rfl
@[simp] theorem clearFail_comb (i : Nat) : (clearFail i s).comb = s.comb := rfl
@[simp] theorem clearFail_sweep (i : Nat) : (clearFail i s).sweep = s.sweep := rfl
@[simp] theorem clearFail_trig (i : Nat) : (clearFail i s).trig = s.trig := rfl
@[simp] theorem clearFail_meas (i : Nat) : (clearFail i s).meas = s.meas := rfl
@[simp] theorem clearFail_panel (i : Nat) : (clearFail i s).panel = s.panel := rfl
@[simp] theorem clearFail_rend (i : Nat) : (clearFail i s).rend = s.rend := rfl
@[simp] theorem clearFail_setup (i : Nat) : (clearFail i s).setup = s.setup := rfl
@[simp] theorem clearFail_link (i : Nat) : (clearFail i s).link = s.link := rfl
@[simp] theorem clearFail_notices (i : Nat) : (clearFail i s).notices = { s.notices with fails := s.notices.fails &&& ~~~ BitVec.ofNat 8 (2 ^ i) } := rfl
@[simp] theorem clearFail_held (i : Nat) : (clearFail i s).held = s.held := rfl
@[simp] theorem clearFail_cause (i : Nat) : (clearFail i s).cause = s.cause := rfl
@[simp] theorem clearFail_free (i : Nat) : (clearFail i s).free = s.free := rfl
@[simp] theorem clearFail_pending (i : Nat) : (clearFail i s).pending = s.pending := rfl

/-- A condition over a raise: only the notices may move. -/
@[simp] theorem raiseIf_true (n : Source) : raiseIf true n s = raise n s := rfl
@[simp] theorem raiseIf_false (n : Source) : raiseIf false n s = s := rfl
@[simp] theorem foldIf_true (g : State → State) : foldIf true g s = g s := rfl
@[simp] theorem foldIf_false (g : State → State) : foldIf false g s = s := rfl

end Sys2Proof.Machine
end

