-- ==== Sys2Proof/Laws/Shell.lean ====
section
/-! SUPPORT. What no activity of the record store, the combiner, the sweep controller or the measurement unit touches: the
setup unit, the renderer, the link, the panel's controls but for the carries, lane lock, the reset state and the
model's own fields. One lemma per shared operation. -/

namespace Sys2Proof.Machine

/-- An encoder but for its carry. -/
structure EncCore where
  last    : Option (Bool × Bool)
  phase   : Int
  since   : Option Nat
  pending : Int
  deriving DecidableEq, Repr

def Enc.core (e : Enc) : EncCore := { last := e.last, phase := e.phase, since := e.since, pending := e.pending }

/-- The part of the state that changes never reach. -/
structure Shell where
  setup     : Setup
  rend      : Rend
  link      : Link
  held      : Bool
  cause     : Cause
  free      : Nat
  waiting   : List Instr
  lockCount : List Nat
  latched   : Option (BitVec 48)
  keys      : List Key
  mask      : Byte
  blinkOn   : Bool
  lamps     : List Bool
  encs      : List EncCore
  deriving DecidableEq, Repr

def State.shell (s : State) : Shell :=
  { setup := s.setup, rend := s.rend, link := s.link, held := s.held, cause := s.cause, free := s.free,
    waiting := s.pending, lockCount := s.path.lockCount, latched := s.path.latched, keys := s.panel.keys,
    mask := s.panel.mask, blinkOn := s.panel.blinkOn, lamps := s.panel.lamps, encs := s.panel.encs.map Enc.core }

variable {s t : State}

/-! ## Reading the shell -/

theorem shell_setup (h : t.shell = s.shell) : t.setup = s.setup := congrArg Shell.setup h
theorem shell_rend (h : t.shell = s.shell) : t.rend = s.rend := congrArg Shell.rend h
theorem shell_link (h : t.shell = s.shell) : t.link = s.link := congrArg Shell.link h
theorem shell_held (h : t.shell = s.shell) : t.held = s.held := congrArg Shell.held h
theorem shell_cause (h : t.shell = s.shell) : t.cause = s.cause := congrArg Shell.cause h
theorem shell_free (h : t.shell = s.shell) : t.free = s.free := congrArg Shell.free h
theorem shell_pending (h : t.shell = s.shell) : t.pending = s.pending := congrArg Shell.waiting h
theorem shell_keys (h : t.shell = s.shell) : t.panel.keys = s.panel.keys := congrArg Shell.keys h
theorem shell_mask (h : t.shell = s.shell) : t.panel.mask = s.panel.mask := congrArg Shell.mask h
theorem shell_lamps (h : t.shell = s.shell) : t.panel.lamps = s.panel.lamps := congrArg Shell.lamps h

/-! ## Folds and conditions -/

@[simp] theorem shell_foldl {α : Type} (g : State → α → State) (h : ∀ s x, (g s x).shell = s.shell) (l : List α) (s : State) :
    (l.foldl g s).shell = s.shell := by
  induction l generalizing s with
  | nil => rfl
  | cons x l ih => exact (ih (g s x)).trans (h s x)

@[simp] theorem shell_forChannels (g : Nat → State → State) (h : ∀ c s, (g c s).shell = s.shell) (s : State) :
    (forChannels g s).shell = s.shell := shell_foldl _ (fun s c => h c s) _ s

@[simp] theorem shell_foldIf (b : Bool) (g : State → State) (s : State) :
    (foldIf b g s).shell = if b = true then (g s).shell else s.shell := by cases b <;> rfl

theorem shell_ite (p : Prop) [Decidable p] (h1 : t.shell = s.shell) {u : State} (h2 : u.shell = s.shell) :
    (if p then t else u).shell = s.shell := by split <;> assumption

theorem shell_withMeas (m : Meas) : ({ s with meas := m } : State).shell = s.shell := rfl
theorem shell_withStore (x : Store) : ({ s with store := x } : State).shell = s.shell := rfl
theorem shell_withSweep (w : Sweep) : ({ s with sweep := w } : State).shell = s.shell := rfl
theorem shell_withTrig (w : Trig) : ({ s with trig := w } : State).shell = s.shell := rfl
theorem shell_withComb (w : Comb) : ({ s with comb := w } : State).shell = s.shell := rfl

/-! ## Updates -/

@[simp] theorem shell_modRec (k : Kind) (i : Nat) (g : Rec → Rec) : (modRec k i g s).shell = s.shell := rfl
@[simp] theorem shell_setVal (f : FieldId) (v : Int) : (setVal f v s).shell = s.shell := rfl
@[simp] theorem shell_setText (i : Nat) (x : List Byte) : (setText i x s).shell = s.shell := rfl
@[simp] theorem shell_setGroup (g : Nat) (x : Group) : (setGroup g x s).shell = s.shell := rfl
@[simp] theorem shell_setQueue (q : List Change) : (setQueue q s).shell = s.shell := rfl
@[simp] theorem shell_fePut (c : Nat) (f : FeSettings) : (fePut c f s).shell = s.shell := rfl
@[simp] theorem shell_modBanks (c : Nat) (g : List Bank → List Bank) : (modBanks c g s).shell = s.shell := rfl
@[simp] theorem shell_setAcq (a : Acq) : (setAcq a s).shell = s.shell := rfl
@[simp] theorem shell_setAuto (x : Option Nat) : (setAuto x s).shell = s.shell := rfl
@[simp] theorem shell_settleRequest (x : Option Nat) : (settleRequest x s).shell = s.shell := rfl
@[simp] theorem shell_disarm : (disarm s).shell = s.shell := rfl
@[simp] theorem shell_oweRetry : (oweRetry s).shell = s.shell := rfl
@[simp] theorem shell_raise (n : Source) : (raise n s).shell = s.shell := rfl
@[simp] theorem shell_clearFlag (n : Source) : (clearFlag n s).shell = s.shell := rfl
@[simp] theorem shell_setFail (i : Nat) : (setFail i s).shell = s.shell := rfl
@[simp] theorem shell_clearFail (i : Nat) : (clearFail i s).shell = s.shell := rfl

@[simp] theorem shell_raiseIf (b : Bool) (n : Source) : (raiseIf b n s).shell = s.shell := by cases b <;> rfl

@[simp] theorem shell_emptyOrigin (o : Origin) : (emptyOrigin o s).shell = s.shell := by cases o <;> rfl

theorem map_modify_core (l : List Enc) (i : Nat) (v : Int) :
    (l.modify i fun e => { e with carry := v }).map Enc.core = l.map Enc.core := by
  apply List.ext_getElem?
  intro n
  simp only [List.getElem?_map, List.getElem?_modify]
  cases l[n]? with
  | none => rfl
  | some e => by_cases h : i = n <;> simp [h, Enc.core]

@[simp] theorem shell_setCarry (c : Nat) (v : Int) : (setCarry c v s).shell = s.shell := by
  unfold setCarry
  split
  · simp only [State.shell, modEnc_setup, modEnc_rend, modEnc_link, modEnc_held, modEnc_cause, modEnc_free,
      modEnc_pending, modEnc_path, modEnc_panel, map_modify_core]
  · rfl

/-! ## The combiner -/

@[simp] theorem shell_clearShown (c : Nat) : (clearShown c s).shell = s.shell := rfl
@[simp] theorem shell_releaseLend (w : Lender) (c : Nat) : (releaseLend w c s).shell = s.shell := rfl
@[simp] theorem shell_requestLend (w : Lender) (c : Nat) : (requestLend w c s).shell = s.shell := rfl
@[simp] theorem shell_combStart : (combStart s).shell = s.shell := rfl
@[simp] theorem shell_combAbandon : (combAbandon s).shell = s.shell := rfl
@[simp] theorem shell_combTrigger (k : TrigKind) : (combTrigger k s).shell = s.shell := rfl
@[simp] theorem shell_combComplete : (combComplete s).shell = s.shell := rfl

@[simp] theorem shell_showChannel (a b c : Nat) : (showChannel a b c s).shell = s.shell := by
  unfold showChannel; split <;> rfl

@[simp] theorem shell_combSweepEnd : (combSweepEnd s).shell = s.shell := by
  unfold combSweepEnd
  dsimp only
  split <;> simp

/-! ## Consequences -/

@[simp] theorem shell_feStart : (feStart s).shell = s.shell := by
  unfold feStart
  split
  · rfl
  · split
    · rfl
    · split <;> rfl

@[simp] theorem shell_feUpdate (c : Nat) : (feUpdate c s).shell = s.shell := by
  unfold feUpdate; dsimp only; split <;> rfl

@[simp] theorem shell_levelRecompute : (levelRecompute s).shell = s.shell := by
  unfold levelRecompute; simp

@[simp] theorem shell_trackingOff : (trackingOff s).shell = s.shell := rfl

@[simp] theorem shell_autoLevelAfter (b : State) (e : Bool) : (autoLevelAfter b e s).shell = s.shell := by
  unfold autoLevelAfter
  dsimp only
  split
  · simp
  · split
    · rfl
    · split <;> rfl

@[simp] theorem shell_disarmIfChanged (b : State) : (disarmIfChanged b s).shell = s.shell := by
  unfold disarmIfChanged; split <;> rfl

@[simp] theorem shell_clearStats (i : Nat) : (clearStats i s).shell = s.shell := by
  unfold clearStats
  dsimp only
  rw [shell_withMeas]
  simp

@[simp] theorem shell_clearAllStats : (clearAllStats s).shell = s.shell := by
  unfold clearAllStats
  dsimp only
  rw [shell_withMeas]
  simp

@[simp] theorem shell_definitionChange (i : Nat) : (definitionChange i s).shell = s.shell := by
  unfold definitionChange
  dsimp only
  rw [shell_withMeas]
  simp

@[simp] theorem shell_sweepModeWritten (b : State) : (sweepModeWritten b s).shell = s.shell := by
  unfold sweepModeWritten
  split
  · split
    · rfl
    · split <;> rfl
  · rfl

@[simp] theorem shell_rescale (w : List FieldId) (c : Nat) : (rescale w c s).shell = s.shell := by
  unfold rescale
  simp

@[simp] theorem shell_consequences (b : State) (w : List FieldId) (es : List Entry) (g : List Nat) :
    (consequences b w es g s).shell = s.shell := by
  unfold consequences
  simp

/-! ## Records made and retired -/

@[simp] theorem shell_createRec (k : Kind) (i : Nat) : (createRec k i s).shell = s.shell := by
  unfold createRec; dsimp only; split <;> rfl

@[simp] theorem shell_freeRec (k : Kind) (i : Nat) : (freeRec k i s).shell = s.shell := rfl

@[simp] theorem shell_removeEntries (k : Kind) (i : Nat) : (removeEntries k i s).shell = s.shell := by
  unfold removeEntries
  dsimp only
  simp [shell_withStore]

@[simp] theorem shell_voidBinds (h : Int) (o : Nat) : (voidBinds h o s).shell = s.shell := by
  unfold voidBinds
  simp

@[simp] theorem shell_dropBinding (k : Kind) (i b : Nat) : (dropBinding k i b s).shell = s.shell := by
  unfold dropBinding; split <;> simp

@[simp] theorem shell_dropLamp (k : Kind) (i l : Nat) : (dropLamp k i l s).shell = s.shell := by
  unfold dropLamp
  split <;> simp

@[simp] theorem shell_dropGate (h : Int) (m : Nat) : (dropGate h m s).shell = s.shell := by
  unfold dropGate
  dsimp only
  split <;> simp

@[simp] theorem shell_dropMeasurement (i : Nat) : (dropMeasurement i s).shell = s.shell := rfl

@[simp] theorem shell_retireRec (k : Kind) (i : Nat) : (retireRec k i s).shell = s.shell := by
  unfold retireRec
  dsimp only
  split <;> split <;> simp

/-! ## Changes applied -/

@[simp] theorem shell_dropEntry : (dropEntry s).shell = s.shell := rfl

theorem shell_applyEntry (r : Bool) (acc : State × List FieldId) (e : Entry) :
    (applyEntry r acc e).1.shell = acc.1.shell := by
  unfold applyEntry
  split
  · rfl
  · split <;> rfl

theorem shell_applyEntries (r : Bool) (es : List Entry) (acc : State × List FieldId) :
    (es.foldl (applyEntry r) acc).1.shell = acc.1.shell := by
  induction es generalizing acc with
  | nil => rfl
  | cons e es ih => exact (ih _).trans (shell_applyEntry r acc e)

@[simp] theorem shell_reclampOffset (c : Nat) : (reclampOffset c s).shell = s.shell := rfl
@[simp] theorem shell_reclampPosition (i : Nat) : (reclampPosition i s).shell = s.shell := rfl
@[simp] theorem shell_reclampWide : (reclampWide s).shell = s.shell := rfl

@[simp] theorem shell_reclampMeasurement (i : Nat) : (reclampMeasurement i s).shell = s.shell := by
  unfold reclampMeasurement; dsimp only; split <;> rfl

@[simp] theorem shell_readoutAgree (o : Nat) : (readoutAgree o s).shell = s.shell := by
  unfold readoutAgree
  dsimp only
  split <;> simp

@[simp] theorem shell_reclamps (es : List Entry) (w : List FieldId) : (reclamps es w s).shell = s.shell := by
  unfold reclamps
  simp

@[simp] theorem shell_recallRecords (es : List Entry) : (recallRecords es s).shell = s.shell := by
  unfold recallRecords
  simp

@[simp] theorem shell_applyChange (c : Change) : (applyChange c s).shell = s.shell := by
  unfold applyChange
  dsimp only
  rw [shell_oweRetry, shell_emptyOrigin, shell_consequences, shell_reclamps, shell_applyEntries]
  dsimp only
  split
  · exact shell_recallRecords _
  · rfl

@[simp] theorem shell_drain (n : Nat) : (drain n s).shell = s.shell := by
  induction n generalizing s with
  | zero => rfl
  | succ n ih =>
    unfold drain
    split
    · rfl
    · rw [ih, shell_applyChange, shell_setQueue]

@[simp] theorem shell_examine : (examine s).shell = s.shell := shell_drain _
@[simp] theorem shell_releaseAll : (releaseAll s).shell = s.shell := rfl

/-! ## The sweep controller -/

@[simp] theorem shell_triggerEvent (k : TrigKind) : (triggerEvent k s).shell = s.shell := rfl

@[simp] theorem shell_enterWaiting : (enterWaiting s).shell = s.shell := by
  unfold enterWaiting; split <;> rfl

@[simp] theorem shell_captureStart : (captureStart s).shell = s.shell := by
  unfold captureStart
  dsimp only
  split
  · rw [shell_enterWaiting]; rfl
  · rfl

@[simp] theorem shell_abandon : (abandon s).shell = s.shell := by
  unfold abandon; split <;> rfl

@[simp] theorem shell_abandonAndFlush : (abandonAndFlush s).shell = s.shell := by
  unfold abandonAndFlush
  split
  · rw [shell_examine, shell_releaseAll, shell_abandon]
  · rfl

@[simp] theorem shell_settleOrArm : (settleOrArm s).shell = s.shell := by
  unfold settleOrArm
  split
  · rfl
  · exact shell_captureStart

@[simp] theorem shell_restartAbandon : (restartAbandon s).shell = s.shell :=
  (rfl : (restartAbandon s).shell = (abandon s).shell).trans shell_abandon

@[simp] theorem shell_restartNext (a : Acq) : (restartNext a s).shell = s.shell := by
  unfold restartNext; split <;> simp

@[simp] theorem shell_restartEvent : (restartEvent s).shell = s.shell := by
  unfold restartEvent; simp

@[simp] theorem shell_joinQueue (o : Origin) (es : List Entry) : (joinQueue o es s).shell = s.shell := by
  unfold joinQueue; dsimp only; split <;> simp

@[simp] theorem shell_takeRun : (takeRun s).shell = s.shell := by
  unfold takeRun; split <;> simp

@[simp] theorem shell_takeStop : (takeStop s).shell = s.shell := by
  unfold takeStop
  dsimp only
  rw [shell_disarm, shell_withSweep]
  split
  · simp
  · rfl

@[simp] theorem shell_takeSingle : (takeSingle s).shell = s.shell := by
  unfold takeSingle
  dsimp only
  split
  · rw [shell_takeRun, shell_withSweep]
  · rw [shell_settleOrArm, shell_withSweep, shell_abandonAndFlush]
  · rw [shell_settleOrArm, shell_withSweep, shell_abandonAndFlush]
  · rw [shell_settleOrArm, shell_withSweep, shell_abandonAndFlush]
  · rfl
  · rfl

theorem shell_takeForce (h : takeForce s = some t) : t.shell = s.shell := by
  unfold takeForce at h
  split at h
  · cases h; rfl
  · cases h; rfl
  · cases h

@[simp] theorem shell_takeRunStop : (takeRunStop s).shell = s.shell := by
  unfold takeRunStop; split <;> simp

@[simp] theorem shell_trackStep (h : Header) : (trackStep h s).shell = s.shell := by
  unfold trackStep
  dsimp only
  repeat' split
  all_goals simp

@[simp] theorem shell_track : (track s).shell = s.shell := by
  unfold track
  split
  · dsimp only
    split
    · rfl
    · split
      · rw [shell_trackStep]; rfl
      · rfl
  · rfl

@[simp] theorem shell_passStart : (passStart s).shell = s.shell := by
  unfold passStart
  dsimp only
  rw [shell_withMeas]
  exact shell_foldl _ (fun s c => shell_requestLend _ c) _ s

@[simp] theorem shell_measSweepEnd : (measSweepEnd s).shell = s.shell := by
  unfold measSweepEnd
  split
  · rfl
  · split
    · rfl
    · exact shell_passStart

@[simp] theorem shell_sweepCounts : (sweepCounts s).shell = s.shell := rfl

@[simp] theorem shell_sweepNext : (sweepNext s).shell = s.shell := by
  unfold sweepNext
  split
  · rfl
  · split
    · rfl
    · exact shell_captureStart

@[simp] theorem shell_sweepEnd : (sweepEnd s).shell = s.shell := by
  unfold sweepEnd; simp

@[simp] theorem shell_columnComplete : (columnComplete s).shell = s.shell := by
  unfold columnComplete
  dsimp only
  split
  · split
    · rw [shell_enterWaiting, shell_withSweep, shell_combComplete]
    · rw [shell_withSweep, shell_combComplete]
  · split
    · rw [shell_sweepEnd, shell_withSweep, shell_combComplete]
    · rw [shell_withSweep, shell_combComplete]
  · exact shell_combComplete

/-! ## Writes and panel adjustments -/

@[simp] theorem shell_lockCarries : (lockCarries s).shell = s.shell := by
  unfold lockCarries
  simp

@[simp] theorem shell_configWrite (f : FieldId) (v : Int) : (configWrite f v s).shell = s.shell := by
  unfold configWrite
  dsimp only
  split
  · simp
  · simp
  · simp

theorem shell_storeWrite {p : WritePath} {f : FieldId} {v : Val} (h : storeWrite p f v s = .ok t) :
    t.shell = s.shell := by
  unfold storeWrite at h
  split at h
  · split at h
    · cases h; simp
    · cases h; rfl
  · dsimp only at h
    split at h
    · cases h; rfl
    · split at h
      · cases h
      · cases h; rfl
  · split at h
    · cases h
    · split at h
      · cases h
      · cases h; simp

theorem shell_panelAdjust {f : FieldId} {v : Int} (h : panelAdjust f v s = some t) : t.shell = s.shell := by
  unfold panelAdjust at h
  split at h
  · split at h
    · cases h; rfl
    · split at h
      · cases h; simp
      · cases h
  · split at h
    · cases h; simp
    · cases h

theorem shell_submit {f : FieldId} {sp : FieldSpec} {v : Int} (h : submit f sp v s = some t) : t.shell = s.shell := by
  unfold submit at h
  split at h
  · split at h
    · cases h
    · cases h; simp
  · exact shell_panelAdjust h

end Sys2Proof.Machine
end

