-- ==== Sys2Proof/Laws/Link.lean ====
section
/-! SUPPORT. What taking a command can do (R181), and the answer's fields. -/

namespace Sys2Proof.Machine

variable {s : State} {i : Instr} {body : State → Reply}

theorem awake_held {t : State} (h : s.held = true) : awake s t = .next s := by simp [awake, h]

theorem awake_running {t : State} (h : s.held = false) : awake s t = .next t := by simp [awake, h]

/-- Everything a link command's last byte can do: nothing, a refusal with STARTING, or the command's own answer. -/
theorem takeCommand_cases :
    takeCommand i body s = .next s
      ∨ (s.setup.starting = true ∧ takeCommand i body s = .next (respond (refuse .starting s)))
      ∨ (s.held = false ∧ expects i s = true ∧ takeCommand i body s = .next (respond (body s))) := by
  unfold takeCommand awake
  cases hh : s.held
  · cases he : expects i s
    · simp
    · cases hs : s.setup.starting <;> cases ha : allowedStarting i <;> simp
  · simp

/-- A command that the parser hears and the start-up load allows is answered by its own rules. -/
theorem takeCommand_taken (hh : s.held = false) (he : expects i s = true)
    (hs : s.setup.starting = false ∨ allowedStarting i = true) :
    takeCommand i body s = .next (respond (body s)) := by
  obtain hs | hs := hs <;> simp [takeCommand, awake, hh, he, hs]

/-- During the start-up load every other command is refused (R181). -/
theorem takeCommand_starting (hh : s.held = false) (he : expects i s = true)
    (hs : s.setup.starting = true) (ha : allowedStarting i = false) :
    takeCommand i body s = .next (respond (refuse .starting s)) := by
  simp [takeCommand, awake, hh, he, hs, ha]

theorem takes_iff : s.takes i = true ↔ s.held = false ∧ expects i s = true ∧ s.setup.starting = false := by
  simp [State.takes, State.hears, and_assoc]

theorem hears_iff : s.hears i = true ↔ s.held = false ∧ expects i s = true := by
  simp [State.hears]

theorem takeCommand_takes (h : s.takes i = true) : takeCommand i body s = .next (respond (body s)) := by
  rw [takes_iff] at h
  exact takeCommand_taken h.1 h.2.1 (.inl h.2.2)

theorem respond_refuse (st : Status) : respond (refuse st s) = s.answer st [] .none := rfl
theorem respond_accept (data : List Byte) : respond (accept data s) = s.answer .ok data .none := rfl

@[simp] theorem respond_status (r : Reply) : (respond r).link.response = statusCode r.status :: r.data := rfl
@[simp] theorem respond_parser (r : Reply) : (respond r).link.parser = .response := rfl
@[simp] theorem respond_tie (r : Reply) : (respond r).link.tie = r.tie := rfl
@[simp] theorem respond_store (r : Reply) : (respond r).store = r.st.store := rfl
@[simp] theorem respond_path (r : Reply) : (respond r).path = r.st.path := rfl
@[simp] theorem respond_comb (r : Reply) : (respond r).comb = r.st.comb := rfl
@[simp] theorem respond_sweep (r : Reply) : (respond r).sweep = r.st.sweep := rfl
@[simp] theorem respond_trig (r : Reply) : (respond r).trig = r.st.trig := rfl
@[simp] theorem respond_meas (r : Reply) : (respond r).meas = r.st.meas := rfl
@[simp] theorem respond_panel (r : Reply) : (respond r).panel = r.st.panel := rfl
@[simp] theorem respond_rend (r : Reply) : (respond r).rend = r.st.rend := rfl
@[simp] theorem respond_setup (r : Reply) : (respond r).setup = r.st.setup := rfl
@[simp] theorem respond_notices (r : Reply) : (respond r).notices = r.st.notices := rfl
@[simp] theorem respond_held (r : Reply) : (respond r).held = r.st.held := rfl
@[simp] theorem respond_cause (r : Reply) : (respond r).cause = r.st.cause := rfl
@[simp] theorem respond_free (r : Reply) : (respond r).free = r.st.free := rfl
@[simp] theorem respond_pending (r : Reply) : (respond r).pending = r.st.pending := rfl

/-- The parser has received exactly the command's bytes but the last, and with it they spell the command (R179, R189). -/
theorem expects_cases (h : expects i s = true) :
    ∃ code params, wire i = some (code, params) ∧ s.link.parser = awaiting code params
      ∧ decodeCommand (calLevel i) (code :: params) = some i := by
  unfold expects at h
  split at h
  · exact ⟨_, _, ‹_›, by simpa using h⟩
  · cases h

/-- A parser that expects the last byte of a command is in COMMAND or in PARAMETERS (R179). -/
theorem awaiting_cases (code : Byte) (params : List Byte) :
    (params = [] ∧ awaiting code params = .command)
      ∨ (params ≠ [] ∧ awaiting code params = .parameters code params.dropLast 1) := by
  cases params <;> simp [awaiting]

/-- A part that is sending a response hears no command (R179). -/
theorem awaiting_ne_response (code : Byte) (params : List Byte) : awaiting code params ≠ .response := by
  cases params <;> simp [awaiting]

/-- The bytes of an integer, n of them. -/
@[simp] theorem beBytes_length (n : Nat) (v : Int) : (beBytes n v).length = n := by
  induction n with
  | zero => rfl
  | succ n ih => simp [beBytes, ih]

end Sys2Proof.Machine
end

