-- ==== Sys2Proof/Laws/Memory.lean ====
section
/-! SUPPORT. The laws of the flash: every memory operation keeps the canonical form, a read after a write gives the value
written, and a write leaves every other byte alone. -/

namespace Sys2Proof.Machine

variable {m : Memory} {lo hi a b n : Nat} {x : Byte}

theorem wfFrom_nil : Memory.wfFrom lo [] = true := rfl

theorem wfFrom_cons {v : Byte} :
    Memory.wfFrom lo ((b, v) :: m) = true ↔
      lo ≤ b ∧ b < flashSize ∧ v ≠ blankByte ∧ Memory.wfFrom (b + 1) m = true := by
  simp [Memory.wfFrom, and_assoc]

theorem wfFrom_mono (h : Memory.wfFrom lo m = true) (hl : n ≤ lo) : Memory.wfFrom n m = true := by
  cases m with
  | nil => rfl
  | cons c m =>
    obtain ⟨b, v⟩ := c
    rw [wfFrom_cons] at h ⊢
    exact ⟨by omega, h.2⟩

/-- An address below the first listed one reads blank. -/
theorem read_below (h : Memory.wfFrom lo m = true) (ha : a < lo) : Memory.read m a = blankByte := by
  induction m generalizing lo with
  | nil => rfl
  | cons c m ih =>
    obtain ⟨b, v⟩ := c
    rw [wfFrom_cons] at h
    have : a ≠ b := by omega
    simp only [Memory.read, this, if_false]
    exact ih h.2.2.2 (by omega)

theorem wfFrom_drop (h : Memory.wfFrom lo m = true) : Memory.wfFrom lo (Memory.drop m a) = true := by
  induction m generalizing lo with
  | nil => rfl
  | cons c m ih =>
    obtain ⟨b, v⟩ := c
    rw [wfFrom_cons] at h
    unfold Memory.drop
    split
    · exact wfFrom_mono h.2.2.2 (by omega)
    · rw [wfFrom_cons]; exact ⟨h.1, h.2.1, h.2.2.1, ih h.2.2.2⟩

theorem wfFrom_put (h : Memory.wfFrom lo m = true) (ha : lo ≤ a) (hs : a < flashSize) (hx : x ≠ blankByte) :
    Memory.wfFrom lo (Memory.put m a x) = true := by
  induction m generalizing lo with
  | nil => simp [Memory.put, Memory.wfFrom, ha, hs, hx]
  | cons c m ih =>
    obtain ⟨b, v⟩ := c
    have h' := wfFrom_cons.1 h
    unfold Memory.put
    split
    · rw [wfFrom_cons, wfFrom_cons]
      exact ⟨ha, hs, hx, by omega, h'.2⟩
    · split
      · subst_vars; rw [wfFrom_cons]; exact ⟨ha, hs, hx, h'.2.2.2⟩
      · rw [wfFrom_cons]; exact ⟨h'.1, h'.2.1, h'.2.2.1, ih h'.2.2.2 (by omega)⟩

/-- A write keeps the canonical form. -/
theorem wf_write (h : Memory.wf m = true) : Memory.wf (Memory.write m a x) = true := by
  unfold Memory.write Memory.wf at *
  split
  · exact h
  · split
    · exact wfFrom_drop h
    · exact wfFrom_put h (Nat.zero_le _) (by omega) ‹_›

theorem wf_writeBytes {xs : List Byte} (h : Memory.wf m = true) : Memory.wf (Memory.writeBytes m a xs) = true := by
  induction xs generalizing m a with
  | nil => exact h
  | cons x xs ih => exact ih (wf_write h)

theorem wf_program {xs : List Byte} {stuck : Flips} (h : Memory.wf m = true) :
    Memory.wf (Memory.program m stuck a xs) = true := by
  induction xs generalizing m a with
  | nil => exact h
  | cons x xs ih => exact ih (wf_write h)

theorem wf_programCut {xs : List Byte} {free : Nat} (h : Memory.wf m = true) :
    Memory.wf (Memory.programCut m free a xs) = true := by
  induction xs generalizing m a free with
  | nil => exact h
  | cons x xs ih => exact ih (wf_write h)

theorem wfFrom_filter (p : Host.Cell → Bool) (h : Memory.wfFrom lo m = true) :
    Memory.wfFrom lo (List.filter p m) = true := by
  induction m generalizing lo with
  | nil => rfl
  | cons c m ih =>
    obtain ⟨b, v⟩ := c
    rw [wfFrom_cons] at h
    rw [List.filter_cons]
    split
    · rw [wfFrom_cons]; exact ⟨h.1, h.2.1, h.2.2.1, ih h.2.2.2⟩
    · exact wfFrom_mono (ih h.2.2.2) (by omega)

theorem wf_wipe (h : Memory.wf m = true) : Memory.wf (Memory.wipe lo hi m) = true := wfFrom_filter _ h

theorem wf_foldl_blank {l : List Nat} (h : Memory.wf m = true) :
    Memory.wf (l.foldl (fun m a => Memory.write m a blankByte) m) = true := by
  induction l generalizing m with
  | nil => exact h
  | cons a l ih => exact ih (wf_write h)

theorem wf_wipePart {free slot : Nat} (h : Memory.wf m = true) : Memory.wf (wipePart m free slot) = true := by
  unfold wipePart
  dsimp only
  split
  · exact wf_write (wf_foldl_blank h)
  · exact wf_foldl_blank h

theorem wf_wipeCut {free slot : Nat} (h : Memory.wf m = true) : Memory.wf (wipeCut m free slot) = true := by
  unfold wipeCut
  dsimp only
  generalize h2 : wipePart m free slot = m2
  have hm2 : Memory.wf m2 = true := h2 ▸ wf_wipePart h
  generalize Memory.bytes m (placeBase slot 1) 11 = old
  split
  · exact wf_writeBytes hm2
  · exact hm2

/-- Stopping a flash step keeps the canonical form. -/
theorem wf_flashCut {u : Setup} {free : Nat} (h : Memory.wf u.flash = true) : Memory.wf (flashCut u free).1 = true := by
  unfold flashCut
  dsimp only
  split <;> try exact h
  · exact wf_write h
  · exact wf_wipeCut h
  · split
    · split
      · exact wf_programCut h
      · exact h
    · exact h
  · exact wf_programCut h
  · exact wf_write h

/-! ## Reading after writing -/

theorem read_drop_same (h : Memory.wfFrom lo m = true) : Memory.read (Memory.drop m a) a = blankByte := by
  induction m generalizing lo with
  | nil => rfl
  | cons c m ih =>
    obtain ⟨b, v⟩ := c
    rw [wfFrom_cons] at h
    unfold Memory.drop
    split
    · subst_vars; exact read_below h.2.2.2 (by omega)
    · next hne => simp only [Memory.read, hne, if_false]; exact ih h.2.2.2

theorem read_drop_other (hab : b ≠ a) : Memory.read (Memory.drop m a) b = Memory.read m b := by
  induction m with
  | nil => rfl
  | cons c m ih =>
    obtain ⟨k, v⟩ := c
    unfold Memory.drop
    split
    · subst_vars; simp [Memory.read, hab]
    · simp only [Memory.read, ih]

theorem read_put_same : Memory.read (Memory.put m a x) a = x := by
  induction m with
  | nil => simp [Memory.put, Memory.read]
  | cons c m ih =>
    obtain ⟨k, v⟩ := c
    unfold Memory.put
    split
    · simp [Memory.read]
    · split
      · simp [Memory.read]
      · next hne => simp only [Memory.read, hne, if_false]; exact ih

theorem read_put_other (hab : b ≠ a) : Memory.read (Memory.put m a x) b = Memory.read m b := by
  induction m with
  | nil => simp [Memory.put, Memory.read, hab]
  | cons c m ih =>
    obtain ⟨k, v⟩ := c
    unfold Memory.put
    split
    · simp [Memory.read, hab]
    · split
      · subst_vars; simp [Memory.read, hab]
      · simp only [Memory.read, ih]

/-- A byte of the flash reads as written. -/
theorem read_write_same (h : Memory.wf m = true) (ha : a < flashSize) : Memory.read (Memory.write m a x) a = x := by
  unfold Memory.write
  rw [if_neg (by omega)]
  split
  · subst_vars; exact read_drop_same h
  · exact read_put_same

/-- A write leaves every other byte alone. -/
theorem read_write_other (hab : b ≠ a) : Memory.read (Memory.write m a x) b = Memory.read m b := by
  unfold Memory.write
  split
  · rfl
  · split
    · exact read_drop_other hab
    · exact read_put_other hab

/-- Programming leaves every byte outside its range alone. -/
theorem read_program_other {xs : List Byte} {stuck : Flips} (h : b < a ∨ a + xs.length ≤ b) :
    Memory.read (Memory.program m stuck a xs) b = Memory.read m b := by
  induction xs generalizing m a with
  | nil => rfl
  | cons x xs ih =>
    simp only [List.length_cons] at h
    unfold Memory.program
    rw [ih (by omega), read_write_other (by omega)]

/-- A wiped byte is blank, and every other is left alone. -/
theorem read_wipe (h : Memory.wfFrom n m = true) :
    Memory.read (Memory.wipe lo hi m) a = if lo ≤ a ∧ a < hi then blankByte else Memory.read m a := by
  induction m generalizing n with
  | nil => simp [Memory.wipe, Memory.read]
  | cons c m ih =>
    obtain ⟨k, v⟩ := c
    rw [wfFrom_cons] at h
    have ih' := ih h.2.2.2
    unfold Memory.wipe at ih' ⊢
    rw [List.filter_cons]
    split
    · next hk =>
      simp only [decide_eq_true_eq] at hk
      simp only [Memory.read, ih']
      by_cases hak : a = k
      · subst hak; simp; omega
      · simp [hak]
    · next hk =>
      simp only [decide_eq_true_eq] at hk
      rw [ih']
      by_cases hak : a = k
      · subst hak
        have : lo ≤ a ∧ a < hi := by omega
        simp [this]
      · simp [Memory.read, hak]

/-- The flash of the reset state is in its canonical form. -/
theorem wf_reset : Memory.wf State.reset.setup.flash = true := rfl

/-! ## Markers cut off, and what an undisturbed scan finds (R163, R176) -/

/-- A void mark that has begun leaves neither a SEALED nor a blank marker. -/
theorem voidCut_marker {free base : Nat} (h : Memory.wf m = true) (hb : base < flashSize) :
    Memory.read (voidCut m free base) base ≠ sealed ∧ Memory.read (voidCut m free base) base ≠ blankByte := by
  unfold voidCut markerCut
  rw [read_write_same h hb]
  split
  · decide
  · next hv => simpa using hv

/-- A seal cut off leaves no SEALED marker. -/
theorem sealCut_marker {free base : Nat} (h : Memory.wf m = true) (hb : base < flashSize) :
    Memory.read (sealCut m free base) base ≠ sealed := by
  unfold sealCut markerCut
  rw [read_write_same h hb]
  split
  · decide
  · next hv => simpa using hv

@[simp] theorem bytesAsRead_undisturbed (a n : Nat) : Memory.bytesAsRead m [] a n = Memory.bytes m a n := by
  simp [Memory.bytesAsRead, Memory.bytes, flipAt]

/-- Bytes that begin with one that is not blank are not blank. -/
theorem isBlank_bytes_first {n : Nat} (hn : 0 < n) (h : Memory.read m a ≠ blankByte) : isBlank (Memory.bytes m a n) = false := by
  have hmem : Memory.read m a ∈ Memory.bytes m a n := List.mem_map.2 ⟨0, by simpa using hn, rfl⟩
  exact List.all_eq_false.2 ⟨_, hmem, by simpa using h⟩

/-- The marker of a header as read is its first byte. -/
theorem readHeader_marker {bs : List Byte} {h : SlotHeader} (e : readHeader bs = some h) : h.marker = bs.getD 0 0 := by
  unfold readHeader at e
  dsimp only at e
  split at e
  · split at e <;> cases e; rfl
  · split at e <;> cases e; rfl
  · cases e

/-- Rows 2 to 4 of R163: a slot whose marker is not SEALED is BAD, unless header and first entry place are blank. -/
theorem judgeSlot_bad {slot : Nat} (c : Nat) (hm : Memory.read m (slotBase slot) ≠ sealed)
    (hb : isBlank (Memory.bytes m (slotBase slot) 16) = false ∨ isBlank (Memory.bytes m (placeBase slot 1) 11) = false) :
    (judgeSlot m [] c slot).state = .bad := by
  unfold judgeSlot
  simp only [bytesAsRead_undisturbed]
  split
  · next hblank => rw [if_neg]; simpa [hblank] using hb
  · split
    · rfl
    · next h e =>
      rw [if_pos]
      left
      rw [readHeader_marker e]
      simpa [Memory.bytes] using hm

/-- Row 1 of R163. -/
theorem judgeSlot_erased {slot : Nat} (c : Nat) (hh : isBlank (Memory.bytes m (slotBase slot) 16) = true)
    (hp : isBlank (Memory.bytes m (placeBase slot 1) 11) = true) : (judgeSlot m [] c slot).state = .erased := by
  simp [judgeSlot, hh, hp]

end Sys2Proof.Machine
end

