-- ==== Sys2Proof/Laws/Records.lean ====
section
/-! SUPPORT. Reading records back: a write to a field is read where it was made and nowhere else (R3). -/

namespace Sys2Proof.Machine

variable {s : State} {k k' : Kind} {i j : Nat} {f g : FieldId} {v : Int}

@[simp] theorem table_setTable (st : Store) (k : Kind) (t : List Rec) : (st.setTable k t).table k = t := by
  cases k <;> rfl

theorem table_setTable_other (st : Store) (t : List Rec) (h : k' ≠ k) : (st.setTable k t).table k' = st.table k' := by
  cases k <;> cases k' <;> first | rfl | exact absurd rfl h

@[simp] theorem setTable_groups (st : Store) (k : Kind) (t : List Rec) : (st.setTable k t).groups = st.groups := by
  cases k <;> rfl

@[simp] theorem setTable_queue (st : Store) (k : Kind) (t : List Rec) : (st.setTable k t).queue = st.queue := by
  cases k <;> rfl

@[simp] theorem setTable_dropped (st : Store) (k : Kind) (t : List Rec) : (st.setTable k t).dropped = st.dropped := by
  cases k <;> rfl

/-- What changing one record does to each record. -/
theorem recAt_modRec (h : Rec → Rec) :
    (modRec k i h s).recAt k' j =
      if k' = k ∧ j = i ∧ i < (s.store.table k).length then h (s.recAt k i) else s.recAt k' j := by
  unfold State.recAt modRec
  by_cases hk : k' = k
  · subst hk
    simp only [table_setTable, List.getD_eq_getElem?_getD, List.getElem?_modify]
    by_cases hj : j = i
    · subst hj
      by_cases hl : j < (s.store.table k').length
      · simp [hl]
      · simp [hl]
    · have : ¬ i = j := fun h => hj h.symm
      simp [hj, this]
  · simp [hk, table_setTable_other]

/-- A live record stands in its table. -/
theorem lt_of_isLive (h : s.isLive k i = true) : i < (s.store.table k).length := by
  by_contra hn
  have : s.recAt k i = Rec.absent := by
    unfold State.recAt
    rw [List.getD_eq_getElem?_getD, List.getElem?_eq_none (by omega)]
    rfl
  simp [State.isLive, this, Rec.absent] at h

/-- A written field reads as written. -/
theorem get_setVal_same (hl : f.inst < (s.store.table f.kind).length)
    (hv : f.num < (s.recAt f.kind f.inst).vals.length) (ht : f ≠ Fld.tbState) : (setVal f v s).get f = v := by
  unfold State.get
  rw [if_neg ht]
  unfold setVal
  rw [recAt_modRec, if_pos ⟨rfl, rfl, hl⟩]
  simp [List.getD_eq_getElem?_getD, hv]

/-- A write leaves every other field alone. -/
theorem get_setVal_other (hfg : g ≠ f) : (setVal f v s).get g = s.get g := by
  unfold State.get
  split
  · rfl
  · unfold setVal
    rw [recAt_modRec]
    split
    · next h =>
      obtain ⟨hk, hi, -⟩ := h
      have hn : f.num ≠ g.num := by
        intro hn
        apply hfg
        cases f; cases g
        simp_all
      simp only [List.getD_eq_getElem?_getD]
      rw [List.getElem?_set_ne hn, hk, hi]
    · rfl

/-- A field's write moves no record's liveness or generation. -/
theorem live_setVal : (setVal f v s).isLive k i = s.isLive k i := by
  unfold State.isLive setVal
  rw [recAt_modRec]
  split
  · next h => rw [h.1, h.2.1]
  · rfl

theorem gen_setVal : ((setVal f v s).recAt k i).gen = (s.recAt k i).gen := by
  unfold setVal
  rw [recAt_modRec]
  split
  · next h => rw [h.1, h.2.1]
  · rfl

end Sys2Proof.Machine
end

