-- ==== Sys2Proof/Laws/Setup.lean ====
section
/-! SUPPORT. The first program step of a save (R163, R166), and what a cut-off does to the directory in PROGRAMMING (R169). -/

namespace Sys2Proof.Machine

variable {s : State}

/-- The first program step is due where the operation that cut-offs and reports share finds it not begun. -/
theorem firstStepDue_iff : s.firstStepDue ↔ s.setup.phase = .program ∧ programBegun s.setup = false := by
  simp only [State.firstStepDue, programBegun, decide_eq_false_iff_not, not_or, ne_eq, Nat.not_lt, Nat.le_zero]

/-- Where the first step is not due, looking changes nothing. -/
theorem firstStepMayBegin_not_due (h : ¬ s.firstStepDue) : firstStepMayBegin s = s :=
  firstStepMayBegin_of_not s (by rwa [firstStepDue_iff] at h)

@[simp] theorem endOp_dir (r : SetupResult) : (endOp r s).setup.dir = s.setup.dir := by unfold endOp raise modSetup; rfl
@[simp] theorem endOp_flash (r : SetupResult) : (endOp r s).setup.flash = s.setup.flash := by unfold endOp raise modSetup; rfl

/-- A cut-off in PROGRAMMING: BAD where the first program step has begun, ERASED where it has not (R169). -/
theorem cutOff_program_dir (r : SetupResult) (hp : s.setup.phase = .program) :
    (cutOff r s).setup.dir =
      if programBegun (firstStepMayBegin s).setup = true then
        (firstStepMayBegin s).setup.dir.modify s.setup.slot fun d => { d with state := .bad }
      else (firstStepMayBegin s).setup.dir.set s.setup.slot { state := .erased, count := 0 } := by
  have hphase : (firstStepMayBegin s).setup.phase = .program := by rw [firstStepMayBegin_setup]; exact hp
  have hslot : s.setup.slot = (firstStepMayBegin s).setup.slot := by rw [firstStepMayBegin_setup]
  rw [hslot]
  unfold cutOff
  generalize firstStepMayBegin s = u at hphase
  have hstop : (stopFlash u).setup.phase = .program := hphase
  have hbegun : programBegun (stopFlash u).setup = programBegun u.setup := rfl
  rw [endOp_dir, cutTidy, hstop]
  dsimp only
  rw [hbegun]
  split <;> rfl

end Sys2Proof.Machine
end

