-- ==== Sys2Proof/Tests/Slice0.lean ====
section
/-! SUPPORT. The author's own tests: ill-formed commands refused, a state that meets each statement's hypotheses
(`test_<Name>_met`, boundary values among them), and small checks of single commands whose expected values are worked
from the spec's rules. -/

namespace Sys2Proof.Tests

open Sys2Proof Sys2Proof.Machine

/-! ## Small states -/

/-- The part out of reset with its start-up load complete and every record at its default. -/
def awake : State := { State.reset with held := false, setup := { State.reset.setup with starting := false } }

/-- The start-up load under way. -/
def loading : State := { State.reset with held := false }

def withParser (p : Parser) (s : State) : State := { s with link := { s.link with csLow := true, parser := p } }

def withTie (t : Tie) (s : State) : State := { s with link := { s.link with tie := t } }

/-- A command byte is expected. -/
def listening : State := withParser .command awake

/-- Every byte of a command but its last has arrived. -/
def asked (i : Instr) : State :=
  withParser (match wire i with
    | some (code, params) => awaiting code params
    | none => .idle) awake

/-- A response is being sent. -/
def answering (t : Tie) : State := withTie t (withParser .response awake)

def withAcq (a : Acq) (s : State) : State := { s with sweep := { s.sweep with acq := a } }

def withPhase (p : Phase) (s : State) : State := { s with setup := { s.setup with phase := p } }

def entryOf (f : FieldId) (v : Int) : Entry := { id := f, val := .int v }

/-- Object 0 is live. -/
def withObject (s : State) : State := modRec .object 0 (fun r => { r with live := true }) s

def withMeasurement (i : Nat) (s : State) : State := modRec .measurement i (fun r => { r with live := true }) s

/-- Cursor 0 is live. -/
def withCursor (s : State) : State := modRec .cursor 0 (fun r => { r with live := true }) s

/-- Host group 0 is HOLDING these entries. -/
def holding (es : List Entry) (s : State) : State := setGroup 0 { state := .holding, entries := es, reserved := 0 } s

/-- A launch queue of n changes that cannot apply yet. -/
def queued (n : Nat) (s : State) : State :=
  { s with store := { s.store with queue := List.replicate n { origin := .loose, entries := [], released := false } } }

/-- What an outcome's next state is asked. -/
def after (o : Out) (p : State → Bool) : Bool :=
  match o with
  | .next t => p t
  | _ => false

/-! ## Ill-formed commands are refused -/

theorem test_writeText_too_long : (Instr.writeText 0x5000 10 (List.replicate 256 65)).wellFormed = false := by
  decide +kernel
theorem test_writeText_longest : (Instr.writeText 0x5000 10 (List.replicate 255 65)).wellFormed = true := by
  decide +kernel
theorem test_unknownCommand_known : (Instr.unknownCommand 0x19).wellFormed = false := by decide
theorem test_unknownCommand_unknown : (Instr.unknownCommand 0x1A).wellFormed = true := by decide
theorem test_commandByte_without_parameters : (Instr.commandByte 0x00).wellFormed = false := by decide
theorem test_commandByte_unknown : (Instr.commandByte 0x1A).wellFormed = false := by decide
theorem test_commandByte_write : (Instr.commandByte 0x03).wellFormed = true := by decide

/-! ## The hypotheses of the statements are met: the link -/

theorem test_StepRunsFrontCommand_met :
    ({ awake with pending := [.nop, .run] } : State).pending = .nop :: [.run] ∧ awake.pending = [] := by decide

theorem test_SummaryFormedAtFall_met : awake.held = false ∧ awake.link.parser = .idle := by decide

/-- What is pending, and R185's defaults: ENABLE 7, ALERT_SET 262166. Of sources 1 (SUPPLY_LOW) and 0 (START_DONE) each drives
its own line. -/
theorem test_SummaryFormedAtFall_lines :
    (∀ n, (fun n => if n = 5 then awake.notices.fails ≠ 0 else awake.notices.flags.getLsbD n = true) n
      ↔ if n = 5 then awake.notices.fails ≠ 0 else awake.notices.flags.getLsbD n = true)
    ∧ (raise .supplyLow awake).alertAsserted = true ∧ (raise .supplyLow awake).attnAsserted = false
    ∧ (raise .startDone awake).attnAsserted = true ∧ (raise .startDone awake).alertAsserted = false
    ∧ (raise .laneLost awake).alertAsserted = false ∧ awake.get Fld.noEnable / 2 ^ 1 % 2 = 1
    ∧ awake.get Fld.noAlertSet / 2 ^ 1 % 2 = 1 ∧ awake.get Fld.noAlertSet / 2 ^ 0 % 2 = 0 :=
  ⟨fun _ => Iff.rfl, by decide⟩

theorem test_ParserCountsBytes_met :
    (listening.held = false ∧ listening.link.parser = .command ∧ paramCount 0x02 = some (3 + 1)
      ∧ paramCount 0x16 = some (0 + 1) ∧ paramCount 0x1A = none ∧ paramCount 0xFF = none)
    ∧ (withParser (.parameters 0x03 [0] 2) awake).link.parser = .parameters 0x03 [0] 2
    ∧ (asked (.writeText 0x5000 10 [])).link.parser = .parameters 0x04 [0x50, 0, 10] 1 ∧ ([0x50, 0, 10] : List Byte).length = 3
    ∧ (0x01 : Byte) ≠ 0 ∧ wire (.writeText 0x5000 10 []) = some (0x04, [0x50, 0, 10, 0])
    ∧ wire (.save 15 true) = some (0x14, [15]) ∧ wire (.save 15 false) = some (0x14, [15]) := by decide

/-- The bytes of a command, and a word that holds them. -/
theorem test_ParserCountsBytes_decode :
    (Instr.retire 0x3000).wellFormed = true ∧ wire (.retire 0x3000) = some (0x06, [0x30, 0x00])
    ∧ calLevel (.retire 0x3000) = false ∧ 8 ≤ 24 ∧ 0x003006 < 2 ^ 24
    ∧ (List.range ([0x30, 0x00].length + 1)).map (wordByte 0x003006) = 0x06 :: [0x30, 0x00]
    ∧ decodeCommand true [0x14, 15] = some (.save 15 true) ∧ paramCount (wordByte (0xFF % 2 ^ 8) 0) = none := by decide

/-- R189: command bytes and parameters written out; a text shorter than its length byte, a byte too many, no command. -/
theorem test_decode_bytes :
    decodeCommand false [0x03, 0x10, 0x00, 1, 0, 0, 0, 0, 0, 0, 0, 3] = some (.write 0x1000 1 3)
    ∧ decodeCommand false [0x04, 0x50, 0x00, 10, 2, 72, 105] = some (.writeText 0x5000 10 [72, 105])
    ∧ decodeCommand false [0x04, 0x50, 0x00, 10, 2, 72] = none
    ∧ decodeCommand false [0x10, 3, 0x03, 0xE7, 0, 1] = some (.columns 3 999 1)
    ∧ decodeCommand false [0x13, 0x04, 0x00, 0x20, 0xFF] = some (.noticeClear 0x040020 0xFF)
    ∧ decodeCommand false [0x0B] = some .run ∧ decodeCommand false [0x0B, 0] = none
    ∧ decodeCommand false [0x1A] = none := by decide

theorem test_decodeTableWord :
    decodeTableWord 8 0x0B = some .run ∧ decodeTableWord 24 0x003006 = some (.retire 0x3000)
    ∧ decodeTableWord 8 0x16 = some (.recallSetup 0) ∧ decodeTableWord 8 0x1A = none ∧ decodeTableWord 7 0x0B = none := by
  decide

theorem test_withFetchWord : (State.reset.withFetchWord 8 0x0B).pending = [.run] := by decide

theorem test_ReportsAnswer_met :
    listening.hears .nop = true ∧ listening.hears .identify = true ∧ listening.hears .setupStatus = true
    ∧ (withParser .command loading).hears .identify = true ∧ loading.setup.starting = true
    ∧ listening.setup.starting = false := by decide

theorem test_NoticesReadAndCleared_met :
    listening.hears .noticeRead = true ∧ (asked (.noticeClear 0x20 0xFF)).takes (.noticeClear 0x20 0xFF) = true := by decide

theorem test_ResetCommandTakenAtRise_met :
    listening.takes .reset = true ∧ (answering .reset).held = false ∧ (answering .reset).link.parser = .response
    ∧ (answering .reset).link.tie = .reset ∧ (withParser .spent (answering .reset)).link.parser = .spent := by decide

theorem test_FrameEnds_met :
    (answering .none).held = false ∧ (answering .none).link.parser = .response ∧ (answering .none).link.tie = .none
    ∧ (answering (.columns 3)).link.tie = .columns 3
    ∧ (answering (.panel (panelSnap awake.panel))).link.tie = .panel (panelSnap awake.panel)
    ∧ listening.link.parser = .command ∧ (asked (.retire 0x3000)).link.parser = .parameters 0x06 [0x30] 1
    ∧ (withParser .spent awake).link.parser = .spent ∧ (withParser .spent awake).link.tie = .none
    ∧ awake.link.csLow = false ∧ listening.link.csLow = true := by decide

theorem test_StartingRefusesCommands_met :
    (withParser .command loading).hears .run = true ∧ (withParser .command loading).setup.starting = true
    ∧ allowedStarting .run = false := by decide

/-- FORCE in STOPPED is refused. -/
theorem test_RefusalChangesNothing_met :
    wire .force ≠ none ∧ listening.link.parser ≠ .response
    ∧ exec .force listening = .next (listening.answer .wrongState [] .none)
    ∧ (listening.answer .wrongState [] .none).link.parser = .response
    ∧ (listening.answer .wrongState [] .none).link.response = statusCode .wrongState :: [] := by
  refine ⟨by decide, by decide, rfl, rfl, rfl⟩

theorem test_HeldPartIgnores_met : State.reset.held = true ∧ reachesReset .run = false := by decide

/-! ## Reset and start-up -/

theorem test_ResetsRestoreEverything_met :
    ((Instr.resetN = .powerOn ∧ Cause.pin = .power) ∨ (Instr.resetN = .resetN ∧ Cause.pin = .pin)
      ∨ (Instr.resetN = .supplyReset ∧ Cause.pin = .supply)) ∧ awake.setup.phase.writesFlash = false := by decide

/-- Operations in ERASING, PROGRAMMING and SEALING; an ERASED slot and one whose first entry place is programmed. -/
theorem test_resetLeaves_met :
    (withPhase .voidMark awake).flashKept = true ∧ (withPhase .wipe awake).flashKept = true
    ∧ (withPhase .wipe awake).setup.flash.read (slotBase 0) ≠ sealed
    ∧ isBlank ((withPhase .wipe awake).setup.flash.bytes (placeBase 0 1) 11) = true
    ∧ isBlank ((withPhase .program awake).setup.flash.bytes (slotBase 0) 16) = true
    ∧ (setFlash [(placeBase 0 1, 0x08)] (withPhase .sealHeader awake)).flashKept = true
    ∧ isBlank ((setFlash [(placeBase 0 1, 0x08)] (withPhase .sealHeader awake)).setup.flash.bytes (placeBase 0 1) 11) = false
    ∧ (setFlash [(placeBase 0 1, 0x08)] (withPhase .sealHeader awake)).setup.flash.read (slotBase 0) = blankByte := by decide

theorem test_ReleaseStartsLoad_met : 950000 ≤ 950000 ∧ 950000 ≤ 1100000 := by decide

theorem test_StartupCompletionRuns_met :
    loading.held = false ∧ loading.setup.starting = true ∧ loading.setup.phase = .idle ∧ loading.sweep.acq = .stopped
    ∧ loading.sweep.settle = none ∧ 0 < loading.get Fld.tbTrigColumn
    ∧ (setVal Fld.tbTrigColumn 0 loading).get Fld.tbTrigColumn = 0
    ∧ ({ loading with sweep := { loading.sweep with settle := some 10000 } } : State).sweep.settle ≠ none := by decide

theorem test_SupplyMonitorMoves_met :
    awake.held = false ∧ awake.setup.supplyLow = false ∧ awake.setup.phase.writesFlash = false
    ∧ (withPhase .wipe awake).setup.phase.writesFlash = true := by decide

/-! ## The record store -/

/-- A readable field; READ of a text; no record, a kind of none, no field; and each refusal of a WRITE. -/
theorem test_ReadAnswersValue_met :
    (asked (.read 0x1000 0 0)).takes (.read 0x1000 0 0) = true
    ∧ (asked (.read 0x1000 0 0)).fieldAt 0x1000 0 = .ok (Fld.tbScale, ⟨"SCALE", .restart, .numeric 0 24, 9⟩)
    ∧ ¬ (Fld.tbScale.kind = .object ∧ Fld.tbScale.num = 10)
    ∧ (withObject (asked (.read 0x5000 10 1))).takes (.read 0x5000 10 1) = true
    ∧ (withObject (asked (.read 0x5000 10 1))).fieldAt 0x5000 10 = .ok (Fld.obText 0, ⟨"TEXT", .view, .text, 0⟩)
    ∧ kindOf ((0x3000 : BitVec 16).toNat / 4096) = some .cursor ∧ awake.isLive .cursor 0 = false
    ∧ kindOf ((0xC000 : BitVec 16).toNat / 4096) = none
    ∧ kindOf ((0x1000 : BitVec 16).toNat / 4096) = some .timebase ∧ specAt .timebase 9 = none
    ∧ (asked (.write 0x1000 5 0)).takes (.write 0x1000 5 0) = true
    ∧ (asked (.write 0x1000 5 0)).fieldAt 0x1000 5 = .ok (Fld.tbState, ⟨"STATE", .result, .enum 6, 0⟩)
    ∧ awake.fieldAt 0x1000 1 = .ok (Fld.tbMode, ⟨"MODE", .restart, .enum 4, 0⟩) ∧ 4 ≤ (4 : BitVec 64).toInt
    ∧ awake.fieldAt 0x0000 0 = .ok (Fld.chDisplay 0, ⟨"DISPLAY", .view, .onOff, 0⟩)
    ∧ (withMeasurement 0 awake).fieldAt 0x4000 3 = .ok (Fld.meGateA 0, ⟨"GATE_A", .sweep, .cursorRef, noRef⟩)
    ∧ (0x3000 : BitVec 64).toInt ≠ -1 ∧ awake.refersTo [.cursor] (0x3000 : BitVec 64).toInt = none
    ∧ (withObject awake).fieldAt 0x5000 11 = .ok (Fld.obBind 0, ⟨"BIND", .view, .bindRef, noRef⟩)
    ∧ awake.refersTo [.measurement, .cursor] (0x4000 : BitVec 64).toInt = none
    ∧ (withMeasurement 0 awake).fieldAt 0x4000 2 = .ok (Fld.meGate 0, ⟨"GATE", .sweep, .enum 2, 0⟩)
    ∧ (withMeasurement 0 awake).gatesLive (-1) (-1) = false := by decide

/-- A gate that names no live cursor under GATE CURSORS. -/
theorem test_ReadAnswersValue_gate :
    (setVal (Fld.meGate 0) 1 (withMeasurement 0 (asked (.write 0x4000 4 0x3000)))).takes (.write 0x4000 4 0x3000) = true
    ∧ (withMeasurement 0 awake).fieldAt 0x4000 4 = .ok (Fld.meGateB 0, ⟨"GATE_B", .sweep, .cursorRef, noRef⟩)
    ∧ (setVal (Fld.meGate 0) 1 (withMeasurement 0 awake)).refVal (awake.pathFor .sweep) (Fld.meGate 0) = 1
    ∧ (withMeasurement 0 awake).gatesLive ((withMeasurement 0 awake).refVal (awake.pathFor .sweep) (Fld.meGateA 0))
        (0x3000 : BitVec 64).toInt = false := by decide

/-- KIND on either side of control 48, a TARGET of none, of a RESULT field, and one unsuited to the live KIND. -/
theorem test_ReadAnswersValue_binding :
    (asked (.write 0x62F0 0 2)).takes (.write 0x62F0 0 2) = true
    ∧ awake.fieldAt 0x62F0 0 = .ok (Fld.biKind 47, ⟨"KIND", .config, .enum 6, 1⟩)
    ∧ awake.fieldAt 0x6300 0 = .ok (Fld.biKind 48, ⟨"KIND", .config, .enum 6, 1⟩)
    ∧ awake.namesField (awake.get (Fld.biTarget 48)) = none
    ∧ awake.fieldAt 0x6300 1 = .ok (Fld.biTarget 48, ⟨"TARGET", .config, .fieldRef, noRef⟩)
    ∧ (-1 : BitVec 64).toInt = -1 ∧ (setVal (Fld.biKind 48) 2 awake).get (Fld.biKind 48) = 2
    ∧ awake.namesField (0x0805 : BitVec 64).toInt = some (Fld.tbState, ⟨"STATE", .result, .enum 6, 0⟩)
    ∧ awake.namesField (0x0801 : BitVec 64).toInt = some (Fld.tbMode, ⟨"MODE", .restart, .enum 4, 0⟩) := by decide

/-- SOURCE EQUALS with no FIELD, FIELD none under NONZERO, and OBJECT.TEXT. -/
theorem test_ReadAnswersValue_lamp :
    (asked (.write 0x71F0 0 2)).takes (.write 0x71F0 0 2) = true
    ∧ awake.fieldAt 0x71F0 0 = .ok (Fld.laSource 31, ⟨"SOURCE", .config, .enum 8, 0⟩)
    ∧ awake.fieldAt 0x71F0 1 = .ok (Fld.laField 31, ⟨"FIELD", .config, .fieldRef, noRef⟩) ∧ awake.get (Fld.laField 31) = -1
    ∧ (setVal (Fld.laSource 31) 3 awake).get (Fld.laSource 31) = 3
    ∧ (withObject awake).namesField (0x280A : BitVec 64).toInt = some (Fld.obText 0, ⟨"TEXT", .view, .text, 0⟩) := by decide

/-- A READOUT whose FORM would not agree with its BIND. -/
theorem test_ReadAnswersValue_readout :
    (setVal (Fld.obKind 0) 6 (withObject (asked (.write 0x5000 13 4)))).takes (.write 0x5000 13 4) = true
    ∧ (setVal (Fld.obKind 0) 6 (withObject awake)).get (Fld.obKind 0) = 6
    ∧ (withObject awake).fieldAt 0x5000 13 = .ok (Fld.obForm 0, ⟨"FORM", .view, .enum 6, 0⟩) ∧ (4 : BitVec 64).toInt = 4
    ∧ (setVal (Fld.obBind 0) 0x4000 (withMeasurement 0 (withObject awake))).refVal (awake.pathFor .view) (Fld.obBind 0) = 0x4000
    ∧ (withMeasurement 0 (withObject awake)).refersTo [.cursor] 0x4000 = none
    ∧ (withMeasurement 0 (withObject awake)).refersTo [.measurement, .cursor] 0x4000 = some (.measurement, 0) := by decide

theorem test_CalibrationWriteIsLive_met :
    (asked (.write (BitVec.ofNat 16 (16 * 3)) (BitVec.ofNat 8 18) 32)).takes
      (.write (BitVec.ofNat 16 (16 * 3)) (BitVec.ofNat 8 18) 32) = true
    ∧ (asked (.write (BitVec.ofNat 16 (16 * 3)) (BitVec.ofNat 8 18) 32)).tableKept = true
    ∧ (10 ≤ 18 ∧ 18 ≤ 18 ∧ (-32 : Int) = -32 ∧ (31 : Int) = 31) ∧ (3 : Nat) < 4 := by decide

/-- A field with no entry, one with an entry, and a pool with nothing left. -/
theorem test_HeldWriteJoinsGroup_met :
    (holding [] (asked (.write 0x1000 0 24))).takes (.write 0x1000 0 24) = true ∧ (holding [] (asked (.write 0x1000 0 24))).holdingGroup = some 0
    ∧ (holding [] (asked (.write 0x1000 0 24))).fieldAt 0x1000 0 = .ok (Fld.tbScale, ⟨"SCALE", .restart, .numeric 0 24, 9⟩)
    ∧ (holding [] (asked (.write 0x1000 0 24))).writeCheck (.held 0) Fld.tbScale ⟨"SCALE", .restart, .numeric 0 24, 9⟩ 24 = none
    ∧ entryFor Fld.tbScale ((holding [] (asked (.write 0x1000 0 24))).store.group 0).entries = none
    ∧ 0 < (holding [] (asked (.write 0x1000 0 24))).poolFree
    ∧ entryFor Fld.tbScale ((holding [entryOf Fld.tbScale 1] (asked (.write 0x1000 0 24))).store.group 0).entries ≠ none
    ∧ (holding [entryOf Fld.tbScale 1] (asked (.write 0x1000 0 24))).writeCheck (.held 0) Fld.tbScale
        ⟨"SCALE", .restart, .numeric 0 24, 9⟩ 24 = none := by decide

/-- 192 entries fill the pool. -/
theorem test_HeldWriteJoinsGroup_pool_full :
    (holding (List.replicate 192 (entryOf Fld.tbMode 0)) (asked (.write 0x1000 0 24))).poolFree = 0
    ∧ entryFor Fld.tbScale ((holding (List.replicate 192 (entryOf Fld.tbMode 0)) (asked (.write 0x1000 0 24))).store.group 0).entries = none
    ∧ (holding (List.replicate 192 (entryOf Fld.tbMode 0)) (asked (.write 0x1000 0 24))).writeCheck (.held 0) Fld.tbScale
        ⟨"SCALE", .restart, .numeric 0 24, 9⟩ 24 = none
    ∧ (holding (List.replicate 192 (entryOf Fld.tbMode 0)) (asked (.write 0x1000 0 24))).holdingGroup = some 0
    ∧ (holding (List.replicate 192 (entryOf Fld.tbMode 0)) (asked (.write 0x1000 0 24))).takes (.write 0x1000 0 24) = true := by decide +kernel

/-- The object's text, 0 and 33 characters. -/
theorem test_WriteTextStoresPrinted_met :
    (holding [] (withObject (asked (.writeText 0x5000 10 [])))).takes (.writeText 0x5000 10 []) = true
    ∧ (holding [] (withObject (asked (.writeText 0x5000 10 (List.replicate 33 65))))).takes
        (.writeText 0x5000 10 (List.replicate 33 65)) = true
    ∧ (holding [] (withObject (asked (.writeText 0x5000 10 [])))).fieldAt 0x5000 10 = .ok (Fld.obText 0, ⟨"TEXT", .view, .text, 0⟩)
    ∧ (holding [] (withObject (asked (.writeText 0x5000 10 [])))).holdingGroup = some 0
    ∧ entryFor (Fld.obText 0) ((holding [] (withObject (asked (.writeText 0x5000 10 [])))).store.group 0).entries = none
    ∧ 0 < (holding [] (withObject (asked (.writeText 0x5000 10 [])))).poolFree := by decide

/-- No group holding, with room and with 16 changes queued; a handle of no record, a RESULT field and another field. -/
theorem test_WriteTextStoresPrinted_loose :
    (withObject (asked (.writeText 0x5000 10 [7]))).takes (.writeText 0x5000 10 [7]) = true
    ∧ (withObject (asked (.writeText 0x5000 10 [7]))).holdingGroup = none
    ∧ (withObject (asked (.writeText 0x5000 10 [7]))).store.queue = []
    ∧ 0 < (withObject (asked (.writeText 0x5000 10 [7]))).poolFree
    ∧ (withObject (asked (.writeText 0x5000 10 [7]))).tableKept = true
    ∧ 16 ≤ (queued 16 (withObject (asked (.writeText 0x5000 10 [7])))).store.queue.length
    ∧ (asked (.writeText 0x5000 1 [])).takes (.writeText 0x5000 1 []) = true
    ∧ awake.fieldAt 0x5000 1 = .error .noRecord
    ∧ awake.fieldAt 0x1000 5 = .ok (Fld.tbState, ⟨"STATE", .result, .enum 6, 0⟩)
    ∧ (withObject awake).fieldAt 0x5000 1 = .ok (⟨.object, 0, 1⟩, ⟨"X", .view, .numeric 0 1023, 0⟩) := by decide

/-- BACKGROUND; and AXIS of a live cursor. -/
theorem test_LooseViewWriteApplies_met :
    (asked (.write (BitVec.ofNat 16 (9 * 4096)) (BitVec.ofNat 8 1) 77)).takes
      (.write (BitVec.ofNat 16 (9 * 4096)) (BitVec.ofNat 8 1) 77) = true
    ∧ (asked (.write 0x9000 1 77)).tableKept = true ∧ (asked (.write 0x9000 1 77)).queueKept = true
    ∧ (asked (.write 0x9000 1 77)).store.queue = [] ∧ (asked (.write 0x9000 1 77)).holdingGroup = none
    ∧ 0 < (asked (.write 0x9000 1 77)).poolFree
    ∧ (withCursor (asked (.write 0x3000 0 1))).takes (.write 0x3000 0 1) = true
    ∧ (withCursor (asked (.write 0x3000 0 1))).tableKept = true
    ∧ (withCursor (asked (.write 0x3000 0 1))).lookup (handleOf (0x3000 : BitVec 16).toNat) = some (.cursor, 0)
    ∧ (1 : BitVec 64).toNat < 2 ∧ (0 : BitVec 64).toNat < 2 := by decide

theorem test_RestartWriteStartsAnew_met :
    (withAcq .capturing (asked (.write 0x1000 1 3))).takes (.write 0x1000 1 3) = true ∧ (withAcq .capturing (asked (.write 0x1000 1 3))).tableKept = true
    ∧ (withAcq .capturing (asked (.write 0x1000 1 3))).queueKept = true ∧ (withAcq .capturing (asked (.write 0x1000 1 3))).store.queue = []
    ∧ (withAcq .capturing (asked (.write 0x1000 1 3))).holdingGroup = none ∧ 0 < (withAcq .capturing (asked (.write 0x1000 1 3))).poolFree
    ∧ (3 : BitVec 64).toNat < 4 ∧ (withAcq .capturing (asked (.write 0x1000 1 3))).sweep.acq.capture = true
    ∧ (withAcq .capturing (asked (.write 0x1000 1 3))).sweep.settle = none
    ∧ 0 < (withAcq .capturing (asked (.write 0x1000 1 3))).get Fld.tbTrigColumn
    ∧ (setVal Fld.tbTrigColumn 0 (asked (.write 0x1000 1 3))).get Fld.tbTrigColumn = 0
    ∧ (setVal Fld.tbTrigColumn 0 (withAcq .waiting (asked (.write 0x1000 1 3)))).tableKept = true := by decide

/-- CH4's SCALE beyond its range, with the line idle, in its image as reset, and busy. -/
theorem test_RestartWriteStartsAnew_channel :
    (asked (.write (BitVec.ofNat 16 (16 * 3)) (BitVec.ofNat 8 2) 40)).takes
      (.write (BitVec.ofNat 16 (16 * 3)) (BitVec.ofNat 8 2) 40) = true
    ∧ (asked (.write 0x0030 2 40)).tableKept = true ∧ (3 : Nat) < 4 ∧ (asked (.write 0x0030 2 40)).store.queue = []
    ∧ (asked (.write 0x0030 2 40)).holdingGroup = none ∧ 0 < (asked (.write 0x0030 2 40)).poolFree
    ∧ (11 : Int) = limit 0 11 (40 : BitVec 64).toInt ∧ awake.path.image[3]? = some FeSettings.reset
    ∧ ({ awake.path with sending := none, pending := [none, none, none, none] } : SamplePath).sending = none
    ∧ ({ awake.path with sending := some (3, FeSettings.reset) } : SamplePath).sending ≠ none
    ∧ awake.source = 0 ∧ (setVal Fld.trSource 3 awake).source = 3 := by decide

/-- Objects 0 to 62 live: 63 is the lowest free. -/
def objectsTo (n : Nat) (s : State) : State :=
  (List.range n).foldl (fun s i => modRec .object i (fun r => { r with live := true }) s) s

/-- Cursor 0, and the last object of an otherwise full table; a full table; a kind that is not created and one that does
not exist; an object kind that does not exist. -/
theorem test_CreateMakesLowestFree_met :
    (asked (.create 3 0)).takes (.create 3 0) = true ∧ (asked (.create 3 0)).tableKept = true
    ∧ kindOf (3 : Byte).toNat = some .cursor ∧ kindCreated .cursor = true ∧ 0 < kindSize .cursor
    ∧ (asked (.create 3 0)).isLive .cursor 0 = false ∧ kindOf (5 : Byte).toNat = some .object ∧ (6 : Byte).toNat < 7
    ∧ kindOf (0 : Byte).toNat = some .channel ∧ kindCreated .channel = false ∧ kindOf (12 : Byte).toNat = none
    ∧ 7 ≤ (7 : Byte).toNat := by decide

theorem test_CreateMakesLowestFree_table_full :
    (objectsTo 64 (asked (.create 5 6))).takes (.create 5 6) = true
    ∧ ((List.range 64).all fun j => (objectsTo 64 (asked (.create 5 6))).isLive .object j) = true
    ∧ (objectsTo 63 (asked (.create 5 6))).isLive .object 63 = false := by decide +kernel

/-- An object; and a cursor that gates a measurement. -/
theorem test_RetireFreesInstance_met :
    (withObject (asked (.retire 0x5000))).takes (.retire 0x5000) = true ∧ (withObject (asked (.retire 0x5000))).tableKept = true
    ∧ (withObject (asked (.retire 0x5000))).lookup (handleOf (0x5000 : BitVec 16).toNat) = some (.object, 0)
    ∧ kindCreated .object = true ∧ (withObject (asked (.retire 0x5000))).store.queue = []
    ∧ (setVal (Fld.meGateA 7) 0x3000 (withMeasurement 7 (withCursor awake))).tableKept = true
    ∧ (setVal (Fld.meGateA 7) 0x3000 (withMeasurement 7 (withCursor awake))).isLive .cursor 0 = true
    ∧ (setVal (Fld.meGateA 7) 0x3000 (withMeasurement 7 (withCursor awake))).get (Fld.meGateA 7)
        = (handleCode .cursor 0 0 : Nat) := by decide

/-- A fixed kind, no kind, and a created kind with no live record. -/
theorem test_RetireFreesInstance_refused :
    (asked (.retire 0x1000)).takes (.retire 0x1000) = true ∧ kindOf ((0x1000 : BitVec 16).toNat / 4096) = some .timebase
    ∧ kindCreated .timebase = false ∧ kindOf ((0xC000 : BitVec 16).toNat / 4096) = none
    ∧ kindOf ((0x3000 : BitVec 16).toNat / 4096) = some .cursor ∧ awake.isLive .cursor 0 = false := by decide

def withGroup (g : Nat) (st : GroupState) (s : State) : State := setGroup g { state := st, entries := [], reserved := 0 } s

theorem test_GroupsOpenedAndDiscarded_met :
    (asked (.groupOpen 2)).takes (.groupOpen 2) = true ∧ (asked (.groupOpen 3)).takes (.groupOpen 3) = true
    ∧ (2 : Byte).toNat < 3 ∧ 3 ≤ (3 : Byte).toNat ∧ (asked (.groupOpen 2)).holdingGroup = none
    ∧ ((asked (.groupOpen 2)).store.group 2).state = .empty ∧ (withGroup 1 .holding (asked (.groupOpen 2))).holdingGroup ≠ none
    ∧ (asked (.groupDiscard 0)).takes (.groupDiscard 0) = true ∧ ((asked (.groupDiscard 0)).store.group 0).state = .empty
    ∧ ((withGroup 2 .launched (asked (.groupDiscard 2))).store.group 2).state = .launched
    ∧ ((withGroup 2 .holding (asked (.groupDiscard 2))).store.group 2).state = .holding ∧ listening.takes .groupStatus = true
    ∧ (setQueue [{ origin := .recall, entries := [entryOf Fld.tbScale 1], released := false }]
        (withGroup 3 .launched listening)).takes .groupStatus = true
    ∧ ((withGroup 3 .launched listening).store.group 3).state = .launched := by decide

/-- Empty and not, a queue with one place left and none, a SWEEP change in CAPTURING, a RESTART change. -/
theorem test_GroupLaunchMakesChange_met :
    (asked (.groupLaunch 0)).takes (.groupLaunch 0) = true ∧ (asked (.groupLaunch 3)).takes (.groupLaunch 3) = true
    ∧ ((asked (.groupLaunch 0)).store.group 0).state ≠ .holding
    ∧ ((holding [] (asked (.groupLaunch 0))).store.group 0).state = .holding
    ∧ ((holding [] (asked (.groupLaunch 0))).store.group 0).entries = []
    ∧ ((holding [entryOf Fld.tbScale 1] (asked (.groupLaunch 0))).store.group 0).entries ≠ []
    ∧ 16 ≤ (queued 16 (asked (.groupLaunch 0))).store.queue.length ∧ (queued 15 (asked (.groupLaunch 0))).store.queue.length < 16
    ∧ anyClass .restart [entryOf Fld.tbScale 1] = true ∧ anyClass .restart [entryOf Fld.trSlope 1] = false
    ∧ anyClass .sweep [entryOf Fld.trSlope 1] = true ∧ anyClass .sweep [entryOf Fld.diBackground 1] = false
    ∧ ((withAcq .capturing (queued 15 (asked (.groupLaunch 0)))).store.queue.all fun c => !c.released) = true
    ∧ (withAcq .capturing (asked (.groupLaunch 0))).sweep.acq = .capturing
    ∧ (asked (.groupLaunch 0)).store.queue = [] := by decide

/-! ## Acquisition -/

def withSettle (n : Nat) (s : State) : State := { s with sweep := { s.sweep with settle := some n } }

theorem test_RunTaken_met :
    listening.takes .run = true ∧ (withAcq .holdoff listening).sweep.acq ≠ .stopped ∧ listening.sweep.acq = .stopped
    ∧ (withSettle 1 listening).sweep.settle ≠ none ∧ listening.sweep.settle = none
    ∧ 0 < listening.get Fld.tbTrigColumn ∧ (setVal Fld.tbTrigColumn 0 listening).get Fld.tbTrigColumn = 0
    ∧ (setVal Fld.tbTrigColumn 0 listening).takes .run = true := by decide

theorem test_StopAndSingleTaken_met :
    listening.takes .stop = true ∧ listening.sweep.acq.capture = false ∧ listening.takes .single = true
    ∧ (withAcq .settling listening).sweep.acq = .settling ∧ (withAcq .holdoff listening).sweep.acq = .holdoff
    ∧ (withAcq .capturing listening).takes .single = true ∧ (withAcq .capturing listening).sweep.acq.capture = true
    ∧ (withAcq .capturing listening).store.queue = [] ∧ (withAcq .capturing listening).sweep.settle = none
    ∧ (withSettle 1 (withAcq .arming listening)).sweep.settle ≠ none ∧ 0 < listening.get Fld.tbTrigColumn
    ∧ listening.comb.banks[3]?.isSome = true := by decide

theorem test_TriggersInWaiting_met :
    listening.takes .force = true ∧ (withAcq .waiting listening).sweep.acq = .waiting
    ∧ (withAcq .arming listening).sweep.acq = .arming ∧ listening.sweep.acq ≠ .waiting ∧ listening.sweep.acq ≠ .arming
    ∧ (withAcq .waiting ({ awake with sweep := { awake.sweep with auto := some 1 } } : State)).sweep.auto ≠ none
    ∧ (withAcq .waiting awake).held = false := by decide

theorem test_ClearStatsClears_met :
    (withMeasurement 7 listening).takes .clearStats = true ∧ (withMeasurement 7 listening).tableKept = true
    ∧ (withMeasurement 7 listening).isLive .measurement 7 = true
    ∧ (withMeasurement 7 listening).isLive .measurement 6 = false := by decide

def withShown (ch : Nat) (s : State) : State :=
  modBanks ch (fun _ => [{ Bank.reset with role := .shown }]) s

theorem test_ColumnsReadsShownBank_met :
    (asked (.columns 3 999 1)).takes (.columns 3 999 1) = true ∧ 4 ≤ (4 : Byte).toNat ∧ (3 : Byte).toNat < 4 ∧ 1000 ≤ (1000 : BitVec 16).toNat
    ∧ (999 : BitVec 16).toNat < 1000 ∧ (1 : BitVec 16) ≠ 0 ∧ (asked (.columns 3 999 1)).shownBank 3 = none
    ∧ (withShown 3 (asked (.columns 3 999 1))).takes (.columns 3 999 1) = true
    ∧ ((withShown 3 (asked (.columns 3 999 1))).shownBank 3).isSome = true := by decide

theorem test_PanelReadSubtractsAtEnd_met :
    listening.takes .panelRead = true ∧ (answering (.panel (panelSnap awake.panel))).held = false
    ∧ (answering (.panel (panelSnap awake.panel))).link.parser = .response := by decide

/-! ## Sample path and trigger -/

def lockedPort (p : Nat) (s : State) : State := setVal (Fld.chLocked p) 1 s

theorem test_LaneLockFollowsFraming_met :
    awake.held = false ∧ awake.sweep.acq = .stopped ∧ (lockedPort 3 awake).get (Fld.chLocked (3 : Fin 4)) ≠ 0
    ∧ awake.get (Fld.chLocked (3 : Fin 4)) = 0 ∧ (setLockCount 3 63 awake).path.lockCount.getD (3 : Fin 4) 0 = 63
    ∧ awake.path.lockCount.getD (3 : Fin 4) 0 ≠ 63 := by decide

/-- The port heard from are those given. -/
def heard (got : List Bool) (s : State) : State := { s with comb := { s.comb with got := got } }

/-- One port of four; the fourth, in WAITING, in ARMING and CAPTURING at and before the last column, at the first of two places
and at the last; a fire. -/
theorem test_SampleEntersColumn_met :
    (withAcq .waiting (lockedPort 3 awake)).held = false ∧ (withAcq .waiting (lockedPort 3 awake)).sweep.acq.capture = true
    ∧ (withAcq .waiting (lockedPort 3 awake)).get (Fld.chLocked (3 : Fin 4)) ≠ 0
    ∧ (withAcq .waiting (lockedPort 3 awake)).source ≠ (3 : Fin 4) ∧ (0 : Fin 4) ≠ 3
    ∧ (withAcq .waiting (lockedPort 3 awake)).comb.got[(0 : Fin 4).val]? = some false
    ∧ (withAcq .waiting (lockedPort 3 awake)).comb.got.getD (3 : Fin 4) false = false
    ∧ (∀ q : Fin 4, (heard [true, true, true, false] awake).comb.got[q.val]? = some (decide (q ≠ 3)))
    ∧ awake.comb.place + 1 < awake.comb.cap.n
    ∧ ({ awake.comb with place := 999 } : Comb).cap.n ≤ ({ awake.comb with place := 999 } : Comb).place + 1
    ∧ awake.sweep.colCount + 1 ≠ awake.comb.cap.p ∧ awake.sweep.colCount + 1 ≠ 1000 - awake.comb.cap.p
    ∧ ({ awake.sweep with colCount := 499 } : Sweep).colCount + 1 = awake.comb.cap.p
    ∧ ({ awake.sweep with colCount := 499 } : Sweep).colCount + 1 = 1000 - awake.comb.cap.p ∧ awake.sweep.force = false
    ∧ awake.source = (0 : Fin 4) ∧ (comparator 0 512 4 512 { Trig.reset with armedRise := true }).2 = true
    ∧ (comparator 0 512 4 511 { Trig.reset with armedRise := true }).2 = false := by decide

theorem test_SampleEntersColumn_filling :
    ((captureStart awake).comb.chan 3).head?.map (·.role) = some .filling := by decide +kernel

/-- All knots at either end of their range, and raw code 1023. -/
theorem test_KnotCorrection_met :
    (∀ k, k ≤ 8 → -32 ≤ ((fun _ => -32) : Nat → Int) k ∧ ((fun _ => -32) : Nat → Int) k ≤ 31)
    ∧ (∀ k, k ≤ 8 → -32 ≤ ((fun _ => 31) : Nat → Int) k ∧ ((fun _ => 31) : Nat → Int) k ≤ 31)
    ∧ 1023 ≤ 1023 ∧ 896 % 128 = 0 := by
  refine ⟨fun _ _ => ⟨?_, ?_⟩, fun _ _ => ⟨?_, ?_⟩, ?_, ?_⟩ <;> norm_num

theorem test_GainTrim_met : 1023 ≤ 1023 := by decide

theorem test_ComparatorHalves_met : (1 : Int) ≤ 1 ∧ (1 : Int) = 1 ∧ (2 : Int) = 2 := by decide

/-- A bank whose codes lie about the level within AL_STABLE, and one far from it. -/
theorem test_LevelRoundTrip_met :
    ((0 : Int) ≤ 1023 ∧ (1023 : Int) ≤ 1023 ∧ (1 : Int) ≤ 500000 ∧ (500000 : Int) ≤ 500000
      ∧ (-10000000000 : Int) ≤ -10000000000 ∧ (-10000000000 : Int) ≤ 10000000000)
    ∧ awake.tableKept = true ∧ ({ Header.zero with validCount := 1 } : Header).validCount ≠ 0
    ∧ awake.get Fld.trLevelCode = 512 ∧ 0 ≤ awake.get Fld.trAlDelta ∧ awake.get Fld.trAlHolding = 0
    ∧ ((((512 + 520) / 2 : Nat) : Int) - 512).natAbs ≤ awake.get Fld.trAlStable
    ∧ awake.get Fld.trAlStable < ((((0 + 1023) / 2 : Nat) : Int) - 500).natAbs
    ∧ (setVal Fld.trAlHolding 1 awake).get Fld.trAlHolding ≠ 0 := by decide

def withHoldoff (n : Nat) (s : State) : State := { s with sweep := { s.sweep with holdoff := some n } }

theorem test_TimersExpire_met :
    (withSettle 1 awake).held = false ∧ (withSettle 1 awake).sweep.settle ≠ none ∧ (withSettle 1 awake).sweep.acq = .stopped
    ∧ (withAcq .settling (withSettle 1 awake)).sweep.acq = .settling
    ∧ 0 < (withAcq .settling (withSettle 1 awake)).get Fld.tbTrigColumn
    ∧ (setVal Fld.tbTrigColumn 0 (withAcq .settling (withSettle 1 awake))).get Fld.tbTrigColumn = 0
    ∧ (withAcq .holdoff (withHoldoff 1 awake)).sweep.holdoff ≠ none
    ∧ (withAcq .holdoff (withHoldoff 1 awake)).sweep.acq = .holdoff
    ∧ awake.tableKept = true ∧ awake.store.queue = [] ∧ awake.sweep.single = false ∧ awake.get Fld.trHoldoff = 0
    ∧ 0 < (setVal Fld.trHoldoff 10 awake).get Fld.trHoldoff
    ∧ ({ awake.sweep with single := true } : Sweep).single = true := by decide

def sending (pend : List (Option FeSettings)) (s : State) : State :=
  { s with path := { s.path with sending := some (3, FeSettings.reset), pending := pend } }

theorem test_FrontEndFrameLatched_met :
    (sending [none, none, none, none] awake).held = false
    ∧ (sending [none, none, none, none] awake).path.sending = some (3, FeSettings.reset)
    ∧ (3 : Nat) < 4 ∧ FeSettings.reset.coupling < 3 ∧ FeSettings.reset.gainStep < 6 ∧ FeSettings.reset.tier < 3
    ∧ FeSettings.reset.bandwidth < 2 ∧ (sending [none, none, none, none] awake).path.pending = [none, none, none, none]
    ∧ (sending [none, none, none, some FeSettings.reset] awake).path.pending[3]? = some (some FeSettings.reset)
    ∧ (sending [none, none, none, some FeSettings.reset] awake).path.pending[2]? = some none := by decide

/-! ## Measurements -/

def aMember (stamp : Nat) : Member :=
  { inst := 7, stamp := stamp, kind := 2, source := 0, gateLo := 0, gateHi := 999, start := none }

def passing (p : Pass) (s : State) : State := { s with meas := { s.meas with pass := some p } }

def aPass : Pass := { members := [aMember 0], lent := [0], exclude := false, timer := 100 }

/-- A stale member; one that is not, with a start status and without, at both ends of STAT_COUNT; no pass, none live, one live. -/
theorem test_PassCompletes_met :
    (passing aPass awake).held = false ∧ (passing aPass awake).meas.pass = some aPass ∧ aPass.lent.contains 0 = true
    ∧ awake.meas.stamps.getD (aMember 1).inst 0 ≠ (aMember 1).stamp
    ∧ awake.tableKept = true ∧ (aMember 0).inst < 8 ∧ awake.meas.sums.length = 8
    ∧ awake.meas.stamps.getD (aMember 0).inst 0 = (aMember 0).stamp
    ∧ (awake.memberResult (aMember 0)).2 = none
    ∧ ({ aMember 0 with start := some .sourceOff } : Member).start = some .sourceOff
    ∧ awake.get (Fld.meStatCount 7) = 0
    ∧ 4294967295 ≤ (setVal (Fld.meStatCount 7) 4294967295 awake).get (Fld.meStatCount 7)
    ∧ awake.meas.pass = none ∧ awake.liveOf .measurement = [] ∧ (withMeasurement 7 awake).liveOf .measurement = [7]
    ∧ awake.get (Fld.chDisplay 0) ≠ 0 ∧ awake.get (Fld.chDisplay 1) = 0 := by decide

/-- VMAX of a lent bank of one valid column short of enough is too few; of two columns it has a value. -/
theorem test_PassCompletes_value :
    ((modBanks 0 (fun _ => [{ Bank.reset with
        lends := { Lends.none with measurement := true },
        cols := List.replicate 1000 { Column.invalid with valid := true, max := 5 } }]) awake).memberResult
      { aMember 0 with gateHi := 1 }).2.isSome = true := by decide +kernel

theorem test_CrossingsApart_met : (0 : Int) ≤ 0 := by decide

/-- Below, at both ends of the window, and above. -/
theorem test_LimitTestWrites_met :
    awake.tableKept = true ∧ (7 : Nat) < 8 ∧ (setVal (Fld.meLimitMode 7) 2 awake).get (Fld.meLimitMode 7) ≠ 0
    ∧ (setVal (Fld.meLimitMode 7) 2 awake).tableKept = true
    ∧ (setVal (Fld.meLast 7) (-1) awake).get (Fld.meLast 7) < (setVal (Fld.meLast 7) (-1) awake).get (Fld.meLimitLo 7)
    ∧ awake.get (Fld.meLimitLo 7) ≤ awake.get (Fld.meLast 7) ∧ awake.get (Fld.meLast 7) ≤ awake.get (Fld.meLimitHi 7)
    ∧ (setVal (Fld.meLast 7) 1 awake).get (Fld.meLimitHi 7) < (setVal (Fld.meLast 7) 1 awake).get (Fld.meLast 7) := by
  decide

/-! ## Front panel -/

def withKey (k : Nat) (x : Key) (s : State) : State := modKey k (fun _ => x) s

/-- Key 47 after two scans that disagreed, under each kind of binding; key 40 acts. -/
theorem test_KeyScanDebounces_met :
    (withKey 47 ⟨false, 2, 15⟩ awake).held = false
    ∧ (withKey 47 ⟨false, 2, 15⟩ awake).panel.keys[47]? = some ⟨false, 2, 15⟩
    ∧ (0x800000000000 : BitVec 48).getLsbD 47 ≠ false ∧ (0 : BitVec 48).getLsbD 47 = false
    ∧ awake.panel.keys[47]? = some ⟨false, 0, 0⟩
    ∧ ((List.range 48).all fun j => j == 47 || !(0x800000000000 : BitVec 48).getLsbD j) = true
    ∧ (awake.panel.keys.all fun y => !y.pressed && y.agree == 0) = true
    ∧ (setVal (Fld.biKind 46) 0 awake).get (Fld.biKind 46) = 0 ∧ awake.get (Fld.biKind 46) = 1
    ∧ awake.setup.starting = false ∧ awake.get Fld.paLock = 0 ∧ awake.get (Fld.biKind 40) = 5
    ∧ (setVal (Fld.biTarget 46) (fieldCode Fld.paLock) (setVal (Fld.biKind 46) 3 awake)).namesField (fieldCode Fld.paLock)
        = some (Fld.paLock, ⟨"LOCK", .config, .onOff, 0⟩)
    ∧ awake.namesField (fieldCode Fld.tbMode) = some (Fld.tbMode, ⟨"MODE", .restart, .enum 4, 0⟩)
    ∧ awake.shownBank awake.source = none ∧ ((withShown 0 awake).shownBank 0).isSome = true := by decide

def panelChange (f : FieldId) (v : Int) : Change := { origin := .panel, entries := [entryOf f v], released := false }

/-- A submitted CONFIG value that passes, one that fails, the lock turned on; a queue whose newest change with the field is a
panel change, one where it is not, one that holds no such field. -/
theorem test_KeyScanDebounces_submit :
    awake.writeCheck .live Fld.paLock ⟨"LOCK", .config, .onOff, 0⟩ 1 = none
    ∧ awake.writeCheck .live Fld.paLock ⟨"LOCK", .config, .onOff, 0⟩ 2 = some .badValue
    ∧ (awake.storedValue .live Fld.paLock ⟨"LOCK", .config, .onOff, 0⟩ 1).1 = 1 ∧ awake.get Fld.paLock = 0
    ∧ (setQueue [panelChange Fld.trSlope 1] awake).store.queue = [] ++ panelChange Fld.trSlope 1 :: []
    ∧ Fld.trSlope ∈ (panelChange Fld.trSlope 1).fields ∧ Fld.trHoldoff ∉ (panelChange Fld.trSlope 1).fields
    ∧ ({ panelChange Fld.trSlope 1 with origin := .loose } : Change).origin ≠ .panel
    ∧ (setQueue [panelChange Fld.trSlope 1] awake).store.queue.length < 16
    ∧ 0 < (setQueue [panelChange Fld.trSlope 1] awake).poolFree ∧ 16 ≤ (queued 16 awake).store.queue.length
    ∧ classOf Fld.trSlope = .sweep ∧ classOf Fld.tbScale = .restart ∧ classOf (Fld.cuColor 0) = .view := by decide

def withEnc (e : Nat) (x : Enc) (s : State) : State := modEnc e (fun _ => x) s

/-- No pair yet; the last transition of a detent either way; the bounds of the interval; each kind of binding. -/
theorem test_EncoderSampleDecodes_met :
    awake.held = false ∧ awake.panel.encs[11]? = some Enc.reset ∧ Enc.reset.last = none
    ∧ (withEnc 11 { Enc.reset with last := some (false, true), phase := 3 } awake).panel.encs[11]?
        = some { Enc.reset with last := some (false, true), phase := 3 }
    ∧ phaseAfter 3 (false, true) (true, true) = 4 ∧ phaseAfter (-3) (true, false) (true, true) = -4
    ∧ (withEnc 11 { Enc.reset with since := some 79 } awake).panel.encs[11]? = some { Enc.reset with since := some 79 }
    ∧ (setVal (Fld.biAccel 59) 1 awake).get (Fld.biAccel 59) ≠ 0 ∧ awake.get (Fld.biAccel 59) = 0
    ∧ awake.get (Fld.biKind 59) = 1 ∧ (setVal (Fld.biKind 59) 2 awake).get (Fld.biKind 59) = 2
    ∧ (setVal (Fld.biKind 59) 0 awake).get (Fld.biKind 59) = 0
    ∧ awake.namesField (fieldCode Fld.tbTrigColumn) = some (Fld.tbTrigColumn, ⟨"TRIG_COLUMN", .restart, .numeric 0 999, 500⟩)
    ∧ awake.adjustRange Fld.tbTrigColumn 0 999 = (0, 999) ∧ awake.get (Fld.biScaled 59) = 0 ∧ awake.get (Fld.biWrap 59) = 0
    ∧ awake.namesField (fieldCode Fld.paLock) = some (Fld.paLock, ⟨"LOCK", .config, .onOff, 0⟩) := by decide

/-- Nothing owed; no carry; a carry under NOTIFY; one under ADJUST. -/
theorem test_PanelPeriodicEvents_met :
    awake.held = false ∧ awake.panel.retryDue = false ∧ (oweRetry awake).panel.retryDue = true
    ∧ (oweRetry awake).panelKept = true ∧ ((oweRetry awake).panel.encs.all fun x => x.carry == 0) = true
    ∧ ((List.range 12).all fun e => (oweRetry awake).actingKind (48 + e) != kindAdjust) = true
    ∧ (withEnc 11 { Enc.reset with carry := -127 } (oweRetry awake)).panel.encs[11]? = some { Enc.reset with carry := -127 }
    ∧ (setVal (Fld.biKind 59) 2 (oweRetry awake)).actingKind 59 = kindAdjust := by decide

/-- Each SOURCE of a lamp, VALUE at both ends of the sources and beyond. -/
theorem test_PanelPeriodicEvents_lamps :
    awake.get (Fld.laSource 31) = 0 ∧ (setVal (Fld.laSource 31) 7 awake).get (Fld.laSource 31) = 7
    ∧ (setVal (Fld.laValue 31) 18 (setVal (Fld.laSource 31) 7 (raise .calMissing awake))).lampCondition 31 = true
    ∧ (setVal (Fld.laValue 31) 19 (setVal (Fld.laSource 31) 7 (raise .calMissing awake))).lampCondition 31 = false
    ∧ (setVal (Fld.laValue 31) 5 (setVal (Fld.laSource 31) 7 (setFail 7 awake))).lampCondition 31 = true
    ∧ awake.namesField (fieldCode Fld.trLevelCode) = some (Fld.trLevelCode, ⟨"LEVEL_CODE", .result, .numeric 0 1023, 512⟩)
    ∧ (setVal (Fld.laSource 31) 5 (withAcq .waiting awake)).lampCondition 31 = true
    ∧ (setVal (Fld.laSource 31) 6 (setVal Fld.trLastKind 1 awake)).lampCondition 31 = true := by decide

/-! ## Screen -/

theorem test_FrameStartLatches_met :
    awake.held = false ∧ awake.rend.frame = none ∧ awake.setup.starting = false ∧ awake.get Fld.diEnable ≠ 0
    ∧ loading.rend.frame = none ∧ (withShown 0 awake).get (Fld.chDisplay 0) ≠ 0
    ∧ ((withShown 0 awake).shownBank 0).isSome = true ∧ awake.shownBank 0 = none := by decide

/-- A blank frame in progress, n of its lines composed. -/
def framed (n : Nat) (s : State) : State :=
  { s with rend := { s.rend with frame := some (latchFrame loading), nextLine := n } }

theorem test_LinesAndFrameEnd_met :
    (framed 599 awake).held = false ∧ (framed 599 awake).rend.frame = some (latchFrame loading)
    ∧ (599 : Fin 600).val = (framed 599 awake).rend.nextLine ∧ (0 : Fin 600).val = (framed 0 awake).rend.nextLine
    ∧ (1 : Fin 600).val ≠ (framed 0 awake).rend.nextLine ∧ (framed 599 awake).rend.nextLine < 600
    ∧ 600 ≤ (framed 600 awake).rend.nextLine ∧ awake.rend.frame = none
    ∧ (latchFrame loading).blank = true ∧ (latchFrame awake).blank = false ∧ (framed 600 awake).tableKept = true := by decide

theorem test_DrawOrderAndWinner_met :
    winner [⟨3, 1⟩, ⟨4, 2⟩, ⟨4, 5⟩] = some ⟨4, 2⟩ ∧ (withObject awake).isLive .object 0 = true
    ∧ (withObject awake).get (Fld.obVisible 0) ≠ 0 := by decide

/-- A MARKER whose shape is the dot. -/
def aMarker : FrameObj := { inst := 0, vals := (defaultVals .object 0).set 0 5 |>.set 9 11, text := [] }

theorem test_DrawOrderAndWinner_marker : aMarker.field 0 = 5 ∧ aMarker.field 9 = 11 := by decide

/-- One digit, and a value whose rounding carries into a fifth. -/
theorem test_FourSignificantDigits_met :
    0 < 1 ∧ (fourDigits 1).2 < 0 ∧ 0 < 99995 ∧ 0 ≤ (fourDigits 99995).2 := by decide

/-! ## Setup memory -/

theorem test_SaveAndEraseAccepted_met :
    (asked (.save 15 true)).takes (.save 15 true) = true ∧ (asked (.save 15 true)).flashCheck (15 : Byte).toNat true = none
    ∧ (asked (.save 14 false)).flashCheck (14 : Byte).toNat false = none ∧ (asked (.save 14 false)).tableKept = true
    ∧ (asked (.erase 0 false)).takes (.erase 0 false) = true ∧ (asked (.erase 0 false)).flashCheck (0 : Byte).toNat false = none
    ∧ (asked (.erase 16 false)).takes (.erase 16 false) = true
    ∧ 16 ≤ (16 : Byte).toNat ∧ (15 : Byte).toNat < 16 ∧ (asked (.save 15 true)).setup.phase = .idle
    ∧ (withPhase .wipe (asked (.save 15 true))).setup.phase ≠ .idle
    ∧ ({ asked (.save 15 true) with setup := { (asked (.save 15 true)).setup with supplyLow := true } } : State).setup.supplyLow
        = true := by decide

theorem test_ErasingSteps_met :
    (withPhase .pumpCheck awake).held = false ∧ (withPhase .pumpCheck awake).setup.phase = .pumpCheck
    ∧ (withPhase .voidMark awake).flashKept = true ∧ (withPhase .voidMark awake).setup.phase = .voidMark
    ∧ (withPhase .wipe awake).flashKept = true ∧ (withPhase .wipe awake).setup.phase = .wipe := by decide

def saving (p : Phase) (s : State) : State :=
  withPhase p { s with setup := { s.setup with op := .save, slot := 14, snapshot := [(fieldCode Fld.tbScale, 9)] } }

theorem test_ProgrammingSteps_met :
    (saving .program awake).held = false ∧ (saving .program awake).flashKept = true
    ∧ (saving .program awake).setup.phase = .program
    ∧ (saving .program awake).setup.snapshot[(saving .program awake).setup.progress]? = some (fieldCode Fld.tbScale, 9)
    ∧ (saving .sealHeader awake).setup.phase = .sealHeader ∧ (saving .sealHeader awake).flashKept = true
    ∧ (saving .sealMarker awake).setup.phase = .sealMarker ∧ (saving .sealMarker awake).flashKept = true
    ∧ (saving .sealMarker awake).setup.flash.read (slotBase (saving .sealMarker awake).setup.slot) = blankByte := by decide

/-- The first place, and bytes 1 to 15 of the header, are blank; the last entry place. -/
theorem test_ProgrammingSteps_blank :
    (saving .program awake).setup.progress < 184 ∧ 183 < 184
    ∧ (saving .program awake).setup.flash.bytes (placeBase 14 1) 11 = List.replicate 11 blankByte
    ∧ (saving .sealHeader awake).setup.flash.bytes (slotBase 14 + 1) 15 = List.replicate 15 blankByte
    ∧ (entryBytes (fieldCode Fld.tbScale, 9))[10]? = some (checkByte (beBytes 2 (fieldCode Fld.tbScale) ++ beBytes 8 9))
    ∧ (headerFields 14 1)[14]? = some 0 := by decide +kernel

/-- A directory entry of slot 14, and slot 14 chosen. -/
def withDir (st : DirState) (n : Nat) (s : State) : State :=
  setDir 14 { state := st, count := n } { s with setup := { s.setup with slot := 14 } }

/-- Slot 14 sealed over one entry. -/
def sealedSlot (s : State) : State :=
  setFlash (Memory.program (Memory.program (Memory.program [] [] (slotBase 14) [sealed]) [] (slotBase 14 + 1)
    (headerFields 14 1)) [] (placeBase 14 1) (entryBytes (fieldCode Fld.tbScale, 9))) s

def reading (p : Phase) (s : State) : State := withPhase p (withDir .valid 1 (sealedSlot s))

theorem test_RecallOpensAndRereads_met :
    (asked (.recallSetup 14)).takes (.recallSetup 14) = true ∧ 16 ≤ (16 : Byte).toNat ∧ (14 : Byte).toNat < 16 ∧ (asked (.recallSetup 14)).setup.phase = .idle
    ∧ ((asked (.recallSetup 14)).store.group 3).state = .empty ∧ ((withGroup 3 .launched (asked (.recallSetup 14))).store.group 3).state ≠ .empty
    ∧ ((withDir .erased 0 (asked (.recallSetup 14))).setup.dirAt (14 : Byte).toNat).state = .erased
    ∧ ((withDir .bad 0 (asked (.recallSetup 14))).setup.dirAt (14 : Byte).toNat).state = .bad
    ∧ ((withDir .valid 139 (asked (.recallSetup 14))).setup.dirAt (14 : Byte).toNat).state = .valid
    ∧ ((withDir .valid 139 (asked (.recallSetup 14))).setup.dirAt (14 : Byte).toNat).count ≤ (withDir .valid 139 (asked (.recallSetup 14))).poolFree
    ∧ (14 : Byte) ≠ 15 := by decide

theorem test_RecallOpensAndRereads_pool :
    (holding (List.replicate 54 (entryOf Fld.tbMode 0)) (withDir .valid 139 (asked (.recallSetup 14)))).poolFree
      < ((holding (List.replicate 54 (entryOf Fld.tbMode 0)) (withDir .valid 139 (asked (.recallSetup 14)))).setup.dirAt
          (14 : Byte).toNat).count := by decide +kernel

/-- A header that agrees, one of another slot's kind, one that counts 0, and one that cannot be read. -/
theorem test_HeaderReread_met :
    (reading .readHeader awake).held = false ∧ (reading .readHeader awake).setup.starting = false
    ∧ (reading .readHeader awake).setup.phase = .readHeader
    ∧ readHeader ((reading .readHeader awake).setup.flash.bytesAsRead [] (slotBase 14) 16)
        = some { marker := sealed, kind := 1, count := 1, format := 1 }
    ∧ slotKind 14 = 1 ∧ slotKind 15 = 2 ∧ ((reading .readHeader awake).setup.dirAt 14).count = 1
    ∧ readHeader ([sealed] ++ headerFields 14 0) = some { marker := sealed, kind := 1, count := 0, format := 1 }
    ∧ readHeader ((withPhase .readHeader (withDir .valid 1 awake)).setup.flash.bytesAsRead [] (slotBase 14) 16) = none := by
  decide +kernel

/-- The start-up load reads the header of slot 14, and of slot 15, with nothing in the flash. -/
theorem test_HeaderReread_starting :
    (withPhase .readHeader (withDir .valid 1 loading)).held = false
    ∧ (withPhase .readHeader (withDir .valid 1 loading)).setup.starting = true
    ∧ (withPhase .readHeader (withDir .valid 1 loading)).setup.phase = .readHeader
    ∧ (withPhase .readHeader (withDir .valid 1 loading)).setup.slot ≠ 15
    ∧ readHeader (loading.setup.flash.bytesAsRead [] (slotBase 14) 16) = none
    ∧ readHeader (loading.setup.flash.bytesAsRead [] (slotBase 15) 16) = none
    ∧ (setDir 0 { state := .valid, count := 1 } loading).setup.dirAt 0 = { state := .valid, count := 1 }
    ∧ (loading.setup.dirAt 0).state ≠ .valid := by decide +kernel

/-- A clean entry of the snapshot, a corrected one, one whose field does not exist, one not above the last taken, and an
uncorrectable one. -/
theorem test_EntriesReadAndLaunched_met :
    (withPhase .readEntries (withDir .valid 2 (sealedSlot awake))).setup.phase = .readEntries
    ∧ (withPhase .readEntries (withDir .valid 2 (sealedSlot awake))).setup.place + 1
        < ((withPhase .readEntries (withDir .valid 2 (sealedSlot awake))).setup.dirAt 14).count
    ∧ testCheck (((sealedSlot awake).setup.flash.bytesAsRead [] (placeBase 14 1) 11).take 10)
        (((sealedSlot awake).setup.flash.bytesAsRead [] (placeBase 14 1) 11).getD 10 0)
        = .clean ((entryBytes (fieldCode Fld.tbScale, 9)).take 10)
    ∧ fieldOf (beNat (((entryBytes (fieldCode Fld.tbScale, 9)).take 10).take 2)) = some Fld.tbScale
    ∧ inSnapshot 14 Fld.tbScale = true ∧ awake.setup.lastTaken = none
    ∧ testCheck (((sealedSlot awake).setup.flash.bytesAsRead [(placeBase 14 1, 1)] (placeBase 14 1) 11).take 10)
        (((sealedSlot awake).setup.flash.bytesAsRead [(placeBase 14 1, 1)] (placeBase 14 1) 11).getD 10 0)
        = .corrected ((entryBytes (fieldCode Fld.tbScale, 9)).take 10)
    ∧ beNat (((entryBytes (fieldCode Fld.tbScale, 9)).take 10).take 2) ≤ fieldCode Fld.tbScale
    ∧ inSnapshot 14 Fld.paLock = false ∧ inSnapshot 15 (Fld.chGainTrim 3) = true
    ∧ testCheck (0xFC :: List.replicate 9 0xFF) 0xFF = .uncorrectable
    ∧ fieldOf (beNat (((entryBytes (0x6000, 9)).take 10).take 2)) = none := by decide +kernel

theorem test_Group3LaunchRetry_met :
    (withPhase .launchWait awake).held = false ∧ (withPhase .launchWait awake).setup.phase = .launchWait
    ∧ ((withPhase .launchWait awake).store.group 3).entries = []
    ∧ ((setGroup 3 { state := .holding, entries := [entryOf Fld.tbScale 9], reserved := 0 } awake).store.group 3).entries ≠ []
    ∧ 16 ≤ (queued 16 awake).store.queue.length ∧ (queued 15 awake).store.queue.length < 16
    ∧ awake.setup.slot ≠ 15 ∧ awake.setup.starting = false ∧ awake.tableKept = true
    ∧ ({ awake.setup with slot := 15, calBuf := [(Fld.chGainTrim 3, 0)] } : Setup).slot = 15
    ∧ ([(Fld.chGainTrim 3, (0 : Int))].map (·.1)).Pairwise (· ≠ ·)
    ∧ touches [entryOf (Fld.cuColor 0) 1] .cursor 0 = true ∧ (withCursor awake).isLive .cursor 0 = true := by decide

/-- The start-up load at the end of slot 15's reading, and of slot 0's with no entry and with one. -/
theorem test_EntriesReadAndLaunched_starting :
    ({ loading.setup with slot := 15, calBuf := [(Fld.chGainTrim 3, 0)] } : Setup).starting = true ∧ loading.tableKept = true
    ∧ inSnapshot 15 (Fld.chGainTrim 3) = true ∧ loading.setup.slot ≠ 15 ∧ (loading.store.group 3).entries = []
    ∧ ((setGroup 3 { state := .holding, entries := [entryOf Fld.tbScale 9], reserved := 0 } loading).store.group 3).entries ≠ []
    ∧ loading.store.queue.length < 16 := by decide

theorem test_AbortCutsOff_met :
    listening.takes .abort = true ∧ listening.setup.phase = .idle ∧ (withPhase .program listening).setup.phase ≠ .idle
    ∧ (withPhase .launchWait listening).setup.phase = .launchWait ∧ listening.setup.slot ≠ 15
    ∧ (withPhase .wipe listening).setup.phase = .wipe ∧ (withPhase .voidMark listening).flashKept = true
    ∧ (withPhase .program listening).setup.progress = 0 ∧ (withPhase .program listening).setup.attempts = 0
    ∧ 0 < ({ (withPhase .program listening).setup with attempts := 1 } : Setup).attempts := by decide

/-- The first program step of a save is due: for an ABORT, for a SUPPLY_FALL, for a SETUP_STATUS; with the entry BAD it is not. -/
theorem test_firstStepDue_met :
    (saving .program listening).firstStepDue ∧ (saving .program listening).takes .abort = true
    ∧ (saving .program listening).hears .setupStatus = true ∧ (saving .program listening).setup.phase.writesFlash = true
    ∧ ¬ (setDirState 14 .bad (saving .program listening)).firstStepDue
    ∧ (setDirState 14 .bad (saving .program listening)).hears .setupStatus = true := by
  unfold State.firstStepDue; decide

/-- The first and the last data bit; the bounds of an entry's value. -/
theorem test_CheckCorrectsOneBit_met :
    (List.replicate 10 (0 : Byte)).length = 10 ∧ 0 < 80 ∧ 79 < 80 ∧ (Fld.obForm 63).inst < 64 ∧ (Fld.obForm 63).num < 32
    ∧ (-9223372036854775808 : Int) ≤ 9223372036854775807 := by decide

/-! ## Invariants -/

theorem test_StepKeeps_met :
    awake.tableKept = true ∧ awake.queueKept = true ∧ awake.panelKept = true ∧ awake.flashKept = true
    ∧ step awake = .next awake := by
  refine ⟨by decide, by decide, by decide, by decide, rfl⟩

/-! ## Single commands, their results worked by hand from the rules -/

def response (o : Out) : List Byte := match o with
  | .next t => t.link.response
  | _ => []

/-- R183, R189: part number 0x0440, revision 1, cause POWER, no start-up results. -/
theorem test_identify_bytes : response (exec .identify listening) = [0x00, 0x04, 0x40, 0x01, 0x00, 0x00, 0x00] := by
  decide

/-- R189: nothing pending, and 255 for no source. -/
theorem test_noticeRead_none : response (exec .noticeRead listening) = [0x00, 0x00, 0x00, 0x00, 0x00, 0xFF] := by decide

/-- R5: the TIMEBASE.SCALE default 9, not pending. -/
theorem test_read_default :
    response (exec (.read 0x1000 0 0) (asked (.read 0x1000 0 0))) = [0x00, 0x00, 0, 0, 0, 0, 0, 0, 0, 9] := by decide

/-- R2: TIMEBASE has one instance; R3: it has no field 9. -/
theorem test_read_no_record : response (exec (.read 0x1010 0 0) (asked (.read 0x1010 0 0))) = [0x04] := by decide
theorem test_read_no_field : response (exec (.read 0x1000 9 0) (asked (.read 0x1000 9 0))) = [0x05] := by decide

/-- R7: a RESULT field is read-only; an enumeration takes no value of its own making. -/
theorem test_write_result : response (exec (.write 0x1000 5 0) (asked (.write 0x1000 5 0))) = [0x06] := by decide
theorem test_write_enum_beyond : response (exec (.write 0x1000 1 4) (asked (.write 0x1000 1 4))) = [0x07] := by decide

/-- R8: DISPLAY.BACKGROUND is limited to 31, with CLAMPED. -/
theorem test_write_clamped :
    response (exec (.write 0x9000 1 77) (asked (.write 0x9000 1 77))) = [0x01, 0, 0, 0, 0, 0, 0, 0, 31] := by decide +kernel

/-- R12: cursor 0's handle, of kind 3; a TIMEBASE cannot be created. -/
theorem test_create_cursor : response (exec (.create 3 0) (asked (.create 3 0))) = [0x00, 0x30, 0x00] := by decide
theorem test_create_timebase : response (exec (.create 1 0) (asked (.create 1 0))) = [0x07] := by decide

/-- R82: FORCE in STOPPED is WRONG_STATE; R169: ABORT in IDLE is. -/
theorem test_force_stopped : response (exec .force listening) = [0x0D] := by decide
theorem test_abort_idle : response (exec .abort listening) = [0x0D] := by decide

/-- R13: a fixed record is not retired; R9: WRITE_TEXT of another field. -/
theorem test_retire_fixed : response (exec (.retire 0x1000) (asked (.retire 0x1000))) = [0x07] := by decide
theorem test_writeText_other_field :
    response (exec (.writeText 0x1000 1 []) (asked (.writeText 0x1000 1 []))) = [0x07] := by decide

/-- R119: ADJUST on a key; R128: EQUALS with no FIELD. -/
theorem test_write_adjust_on_key : response (exec (.write 0x62F0 0 2) (asked (.write 0x62F0 0 2))) = [0x07] := by decide
theorem test_write_lamp_equals : response (exec (.write 0x71F0 0 2) (asked (.write 0x71F0 0 2))) = [0x08] := by decide

/-- R164: slot 15 without CAL_EN; slot 16. -/
theorem test_save_protected : response (exec (.save 15 false) (asked (.save 15 false))) = [0x0E] := by decide
theorem test_save_no_slot : response (exec (.save 16 true) (asked (.save 16 true))) = [0x07] := by decide

/-- R170: an ERASED slot. -/
theorem test_recall_empty : response (exec (.recallSetup 0) (asked (.recallSetup 0))) = [0x0F] := by decide

/-- R63: no bank is shown after reset. -/
theorem test_columns_no_data : response (exec (.columns 0 0 1000) (asked (.columns 0 0 1000))) = [0x12] := by decide

/-- R166: once the first program step has begun the entry stays BAD through a report; R169: an ABORT then leaves it BAD. -/
theorem test_setupStatus_begun :
    after (exec .setupStatus (setDirState 14 .bad (saving .program listening))) (fun t =>
      (t.setup.dirAt 14).state == .bad && t.link.response[39]? == some 0x02) = true := by decide
theorem test_abort_begun :
    after (exec .abort (setDirState 14 .bad (saving .program listening))) (fun t => (t.setup.dirAt 14).state == .bad) = true := by
  decide

/-- R13, log 40: a handle of a fixed kind that R2 calls NO_RECORD too (instance 3, generation 1). -/
theorem test_retire_fixed_unnamed : response (exec (.retire 0x1031) (asked (.retire 0x1031))) = [0x07] := by decide

/-- R166, R191: a blank place takes the entry whole; one bit stuck at one spoils the read-back. -/
theorem test_entryProgram_blank :
    after (exec (.entryProgram []) (saving .program awake)) (fun t =>
      t.setup.flash.bytes (placeBase 14 1) 11 == entryBytes (fieldCode Fld.tbScale, 9) && t.setup.phase == .sealHeader) = true := by
  decide +kernel
theorem test_entryProgram_stuck :
    after (exec (.entryProgram [(placeBase 14 1, 0x80)]) (saving .program awake)) (fun t =>
      t.setup.attempts == 1 && t.setup.phase == .program) = true := by decide +kernel

/-- R32: channel 3, DC, HIGH range, gain step 0, tier 1, FULL, offset 0. -/
theorem test_feFrame_bits :
    after (exec .feFrameLatch (sending [none, none, none, none] awake)) (fun t => t.path.latched == some 0xC84000000000)
      = true := by decide

/-- R124: off to on, on to off; R173, R25, log 41: an AL_STABLE beyond 100 bounds AL_WIDE as 100. -/
theorem test_toggle_steps :
    steppedValue true .onOff 1 0 = 1 ∧ steppedValue true .onOff (-1) 1 = 0 ∧ steppedValue true .onOff 1 37 = 0 := by decide
theorem test_alWide_bound : (awake.adjustRange Fld.trAlWide 0 200) = (4, 200) ∧ limitedTo Fld.trAlStable 5000 = 100 := by decide

/-- R113: the third scan that disagrees; R116: a press count stops at 15. -/
theorem test_keyScan_third :
    after (exec (.keyScan 1) (withKey 0 ⟨false, 2, 15⟩ awake)) (fun t => t.panel.keys[0]? == some ⟨true, 0, 15⟩) = true := by
  decide +kernel

/-- R114: the fourth transition of a clockwise detent brings the pair home, one detent. -/
theorem test_encoder_detent :
    after (exec (.encoderSample 0xFFFFFF) (withEnc 11 { Enc.reset with last := some (false, true), phase := 3 } awake))
      (fun t => t.panel.encs[11]? == some { last := some (true, true), phase := 0, since := some 0, pending := 1, carry := 0 })
      = true := by decide +kernel

/-- R40: halfway between a knot of 10 and a knot of 20 the correction is 15. -/
theorem test_knotted_halfway : knotted (fun k => if k = 0 then 10 else 20) 64 = 79 := by decide

/-- R159, R160: 1.234567 V; and 99.995 mV, which rounds up into the next digit. -/
theorem test_format_volts : formatValue ⟨1234567, -6, unitV⟩ = [49, 46, 50, 51, 53, 32, 86] := by decide +kernel
theorem test_format_carry : formatValue ⟨-99995, -6, unitV⟩ = [45, 49, 48, 48, 46, 48, 32, 109, 86] := by decide +kernel

/-- R102, R104: ramps that cross 500 half-way between columns 1 and 2, and again 4 columns later. -/
theorem test_crossings_ramp :
    crossings true 500 64 false 0 [some 0, some 400, some 600, some 1000, some 0, some 400, some 600] = [24, 88] := by
  decide +kernel

end Sys2Proof.Tests
end

section
/-! SUPPORT. The sample path. The arithmetic of the correction (R40, R41), lane lock (R36, R37), and the front-end line
(R32, R33). -/

namespace Sys2Proof.Machine

variable {s : State}

/-! ## Correction (R40, R41) -/

/-- The interpolated correction between two knots stays within the knots' range (R40). -/
theorem interpolation_bounds {a b f : Int} (ha : -32 ≤ a ∧ a ≤ 31) (hb : -32 ≤ b ∧ b ≤ 31) (hf : 0 ≤ f ∧ f ≤ 128) :
    -32 ≤ a + ((b - a) * f + 64) / 128 ∧ a + ((b - a) * f + 64) / 128 ≤ 31 := by
  have weights : 128 * a + (b - a) * f = a * (128 - f) + b * f := by ring
  have low : -32 * 128 ≤ a * (128 - f) + b * f := by nlinarith
  have high : a * (128 - f) + b * f ≤ 31 * 128 := by nlinarith
  omega

/-- The knot correction keeps r1 within 32 below and 31 above the raw code (R40). -/
theorem knotted_bounds {knot : Nat → Int} {r : Nat} (hr : r ≤ 1023) (hk : ∀ k, k ≤ 8 → -32 ≤ knot k ∧ knot k ≤ 31) :
    -32 ≤ knotted knot r - r ∧ knotted knot r - r ≤ 31 := by
  have h := interpolation_bounds (hk (r / 128) (by omega)) (hk (r / 128 + 1) (by omega))
    (f := (r % 128 : Nat)) (by omega)
  simp only [knotted]
  omega

/-- At a knot the correction is the knot (R40). -/
theorem knotted_at_knot {knot : Nat → Int} {r : Nat} (h : r % 128 = 0) : knotted knot r = r + knot (r / 128) := by
  simp [knotted, h]

theorem knotted_zero (r : Nat) : knotted (fun _ => 0) r = r := by simp [knotted]

theorem limit_bounds {lo hi v : Int} (h : lo ≤ hi) : lo ≤ limit lo hi v ∧ limit lo hi v ≤ hi := by
  unfold limit; split <;> [skip; split] <;> omega

theorem limit_of_mem {lo hi v : Int} (h1 : lo ≤ v) (h2 : v ≤ hi) : limit lo hi v = v := by
  unfold limit; split <;> [skip; split] <;> omega

/-- The gain trim as a number: its limit keeps it from going below 0 (R41). -/
theorem trimmed_eq_limit (g r1 : Int) :
    (trimmed g r1 : Int) = limit 0 1023 (512 + ((r1 - 512) * g + 16384) / 32768) :=
  Int.toNat_of_nonneg (limit_bounds (by decide)).1

theorem trimmed_le (g r1 : Int) : trimmed g r1 ≤ 1023 := by
  have h : (trimmed g r1 : Int) ≤ 1023 := trimmed_eq_limit g r1 ▸ (limit_bounds (by decide)).2
  omega

/-- GAIN_TRIM 32768 leaves r1 as it is, but for the limit (R41). -/
theorem trimmed_unity (r1 : Int) : (trimmed 32768 r1 : Int) = limit 0 1023 r1 := by
  rw [trimmed_eq_limit]
  congr 1
  omega

/-! ## Lane lock (R36, R37) -/

theorem lockWord_locked_framed {p : Nat} (h : s.get (Fld.chLocked p) ≠ 0) : lockWord p true s = (s, true) := by
  simp [lockWord, isOn, h]

theorem lockWord_locked_unframed {p : Nat} (h : s.get (Fld.chLocked p) ≠ 0) :
    lockWord p false s = (raise .laneLost (setVal (Fld.chLocked p) 0 (setLockCount p 0 s)), false) := by
  simp [lockWord, isOn, h]

theorem lockWord_unlocked_framed {p : Nat} (h : s.get (Fld.chLocked p) = 0) :
    lockWord p true s =
      (if s.path.lockCount.getD p 0 = 63 then setVal (Fld.chLocked p) 1 (setLockCount p 64 s)
        else setLockCount p (s.path.lockCount.getD p 0 + 1) s, false) := by
  unfold lockWord
  generalize s.path.lockCount.getD p 0 = n
  by_cases hn : n = 63 <;> simp [isOn, h, hn]

theorem lockWord_unlocked_unframed {p : Nat} (h : s.get (Fld.chLocked p) = 0) :
    lockWord p false s = (setLockCount p 0 s, false) := by
  simp [lockWord, isOn, h]

@[simp] theorem lockWord_sweep (p : Nat) (framed : Bool) : (lockWord p framed s).1.sweep = s.sweep := by
  unfold lockWord
  dsimp only
  repeat' split
  all_goals rfl

/-- The comparator does not run in STOPPED (R70). -/
theorem compareSample_stopped (item : Option Sample) (h : s.sweep.acq = .stopped) : compareSample item s = s := by
  cases item <;> simp [compareSample, h]

/-- In STOPPED a word moves nothing but the lane lock (R36, R46, R70). -/
theorem sampleWord_stopped (p : Nat) (framed : Bool) (r : Nat) (h : s.sweep.acq = .stopped) :
    sampleWord p framed r s = (lockWord p framed s).1 := by
  simp [sampleWord, h, Acq.capture, compareSample_stopped]

theorem exec_sampleWord (p : Fin 4) (framed : Bool) (code : BitVec 10) (h : s.held = false) :
    exec (.sampleWord p framed code) s = .next (sampleWord p framed code.toNat s) := awake_running h

/-! ## The front-end line (R32, R33) -/

/-- A concatenation read as a number: the left part above the right one. -/
theorem toNat_append_eq {m n : Nat} (x : BitVec m) (y : BitVec n) : (x ++ y).toNat = x.toNat * 2 ^ n + y.toNat := by
  rw [BitVec.toNat_append, ← Nat.shiftLeft_add_eq_or_of_lt y.isLt, Nat.shiftLeft_eq]

/-- The 48-bit frame as a number, field by field from the most significant bit (R32). -/
theorem feFrame_toNat (ch : Nat) (f : FeSettings) (hch : ch < 4) (hc : f.coupling < 3) (hg : f.gainStep < 6)
    (ht : f.tier < 3) (hb : f.bandwidth < 2) :
    (feFrame ch f).toNat = ch * 2 ^ 46 + f.coupling * 2 ^ 44 + f.highRange.toNat * 2 ^ 43 + f.gainStep * 2 ^ 40
      + f.tier * 2 ^ 38 + f.bandwidth * 2 ^ 37 + (BitVec.ofInt 32 f.offset).toNat := by
  have h0 : (0 : BitVec 5).toNat = 0 := rfl
  simp only [feFrame, toNat_append_eq, BitVec.toNat_ofNat, BitVec.toNat_ofBool, h0]
  rw [Nat.mod_eq_of_lt (show ch < 2 ^ 2 by omega), Nat.mod_eq_of_lt (show f.coupling < 2 ^ 2 by omega),
    Nat.mod_eq_of_lt (show f.gainStep < 2 ^ 3 by omega), Nat.mod_eq_of_lt (show f.tier < 2 ^ 2 by omega),
    Nat.mod_eq_of_lt (show f.bandwidth < 2 ^ 1 by omega)]
  ring

theorem feFrame_range (ch : Nat) (f : FeSettings) : (feFrame ch f).getLsbD 43 = f.highRange := by
  simp only [feFrame, BitVec.getLsbD_append]
  simp

/-- With nothing pending an idle line stays idle (R33). -/
theorem feStart_none (hs : s.path.sending = none) (hp : ∀ c, c < 4 → s.path.pending.getD c none = none) :
    feStart s = s := by
  have hfind : [0, 1, 2, 3].find? (fun ch => (s.path.pending.getD ch none).isSome) = none := by
    rw [List.find?_eq_none]
    intro c hc
    have hc4 : c < 4 := List.mem_range.1 hc
    rw [hp c hc4]
    simp
  simp only [feStart, hs, hfind]

/-- An idle line starts the frame of the lowest-numbered pending channel (R33). -/
theorem feStart_lowest {c : Nat} {g : FeSettings} (hs : s.path.sending = none) (hc : c < 4)
    (hg : s.path.pending[c]? = some (some g)) (hlow : ∀ d, d < c → s.path.pending[d]? = some none) :
    feStart s = { s with path := { s.path with sending := some (c, g), pending := s.path.pending.set c none } } := by
  have hfind : [0, 1, 2, 3].find? (fun ch => (s.path.pending.getD ch none).isSome) = some c := by
    rw [List.find?_eq_some_iff_getElem]
    refine ⟨by simp [List.getD_eq_getElem?_getD, hg], c, by simpa using hc, by interval_cases c <;> rfl, fun j hj => ?_⟩
    have : [0, 1, 2, 3][j]'(by simp; omega) = j := by
      have : j < 4 := by omega
      interval_cases j <;> rfl
    simp [this, List.getD_eq_getElem?_getD, hlow j hj]
  simp only [feStart, hs, hfind]
  simp [List.getD_eq_getElem?_getD, hg]

/-- The state with the frame being sent latched and the line idle (R33). -/
def State.frameTaken (s : State) (ch : Nat) (f : FeSettings) : State :=
  { s with path := { s.path with latched := some (feFrame ch f), sending := none } }

theorem exec_feFrameLatch {ch : Nat} {f : FeSettings} (hh : s.held = false) (hs : s.path.sending = some (ch, f)) :
    exec .feFrameLatch s = .next (feStart (s.frameTaken ch f)) := by
  simp only [exec, execFeFrameLatch, awake_running hh, hs, State.frameTaken]

/-- Starting a frame moves the line and its pending set alone (R33). -/
theorem feStart_eq : feStart s = { s with path := { s.path with
    sending := (feStart s).path.sending, pending := (feStart s).path.pending } } := by
  unfold feStart
  split
  · rfl
  · split
    · rfl
    · split <;> rfl

end Sys2Proof.Machine

/-! ## The statements -/

open Sys2Proof Sys2Proof.Machine

/-- Settles O33: the weights of the two knots add up to 128, so their mean lies between the knots. -/
theorem knotCorrection : Obligations.KnotCorrection := by
  refine ⟨fun knot r hr hk => ?_, fun s ch r => rfl⟩
  obtain ⟨low, high⟩ := knotted_bounds hr hk
  exact ⟨rfl, knotted_at_knot, low, high, by omega, by omega⟩

/-- Settles O34: the divisor is positive, so the model's quotient is the floor. -/
theorem gainTrim : Obligations.GainTrim := by
  refine ⟨fun g r1 => ⟨?_, trimmed_le g r1⟩, trimmed_unity, fun r hr => ?_, by decide, by decide⟩
  · rw [trimmed_eq_limit, Int.fdiv_eq_ediv_of_nonneg _ (by decide)]
  · have h := trimmed_unity r
    rw [limit_of_mem (by omega) (by omega)] at h
    rw [knotted_zero]
    exact_mod_cast h

/-- Settles O31: in STOPPED a word is its lane-lock step, by R36's rows. -/
theorem laneLockFollowsFraming : Obligations.LaneLockFollowsFraming := by
  intro s p framed code hh hstop
  rw [exec_sampleWord p framed code hh, sampleWord_stopped _ _ _ hstop]
  refine ⟨?_, ?_, ?_, ?_, ?_⟩
  · rintro hl rfl; rw [lockWord_locked_framed hl]
  · rintro hl rfl; rw [lockWord_locked_unframed hl]
  · rintro hl rfl hn; rw [lockWord_unlocked_framed hl, if_pos hn]
  · rintro hl rfl hn; rw [lockWord_unlocked_framed hl, if_neg hn]
  · rintro hl rfl; rw [lockWord_unlocked_unframed hl]

/-- Settles O38: the frame read as a number gives each field by its place, and the idle line starts the next frame. -/
theorem frontEndFrameLatched : Obligations.FrontEndFrameLatched := by
  intro s ch f hh hs hch hc hg ht hb
  have hw := feFrame_toNat ch f hch hc hg ht hb
  have hoff := (BitVec.ofInt 32 f.offset).isLt
  have hrange : f.highRange.toNat ≤ 1 := Bool.toNat_le _
  refine ⟨_, feFrame ch f, exec_feFrameLatch hh hs, ?_, ?_, ?_, feFrame_range ch f, ?_, ?_, ?_, ?_, ?_, ?_, ?_, ?_⟩
  · rw [feStart_eq]; rfl
  iterate 7 omega
  · intro hp
    rw [feStart_none rfl (fun c hc => ?_)]
    · rfl
    · change s.path.pending.getD c none = none
      rw [hp]
      interval_cases c <;> rfl
  · intro c g hc hg hlow
    rw [feStart_lowest (s := s.frameTaken ch f) rfl hc hg hlow]
    refine ⟨rfl, ?_⟩
    have hlen : c < s.path.pending.length := (List.getElem?_eq_some_iff.1 hg).1
    exact List.getElem?_set_self hlen
  · rw [feStart_eq]
    exact ⟨rfl, rfl, rfl, rfl, rfl, rfl, rfl, rfl, rfl, rfl, rfl, rfl, rfl⟩

end

section
/-! SUPPORT. Sample words in a capture: what an item, the end of a sample period, a completed column and a fire of the
comparator do (R46, R52, R58, R69, R73, R75, R76). -/

namespace Sys2Proof.Machine

variable {s : State}

/-! ## Channels one after the other -/

theorem chan_modFilling_same (ch : Nat) (g : Bank → Bank) :
    (modFilling ch g s).comb.chan ch = modFirst (fun b => b.role == .filling) g (s.comb.chan ch) := by
  simp only [modFilling, modBanks_comb, Comb.chan, List.getD_eq_getElem?_getD, List.getElem?_modify_eq]
  cases s.comb.banks[ch]? <;> rfl

theorem chan_modFilling_other {ch c : Nat} (g : Bank → Bank) (h : c ≠ ch) :
    (modFilling c g s).comb.chan ch = s.comb.chan ch := by
  simp only [modFilling, modBanks_comb, Comb.chan, List.getD_eq_getElem?_getD, List.getElem?_modify, if_neg h, id_map']

theorem shownBank_modFilling_other {ch c : Nat} (g : Bank → Bank) (h : c ≠ ch) :
    (modFilling c g s).shownBank ch = s.shownBank ch := congrArg (bankOf .shown) (chan_modFilling_other g h)

/-- A change to each channel's filling bank that depends on the other channels in nothing reaches a channel once. -/
theorem chan_forChannels_modFilling (g : Nat → State → Bank → Bank) {ch : Nat} (hch : ch < 4)
    (hg : ∀ c u f, c ≠ ch → g ch (modFilling c f u) = g ch u) :
    (forChannels (fun c u => modFilling c (g c u) u) s).comb.chan ch
      = modFirst (fun b => b.role == .filling) (g ch s) (s.comb.chan ch) := by
  interval_cases ch <;> simp [forChannels, chan_modFilling_same, chan_modFilling_other, hg]

/-- The bank of a role, changed by what keeps its role. -/
theorem bankOf_modFirst {r : Role} {g : Bank → Bank} {bs : List Bank} {b : Bank} (h : bankOf r bs = some b)
    (hg : (g b).role = b.role) : bankOf r (modFirst (fun b => b.role == r) g bs) = some (g b) := by
  induction bs with
  | nil => cases h
  | cons x bs ih =>
    unfold bankOf at h ih ⊢
    by_cases hx : (x.role == r) = true
    · obtain rfl : x = b := by simpa [List.find?_cons, hx] using h
      simp [modFirst, hx, hg]
    · simp only [Bool.not_eq_true] at hx
      rw [List.find?_cons, hx] at h
      simpa [modFirst, hx, List.find?_cons] using ih h

/-! ## A completed column (R46, R52) -/

/-- The record that a channel's accumulator completes for its filling bank, blended with the shown bank once the trigger is
known (R46, R52, R54). `s` is the state the completion begins in, `u` the state the channel's turn finds. -/
def State.completedColumn (s u : State) (ch : Nat) (b : Bank) : Column :=
  if s.comb.cap.mode = .average ∧ u.sweep.acq = .capturing then
    blendColumn (averageShift s.avgDepth s.comb.cap.avgShift)
      (match u.shownBank ch with
        | some x => x.col ((s.comb.slot + 1000 - b.origin) % 1000)
        | none => Column.invalid)
      (columnOf s.comb.cap.mode s.comb.cap.m (u.comb.accs.getD ch Acc.clear))
  else columnOf s.comb.cap.mode s.comb.cap.m (u.comb.accs.getD ch Acc.clear)

/-- A filling bank with the completed column at its slot. -/
def State.completedBank (s u : State) (ch : Nat) (b : Bank) : Bank :=
  { b with cols := b.cols.set s.comb.slot (s.completedColumn u ch b) }

theorem completedBank_modFilling {u : State} {ch c : Nat} (f : Bank → Bank) (h : c ≠ ch) :
    s.completedBank (modFilling c f u) ch = s.completedBank u ch := by
  funext b
  unfold State.completedBank State.completedColumn
  rw [shownBank_modFilling_other f h]
  rfl

/-- A column completion at the combiner: one change for each channel, and a clean start at the next slot. -/
theorem combComplete_comb : (combComplete s).comb =
    { (forChannels (fun c u => modFilling c (s.completedBank u c) u) s).comb with
      slot := (s.comb.slot + 1) % 1000, place := 0, accs := List.replicate 4 Acc.clear } := rfl

@[simp] theorem combComplete_sweep : (combComplete s).sweep = s.sweep := rfl
@[simp] theorem combComplete_store : (combComplete s).store = s.store := rfl
@[simp] theorem combComplete_slot : (combComplete s).comb.slot = (s.comb.slot + 1) % 1000 := rfl
@[simp] theorem combComplete_place : (combComplete s).comb.place = 0 := rfl
@[simp] theorem combComplete_accs : (combComplete s).comb.accs = List.replicate 4 Acc.clear := rfl
@[simp] theorem combComplete_cap : (combComplete s).comb.cap = s.comb.cap := rfl

theorem combComplete_filling {ch : Nat} {b : Bank} (hb : bankOf .filling (s.comb.chan ch) = some b) (hch : ch < 4) :
    bankOf .filling ((combComplete s).comb.chan ch) = some (s.completedBank s ch b) := by
  have hchan : (combComplete s).comb.chan ch
      = modFirst (fun b => b.role == .filling) (s.completedBank s ch) (s.comb.chan ch) := by
    rw [combComplete_comb]
    exact chan_forChannels_modFilling (fun c u => s.completedBank u c) hch fun _ _ f h => completedBank_modFilling f h
  rw [hchan]
  exact bankOf_modFirst hb rfl

/-- The state after a completed column has been counted (R73, R76). -/
def State.columnCounted (s : State) : State :=
  { combComplete s with sweep := { s.sweep with colCount := s.sweep.colCount + 1 } }

theorem columnComplete_waiting (h : s.sweep.acq = .waiting) : columnComplete s = combComplete s := by
  simp only [columnComplete, combComplete_sweep, h]

theorem columnComplete_arming (h : s.sweep.acq = .arming) (hp : s.sweep.colCount + 1 ≠ s.comb.cap.p) :
    columnComplete s = s.columnCounted := by
  simp [columnComplete, h, hp, State.columnCounted]

theorem columnComplete_capturing (h : s.sweep.acq = .capturing) (hp : s.sweep.colCount + 1 ≠ 1000 - s.comb.cap.p) :
    columnComplete s = s.columnCounted := by
  simp [columnComplete, h, hp, State.columnCounted]

theorem columnComplete_capturing_last (h : s.sweep.acq = .capturing)
    (hp : s.sweep.colCount + 1 = 1000 - s.comb.cap.p) : columnComplete s = sweepEnd s.columnCounted := by
  simp [columnComplete, h, hp, State.columnCounted]

theorem get_columnCounted {f : FieldId} (hf : f ≠ Fld.tbState) : s.columnCounted.get f = s.get f := by
  simp only [State.get, if_neg hf, State.recAt, State.columnCounted, combComplete_store]

/-- The column that completes P columns enters WAITING, with the auto timer where SWEEP_MODE is AUTO (R73, R74). -/
theorem columnComplete_arming_last (h : s.sweep.acq = .arming) (hp : s.sweep.colCount + 1 = s.comb.cap.p)
    (hforce : s.sweep.force = false) :
    (columnComplete s).comb = (combComplete s).comb ∧ (columnComplete s).store = s.store
    ∧ (columnComplete s).sweep = { s.sweep with
        acq := .waiting, colCount := s.sweep.colCount + 1,
        auto := if s.get Fld.tbSweepMode = 0 then some (Nat.max 40000000 (1000 * s.comb.cap.n)) else s.sweep.auto } := by
  have henter : columnComplete s = enterWaiting s.columnCounted := by simp [columnComplete, h, hp, State.columnCounted]
  have hforce' : s.columnCounted.sweep.force = false := hforce
  rw [henter, enterWaiting, hforce', get_columnCounted (by decide)]
  simp [State.columnCounted, State.autoDuration]

/-! ## Items and sample periods (R46, log 4) -/

/-- The state with one port's item in its column, before the sample period is judged over. -/
def State.entered (s : State) (p : Nat) (item : Option Sample) : State :=
  { s with comb := { s.comb with
      accs := s.comb.accs.modify p (accumulate s.comb.cap.mode s.comb.cap.d s.comb.place item)
      got := s.comb.got.set p true } }

/-- The state at the place after, with no port heard from. -/
def State.periodOver (s : State) : State :=
  { s with comb := { s.comb with place := s.comb.place + 1, got := noneGot } }

theorem takeItem_eq (p : Nat) (item : Option Sample) : takeItem p item s =
    if (s.comb.got.set p true).all id then closePeriod (s.entered p item) else s.entered p item := rfl

theorem closePeriod_eq : closePeriod s =
    if s.comb.cap.n ≤ s.comb.place + 1 then columnComplete s.periodOver else s.periodOver := rfl

/-- While another port has still to be heard from, an item only enters its column. -/
theorem takeItem_open {p q : Nat} (item : Option Sample) (hq : q ≠ p) (hg : s.comb.got[q]? = some false) :
    takeItem p item s = s.entered p item := by
  have hmem : false ∈ s.comb.got.set p true :=
    List.mem_of_getElem? ((List.getElem?_set_ne hq.symm).trans hg)
  rw [takeItem_eq, if_neg]
  exact fun hall => absurd (List.all_eq_true.1 hall false hmem) (by decide)

/-- The last port to be heard from closes the sample period. -/
theorem takeItem_last {p : Fin 4} (item : Option Sample) (hlen : s.comb.got.length = 4)
    (hg : ∀ q : Fin 4, s.comb.got[q.val]? = some (decide (q ≠ p))) :
    takeItem p item s = closePeriod (s.entered p item) := by
  rw [takeItem_eq, if_pos]
  rw [List.all_eq_true]
  intro x hx
  obtain ⟨i, hi, rfl⟩ := List.getElem_of_mem hx
  have hi4 : i < 4 := by simpa [hlen] using hi
  rw [List.getElem_set]
  split
  · rfl
  · next hne =>
    have hother : (⟨i, hi4⟩ : Fin 4) ≠ p := fun h => hne (congrArg Fin.val h).symm
    have hgot := hg ⟨i, hi4⟩
    rw [List.getElem?_eq_getElem (by omega)] at hgot
    simpa [hother] using hgot

/-- A well-framed word of a LOCKED port, the port's first in this sample period (R36, R43, R46, R69). -/
theorem sampleWord_capture {p r : Nat} (hc : s.sweep.acq.capture = true) (hl : s.get (Fld.chLocked p) ≠ 0)
    (hg : s.comb.got.getD p false = false) :
    sampleWord p true r s =
      if s.source = p then
        (let u := compareSample (some (s.correct p r)) s
        if u.sweep.acq.capture then takeItem p (some (s.correct p r)) u else u)
      else takeItem p (some (s.correct p r)) s := by
  simp only [sampleWord, hc, hg, lockWord_locked_framed hl, Bool.and_false, Bool.false_eq_true, if_false, if_true]
  split <;> rfl

/-- The last word of a sample period, of a port that is not the source's (R46). -/
theorem sampleWord_last {p : Fin 4} {r : Nat} (hc : s.sweep.acq.capture = true) (hl : s.get (Fld.chLocked p) ≠ 0)
    (hsrc : s.source ≠ p) (hlen : s.comb.got.length = 4) (hg : ∀ q : Fin 4, s.comb.got[q.val]? = some (decide (q ≠ p))) :
    sampleWord p true r s = closePeriod (s.entered p (some (s.correct p r))) := by
  have hown : s.comb.got.getD p false = false := by simp [hg p]
  rw [sampleWord_capture hc hl hown, if_neg hsrc, takeItem_last _ hlen hg]

/-! ## A fire of the comparator (R52, R58, R69, R75) -/

/-- A filling bank at the trigger: its ring slots are numbered, its header takes the kind, and in AVERAGE the columns
already completed are blended (R52, R55, R58). -/
def State.triggeredBank (s : State) (kind : TrigKind) (ch : Nat) (b : Bank) : Bank :=
  let b := { b with
    origin := (s.comb.slot + 1000 - s.comb.cap.p) % 1000, header := { b.header with trigKind := kind } }
  if s.comb.cap.mode = .average then
    blendBefore (averageShift s.avgDepth s.comb.cap.avgShift) s.comb.cap.p (s.shownBank ch) b
  else b

/-- Blending moves nothing of a bank but its columns. -/
theorem blendBefore_eq (j p : Nat) (old : Option Bank) (b : Bank) :
    blendBefore j p old b = { b with cols := (blendBefore j p old b).cols } := by
  unfold blendBefore
  generalize List.range p = l
  induction l generalizing b with
  | nil => rfl
  | cons c l ih => rw [List.foldl_cons, ih]

theorem triggeredBank_eq (kind : TrigKind) (ch : Nat) (b : Bank) :
    s.triggeredBank kind ch b = { b with
      origin := (s.comb.slot + 1000 - s.comb.cap.p) % 1000, header := { b.header with trigKind := kind },
      cols := (s.triggeredBank kind ch b).cols } := by
  unfold State.triggeredBank
  dsimp only
  split
  · rw [blendBefore_eq]
  · rfl

theorem triggeredBank_cols (kind : TrigKind) (ch : Nat) (b : Bank) (h : s.comb.cap.mode ≠ .average) :
    (s.triggeredBank kind ch b).cols = b.cols := by
  simp [State.triggeredBank, h]

theorem triggeredBank_modFilling {kind : TrigKind} {ch c : Nat} (f : Bank → Bank) (h : c ≠ ch) :
    (modFilling c f s).triggeredBank kind ch = s.triggeredBank kind ch := by
  funext b
  unfold State.triggeredBank
  rw [shownBank_modFilling_other f h]
  rfl

theorem combTrigger_filling {kind : TrigKind} {ch : Nat} {b : Bank} (hb : bankOf .filling (s.comb.chan ch) = some b)
    (hch : ch < 4) : bankOf .filling ((combTrigger kind s).comb.chan ch) = some (s.triggeredBank kind ch b) := by
  have hchan : (combTrigger kind s).comb.chan ch
      = modFirst (fun b => b.role == .filling) (s.triggeredBank kind ch) (s.comb.chan ch) :=
    chan_forChannels_modFilling (fun c u => u.triggeredBank kind c) hch fun _ _ f h => triggeredBank_modFilling f h
  rw [hchan]
  exact bankOf_modFirst hb (by rw [triggeredBank_eq])

/-- What the comparator makes of a sample of the source (R69). -/
def State.compared (s : State) (x : Sample) : Trig × Bool :=
  comparator (s.get Fld.trSlope) (s.get Fld.trLevelCode) (s.get Fld.trHysteresis) x.code s.trig

/-- The state with the armed flags the comparator leaves. -/
def State.comparedTo (s : State) (x : Sample) : State := { s with trig := (s.compared x).1 }

/-- A sample of the source in WAITING: the armed flags move, and a fire is a trigger of kind NORMAL (R69, R75). -/
theorem compareSample_waiting {x : Sample} (h : s.sweep.acq = .waiting) :
    compareSample (some x) s = { s with
      trig := (s.compared x).1
      comb := if (s.compared x).2 then (combTrigger .normal (s.comparedTo x)).comb else s.comb
      sweep := if (s.compared x).2 then
          { s.sweep with trigKind := .normal, auto := none, colCount := 0, acq := .capturing }
        else s.sweep } := by
  simp only [compareSample, h, reduceCtorEq, if_false, and_true]
  change (if (s.compared x).2 = true then _ else _) = _
  cases (s.compared x).2 <;> rfl

/-- A word of the source's port in WAITING while another port has still to be heard from (R46, R69, R75). -/
theorem sampleWord_source_waiting {p q r : Nat} (ha : s.sweep.acq = .waiting) (hl : s.get (Fld.chLocked p) ≠ 0)
    (hsrc : s.source = p) (hq : q ≠ p) (hgq : s.comb.got[q]? = some false) (hgp : s.comb.got.getD p false = false) :
    sampleWord p true r s = (compareSample (some (s.correct p r)) s).entered p (some (s.correct p r)) := by
  have hc : s.sweep.acq.capture = true := by rw [ha]; rfl
  have hcu : (compareSample (some (s.correct p r)) s).sweep.acq.capture = true := by
    rw [compareSample_waiting ha]; dsimp only; split <;> [rfl; exact hc]
  have hgu : (compareSample (some (s.correct p r)) s).comb.got[q]? = some false := by
    rw [compareSample_waiting ha]; dsimp only; split <;> exact hgq
  rw [sampleWord_capture hc hl hgp, if_pos hsrc]
  dsimp only
  rw [if_pos hcu, takeItem_open _ hq hgu]

/-- Acquisition that moves the combiner, the sweep controller and the comparator leaves the rest (R26). -/
theorem restKept_withAcquisition (w : Comb) (v : Sweep) (r : Trig) :
    s.restKept { s with comb := w, sweep := v, trig := r } :=
  ⟨rfl, rfl, rfl, rfl, rfl, rfl, rfl, rfl, rfl, rfl, rfl, rfl, rfl, rfl, rfl⟩

end Sys2Proof.Machine

/-! ## The statement -/

open Sys2Proof Sys2Proof.Machine

/-- Settles O32: before the period is over an item only enters its column; the last port's word closes the period, and at
the last place the column's completion is counted by the state it finds; a fire in WAITING is a trigger. -/
theorem sampleEntersColumn : Obligations.SampleEntersColumn := by
  refine ⟨?_, ?_, ?_, ?_⟩
  · intro s p q code hh hc hl hsrc hq hgq hgp
    rw [exec_sampleWord p true code hh, sampleWord_capture hc hl hgp, if_neg hsrc,
      takeItem_open _ (Fin.val_ne_of_ne hq) hgq]
    rfl
  · rintro s u p code hh hc hl hsrc hlen hg rfl
    rw [exec_sampleWord p true code hh, sampleWord_last hc hl hsrc hlen hg]
    let u := (s.entered p (some (s.correct p code.toNat))).periodOver
    have hopen : s.comb.place + 1 < s.comb.cap.n → closePeriod (s.entered p (some (s.correct p code.toNat))) = u :=
      fun h => if_neg (Nat.not_le.2 h)
    have hfull : s.comb.cap.n ≤ s.comb.place + 1 →
        closePeriod (s.entered p (some (s.correct p code.toNat))) = columnComplete u := fun h => if_pos h
    refine ⟨fun hn => ?_, fun hn ha => ?_, fun hn ha hcol => ?_, fun hn ha hcol hforce => ?_, fun hn ha hcol => ?_,
      fun hn ha hcol => ?_⟩
    · rw [hopen hn]; rfl
    · rw [hfull hn, columnComplete_waiting (s := u) ha]; rfl
    · rw [hfull hn, columnComplete_arming (s := u) ha hcol]; rfl
    · rw [hfull hn]
      exact ⟨_, rfl, columnComplete_arming_last (s := u) ha hcol hforce⟩
    · rw [hfull hn, columnComplete_capturing (s := u) ha hcol]; rfl
    · rw [hfull hn, columnComplete_capturing_last (s := u) ha hcol]; rfl
  · intro s ch b hb hch
    exact ⟨combComplete_filling hb hch, combComplete_slot, combComplete_place, combComplete_accs, combComplete_store,
      combComplete_sweep⟩
  · rintro s p q code slope level hyst x hh ha hl hsrc hq hgq hgp rfl rfl rfl rfl
    rw [exec_sampleWord p true code hh, sampleWord_source_waiting ha hl hsrc (Fin.val_ne_of_ne hq) hgq hgp,
      compareSample_waiting ha]
    refine ⟨_, rfl, rfl, rfl, rfl, rfl, rfl, rfl, rfl, restKept_withAcquisition _ _ _, ?_, fun hno => ?_,
      fun hfire => ?_⟩
    · dsimp only [State.entered]; split <;> rfl
    · exact if_neg (ne_true_of_eq_false hno)
    · have hfire' : (s.compared (s.correct p code.toNat)).2 = true := hfire
      refine ⟨if_pos hfire', fun ch b hch hb => ⟨(s.comparedTo (s.correct p code.toNat)).triggeredBank .normal ch b,
        ?_, ?_, ?_, triggeredBank_cols _ _ _⟩⟩
      · simp only [State.entered, hfire', if_true]
        exact combTrigger_filling hb hch
      · rw [triggeredBank_eq]; rfl
      · rw [triggeredBank_eq]
end

section
/-! SUPPORT. The release and the start-up load's first steps (R35, R66, R163, R175, R177). -/

namespace Sys2Proof.Machine

variable {s t u : State}

/-! ## Notices (R186) -/

/-- The sources in the order of their numbers (R186). -/
def allSources : List Source :=
  [.startDone, .supplyLow, .setupFail, .setupDone, .laneLost, .measLimit, .singleDone, .sweepDone, .measDone,
    .levelClipped, .autoLevelOff, .panelInput, .panelChanged, .bindingLost, .readoutVoid, .changeDropped,
    .displayOverflow, .frameError, .calMissing]

theorem allSources_sourceNo (n : Source) : allSources[sourceNo n]? = some n := by cases n <;> rfl

theorem sourceNo_lt (n : Source) : sourceNo n < 19 := (List.getElem?_eq_some_iff.1 (allSources_sourceNo n)).1

theorem sourceNo_inj {m n : Source} (h : sourceNo m = sourceNo n) : m = n :=
  Option.some.inj ((allSources_sourceNo m).symm.trans ((congrArg (allSources[·]?) h).trans (allSources_sourceNo n)))

/-- To raise a source sets its flag and no other (R186). -/
theorem noticed_raise (m n : Source) : (raise n s).noticed m = (s.noticed m || decide (m = n)) := by
  have hbit : (BitVec.ofNat 19 (2 ^ sourceNo n)).getLsbD (sourceNo m) = decide (m = n) := by
    rw [BitVec.getLsbD_ofNat, Nat.testBit_two_pow, decide_eq_true (sourceNo_lt m), Bool.true_and]
    exact decide_eq_decide.2 ⟨fun h => (sourceNo_inj h).symm, fun h => congrArg sourceNo h.symm⟩
  rw [State.noticed, raise_notices, BitVec.getLsbD_or, hbit]
  rfl

/-- No source is pending in reset (R186). -/
theorem noticed_inReset (cause : Cause) (flash : Memory) (lamps : List Bool) (cs : Bool) (n : Nat) (q : List Instr)
    (m : Source) : (State.inReset cause flash lamps cs n q).noticed m = false := by
  simp [State.noticed, State.inReset, Notices.reset]

/-! ## Reading a field -/

/-- The fields' values are those of the tables, and of the acquisition state for TIMEBASE.STATE (R71). -/
theorem get_congr (ht : ∀ k, t.store.table k = s.store.table k) (ha : t.sweep.acq = s.sweep.acq) (f : FieldId) :
    t.get f = s.get f := by
  simp only [State.get, State.recAt, ht, ha]

theorem setTable_table (st : Store) (k : Kind) : st.setTable k (st.table k) = st := by cases k <;> rfl

theorem set_getD_self (l : List Int) (i : Nat) (d : Int) : l.set i (l.getD i d) = l := by
  by_cases h : i < l.length
  · rw [List.getD_eq_getElem _ _ h, List.set_getElem_self]
  · exact List.set_eq_of_length_le (by omega)

theorem modify_of_fixed {α : Type} {l : List α} {i : Nat} {g : α → α} (h : ∀ x, l[i]? = some x → g x = x) :
    l.modify i g = l := by
  rw [List.modify_eq_set_getElem?]
  cases hx : l[i]? with
  | none => rfl
  | some x =>
    obtain ⟨hi, rfl⟩ := List.getElem?_eq_some_iff.1 hx
    simp [h _ hx]

/-- To write the value a field has changes nothing. -/
theorem setVal_get {f : FieldId} (hf : f ≠ Fld.tbState) : setVal f (s.get f) s = s := by
  have hfixed : ∀ r, (s.store.table f.kind)[f.inst]? = some r → { r with vals := r.vals.set f.num (s.get f) } = r := by
    intro r hr
    have hget : s.get f = r.vals.getD f.num 0 := by
      simp only [State.get, if_neg hf, State.recAt, List.getD_eq_getElem?_getD, hr, Option.getD_some]
    rw [hget, set_getD_self]
  simp only [setVal, modRec, modify_of_fixed hfixed, setTable_table]

/-! ## The supply, the front end and the trigger level (R35, R66, R175) -/

theorem judgeSupply_eq (v : Nat) : judgeSupply v s = { s with
    setup := { s.setup with supplyLow := decide (v < 1100000) }
    notices := if v < 1100000 then (raise .supplyLow s).notices else s.notices } := by
  unfold judgeSupply
  split <;> simp [*, raise, modSetup]

/-- The front-end line after the release: CH1's frame is being sent, the other three wait (R35). -/
def SamplePath.started : SamplePath :=
  { SamplePath.reset with
    sending := some (0, FeSettings.reset)
    pending := [none, some FeSettings.reset, some FeSettings.reset, some FeSettings.reset] }

theorem startFrontEnd_reset (h : s.path = SamplePath.reset) : startFrontEnd s = { s with
    path := SamplePath.started, sweep := { s.sweep with settle := longer s.sweep.settle (some 10000) } } := by
  have hput : forChannels (fun ch s => fePut ch (s.path.image.getD ch FeSettings.reset) s) s = { s with
      path := { SamplePath.reset with pending := List.replicate 4 (some FeSettings.reset) } } := by
    simp only [forChannels, List.foldl, fePut, h]
    rfl
  rw [startFrontEnd, hput]
  rfl

/-- At the records' reset values the trigger level agrees with its code, so that computing it again changes nothing (R66). -/
theorem levelRecompute_reset (h : s.store = Store.reset) (ha : s.sweep.acq = .stopped) : levelRecompute s = s := by
  have hget : ∀ f, s.get f = State.reset.get f := get_congr (fun k => congrArg (Store.table · k) h) ha
  have hsource : s.source = 0 := by rw [State.source, hget]; decide
  have hraw : levelCodeRaw (s.get Fld.trLevelUv) (s.get (Fld.chScaleUv s.source)) (s.get (Fld.chOffsetUv s.source))
      = 512 := by
    rw [hsource, hget, hget, hget]; decide
  have hcode : setVal Fld.trLevelCode 512 s = s := by
    have hv : s.get Fld.trLevelCode = 512 := by rw [hget]; decide
    exact hv ▸ setVal_get (by decide)
  have hclip : setVal Fld.trLevelClipped 0 s = s := by
    have hv : s.get Fld.trLevelClipped = 0 := by rw [hget]; decide
    exact hv ▸ setVal_get (by decide)
  simp [levelRecompute, hraw, limit, ofBool, hcode, hclip]

/-- What the release leaves before the scan: the supply judged, the front end started, the part out of reset
(R35, R175, R184). -/
def State.released (v : Nat) (s : State) : State :=
  { s with
    held := false
    path := SamplePath.started
    sweep := { s.sweep with settle := some 10000 }
    setup := { s.setup with supplyLow := decide (v < 1100000) }
    notices := if v < 1100000 then (raise .supplyLow s).notices else s.notices }

theorem released_supplyLow (v : Nat) :
    (s.released v).noticed .supplyLow = (s.noticed .supplyLow || decide (v < 1100000)) := by
  by_cases hv : v < 1100000
  · have hraised : (s.released v).noticed .supplyLow = (raise .supplyLow s).noticed .supplyLow := by
      simp only [State.noticed, State.released, if_pos hv]
    rw [hraised, noticed_raise, decide_eq_true hv]
    rfl
  · simp [State.noticed, State.released, hv]

/-- The release of a part whose store, sample path and sweep controller stand at their reset values. -/
theorem release_eq (v : Nat) (fl : Flips) (hstore : s.store = Store.reset) (hpath : s.path = SamplePath.reset)
    (hsweep : s.sweep = Sweep.reset) : release v fl s = startCalibration (scan fl (s.released v)) := by
  have hfront : startFrontEnd (judgeSupply v { s with held := false }) = s.released v := by
    rw [judgeSupply_eq, startFrontEnd_reset (by exact hpath)]
    simp only [State.released, hsweep]
    rfl
  have hlevel : levelRecompute (s.released v) = s.released v :=
    levelRecompute_reset hstore (congrArg Sweep.acq hsweep)
  rw [release, hfront, hlevel]

/-! ## The scan and the load (R163, R177) -/

theorem scan_dirAt (fl : Flips) {i : Nat} (hi : i < 16) :
    (scan fl s).setup.dirAt i = judgeSlot s.setup.flash fl (Config.badCount (s.free + i)).toNat i := by
  simp [scan, Setup.dirAt, hi]

/-- What beginning the start-up load leaves: the other blocks, the link, the records, and of the setup unit the directory,
the flash and the supply state (R177). -/
structure State.LoadKept (s t : State) : Prop where
  others    : s.othersKept t
  link      : t.link = s.link
  table     : ∀ k, t.store.table k = s.store.table k
  dir       : t.setup.dir = s.setup.dir
  flash     : t.setup.flash = s.setup.flash
  starting  : t.setup.starting = s.setup.starting
  supplyLow : t.setup.supplyLow = s.setup.supplyLow

theorem othersKept_trans (h : s.othersKept t) (h' : t.othersKept u) : s.othersKept u := by
  obtain ⟨hpath, hcomb, hsweep, htrig, hmeas, hrend, hheld, hcause, hpend, hpanel⟩ := h
  obtain ⟨hpath', hcomb', hsweep', htrig', hmeas', hrend', hheld', hcause', hpend', hpanel'⟩ := h'
  refine ⟨hpath'.trans hpath, hcomb'.trans hcomb, hsweep'.trans hsweep, htrig'.trans htrig, hmeas'.trans hmeas,
    hrend'.trans hrend, hheld'.trans hheld, hcause'.trans hcause, hpend'.trans hpend, ?_⟩
  rw [hpanel', hpanel]

theorem State.LoadKept.trans (h : s.LoadKept t) (h' : t.LoadKept u) : s.LoadKept u where
  others := othersKept_trans h.others h'.others
  link := h'.link.trans h.link
  table k := (h'.table k).trans (h.table k)
  dir := h'.dir.trans h.dir
  flash := h'.flash.trans h.flash
  starting := h'.starting.trans h.starting
  supplyLow := h'.supplyLow.trans h.supplyLow

theorem loadKept_modSetup (g : Setup → Setup) (hd : (g s.setup).dir = s.setup.dir) (hf : (g s.setup).flash = s.setup.flash)
    (hs : (g s.setup).starting = s.setup.starting) (hl : (g s.setup).supplyLow = s.setup.supplyLow) :
    s.LoadKept (modSetup g s) :=
  ⟨⟨rfl, rfl, rfl, rfl, rfl, rfl, rfl, rfl, rfl, rfl⟩, rfl, fun _ => rfl, hd, hf, hs, hl⟩

theorem loadKept_raise (n : Source) : s.LoadKept (raise n s) :=
  ⟨⟨rfl, rfl, rfl, rfl, rfl, rfl, rfl, rfl, rfl, rfl⟩, rfl, fun _ => rfl, rfl, rfl, rfl, rfl⟩

theorem loadKept_setGroup (g : Nat) (x : Group) : s.LoadKept (setGroup g x s) :=
  ⟨⟨rfl, rfl, rfl, rfl, rfl, rfl, rfl, rfl, rfl, rfl⟩, rfl, fun k => by cases k <;> rfl, rfl, rfl, rfl, rfl⟩

theorem loadKept_beginRecall (slot : Nat) : s.LoadKept (beginRecall slot s) := by
  have hop : s.LoadKept (beginOp .recall slot .readHeader s) := loadKept_modSetup _ rfl rfl rfl rfl
  unfold beginRecall
  dsimp only
  split
  · exact hop
  · exact hop.trans (loadKept_setGroup _ _)

theorem loadKept_startSetup : s.LoadKept (startSetup s) := by
  unfold startSetup
  split
  · exact loadKept_beginRecall 0
  · exact (loadKept_modSetup _ rfl rfl rfl rfl).trans (loadKept_modSetup _ rfl rfl rfl rfl)

theorem State.LoadKept.dirAt (h : s.LoadKept t) (i : Nat) : t.setup.dirAt i = s.setup.dirAt i := by
  rw [Setup.dirAt, h.dir, Setup.dirAt]

theorem loadKept_startCalibration : s.LoadKept (startCalibration s) := by
  unfold startCalibration
  split
  · exact loadKept_beginRecall 15
  · exact ((loadKept_modSetup _ rfl rfl rfl rfl).trans (loadKept_raise .calMissing)).trans loadKept_startSetup

theorem startSetup_notices : (startSetup s).notices = s.notices := by
  unfold startSetup; split <;> rfl

/-- Step 2 of the start-up load: slot 15 is read where it is VALID, and otherwise CAL_MISSING is raised (R177). -/
theorem startCalibration_notices : (startCalibration s).notices =
    if (s.setup.dirAt 15).state = .valid then s.notices else (raise .calMissing s).notices := by
  unfold startCalibration
  split
  · rfl
  · rw [startCalDone, startSetup_notices]; rfl

/-- Beginning the load raises no source but CAL_MISSING (R177). -/
theorem startCalibration_noticed {m : Source} (hm : m ≠ .calMissing) : (startCalibration s).noticed m = s.noticed m := by
  rw [State.noticed, startCalibration_notices]
  split
  · rfl
  · exact (noticed_raise m .calMissing).trans (by rw [decide_eq_false hm, Bool.or_false])

theorem startCalibration_missing (h : (s.setup.dirAt 15).state ≠ .valid) :
    (startCalibration s).noticed .calMissing = true := by
  rw [State.noticed, startCalibration_notices, if_neg h]
  exact (noticed_raise .calMissing .calMissing).trans (Bool.or_true _)

theorem startCalibration_valid (h : (s.setup.dirAt 15).state = .valid) :
    (startCalibration s).setup.phase = .readHeader ∧ (startCalibration s).setup.slot = 15 := by
  rw [startCalibration, if_pos h]
  exact ⟨rfl, rfl⟩

end Sys2Proof.Machine

/-! ## The statement -/

open Sys2Proof Sys2Proof.Machine

/-- Settles O12: the release is the start of the load after the scan of the state it has made ready, and beginning the load
leaves all that state but what it reads of slot 15 or 0. -/
theorem releaseStartsLoad : Obligations.ReleaseStartsLoad := by
  intro cause flash lamps cs n q v fl hv
  let r := State.inReset cause flash lamps cs n q
  let w := scan fl (r.released v)
  have hexec : exec (.resetRelease v fl) r = .next (startCalibration w) :=
    congrArg Host.Outcome.next ((if_pos ⟨rfl, hv⟩).trans (release_eq v fl rfl rfl rfl))
  have hkept : w.LoadKept (startCalibration w) := loadKept_startCalibration
  have hlow : w.noticed .supplyLow = decide (v < 1100000) :=
    (released_supplyLow v).trans (by rw [noticed_inReset, Bool.false_or])
  obtain ⟨hpath, hcomb, hsweep, -, hmeas, hrend, hheld, hcause, hpend, -⟩ := hkept.others
  refine ⟨_, hexec, hheld, hcause, hkept.flash, hkept.starting, hkept.supplyLow, ?_, ?_, ?_, ?_, ?_, fun f => ?_,
    by decide, hcomb, hmeas, hrend, hkept.link, hpend, fun i hi => ⟨_, (hkept.dirAt i).trans (scan_dirAt fl hi)⟩,
    fun hvalid => ?_, fun hinvalid => ?_⟩
  · exact (startCalibration_noticed (by decide)).trans hlow
  · rw [hsweep]; rfl
  · rw [hsweep]; rfl
  · rw [hpath]; rfl
  · rw [hpath]; rfl
  · exact (get_congr hkept.table (congrArg Sweep.acq hsweep) f).trans (get_congr (fun _ => rfl) rfl f)
  · rw [hkept.dirAt] at hvalid
    exact startCalibration_valid hvalid
  · rw [hkept.dirAt] at hinvalid
    exact startCalibration_missing hinvalid
end

section
/-! SUPPORT. The answers of COLUMNS (R63). -/

namespace Sys2Proof.Machine

variable {s : State} {ch : Byte} {first count : BitVec 16}

theorem columns_inside (hch : ch.toNat < 4) (hfirst : first.toNat < 1000) (hcount : count ≠ 0) :
    ¬ (4 ≤ ch.toNat ∨ 1000 ≤ first.toNat ∨ count = 0) :=
  not_or.2 ⟨hch.not_ge, not_or.2 ⟨hfirst.not_ge, hcount⟩⟩

theorem exec_columns_outside (h : s.takes (.columns ch first count) = true)
    (hout : 4 ≤ ch.toNat ∨ 1000 ≤ first.toNat ∨ count = 0) :
    exec (.columns ch first count) s = .next (s.answer .badValue [] .none) := by
  rw [exec, execColumns, takeCommand_takes h, if_pos hout, respond_refuse]

theorem exec_columns_noBank (h : s.takes (.columns ch first count) = true)
    (hin : ¬ (4 ≤ ch.toNat ∨ 1000 ≤ first.toNat ∨ count = 0)) (hb : s.shownBank ch.toNat = none) :
    exec (.columns ch first count) s = .next (s.answer .noData [] .none) := by
  rw [exec, execColumns, takeCommand_takes h, if_neg hin, hb, respond_refuse]

/-- What is left after the first column limits the count, and the status is OK where all the columns asked for are left. -/
theorem exec_columns_shown {b : Bank} (h : s.takes (.columns ch first count) = true)
    (hin : ¬ (4 ≤ ch.toNat ∨ 1000 ≤ first.toNat ∨ count = 0)) (hb : s.shownBank ch.toNat = some b) :
    exec (.columns ch first count) s = .next ((requestLend .link ch.toNat s).answer
      (if count.toNat ≤ 1000 - first.toNat then .ok else .clamped)
      (columnsData b first.toNat (Nat.min count.toNat (1000 - first.toNat))) (.columns ch.toNat)) := by
  have hstatus : Nat.min count.toNat (1000 - first.toNat) = count.toNat ↔ count.toNat ≤ 1000 - first.toNat :=
    min_eq_left_iff
  rw [exec, execColumns, takeCommand_takes h, if_neg hin, hb, ← if_congr hstatus rfl rfl]
  rfl

end Sys2Proof.Machine

/-! ## The statement -/

open Sys2Proof Sys2Proof.Machine

/-- Settles O29: the three answers of COLUMNS in the order of R63's checks. -/
theorem columnsReadsShownBank : Obligations.ColumnsReadsShownBank := fun _ _ _ _ h =>
  ⟨exec_columns_outside h,
    fun hch hfirst hcount => exec_columns_noBank h (columns_inside hch hfirst hcount),
    fun _ hch hfirst hcount => exec_columns_shown h (columns_inside hch hfirst hcount)⟩
end

section
/-! SUPPORT. The sweep controller's commands (R79 to R82): a capture start (R73), an abandonment, a trigger, and what a
change that applies leaves of the sweep controller. -/

namespace Sys2Proof.Machine

variable {s t : State}

/-! ## Frames and reading -/

/-- What leaves the shell leaves the rest of the part (R26). -/
theorem restKept_of_shell (h : t.shell = s.shell) : s.restKept t := by
  have hencs := congrArg (fun x => x.encs.map fun e => (e.last, e.phase, e.since, e.pending)) h
  simp only [State.shell, List.map_map] at hencs
  exact ⟨shell_setup h, shell_rend h, shell_held h, shell_cause h, shell_free h, shell_pending h,
    congrArg Shell.lockCount h, congrArg Shell.latched h, shell_keys h, shell_mask h, congrArg Shell.blinkOn h,
    shell_lamps h, hencs, congrArg Link.csLow (shell_link h), congrArg Link.summary (shell_link h)⟩

/-- The response moves neither the pin nor the summary (R179). -/
theorem restKept_answer {st : Status} {data : List Byte} {tie : Tie} (h : t.shell = s.shell) :
    s.restKept (t.answer st data tie) := restKept_of_shell (s := s) (t := t) h

/-- The fields but TIMEBASE.STATE are the records' (R71, log 28). -/
theorem get_of_store {f : FieldId} (h : t.store = s.store) (hf : f ≠ Fld.tbState) : t.get f = s.get f := by
  simp only [State.get, if_neg hf, State.recAt, h]

/-- With an empty queue there is nothing to release and nothing to apply (R22, R23). -/
theorem examine_releaseAll_nil (h : s.store.queue = []) : examine (releaseAll s) = s := by
  have hrelease : releaseAll s = s := by
    simp only [releaseAll, setQueue, h, List.map_nil]
    rw [← h]
  rw [hrelease, examine, h]
  rfl

/-! ## Folds -/

/-- What every turn of a fold keeps, the fold keeps. -/
theorem foldl_keeps {α β : Type} (π : State → β) (g : State → α → State) (h : ∀ s x, π (g s x) = π s) (l : List α)
    (s : State) : π (l.foldl g s) = π s := by
  induction l generalizing s with
  | nil => rfl
  | cons x l ih => exact (ih (g s x)).trans (h s x)

theorem forChannels_keeps {β : Type} (π : State → β) {g : Nat → State → State} (h : ∀ c s, π (g c s) = π s) (s : State) :
    π (forChannels g s) = π s := foldl_keeps π _ (fun s c => h c s) _ s

/-! ## Capture start (R57, R73, R74) -/

/-- A bank at capture start does not depend on the sweep controller (R55, R57). -/
theorem startBank_withSweep (ch : Nat) (w : Sweep) :
    startBank ch { s with sweep := w } = { startBank ch s with sweep := w } := by
  have hget : ∀ f, f ≠ Fld.tbState → ({ s with sweep := w } : State).get f = s.get f := fun _ => get_of_store rfl
  rw [startBank, hget Fld.tbMode (by decide), hget Fld.tbScale (by decide), hget Fld.tbTrigColumn (by decide),
    hget (Fld.chScaleUv ch) nofun, hget (Fld.chOffsetUv ch) nofun]
  rfl

theorem combStart_withSweep (w : Sweep) : (combStart { s with sweep := w }).comb = (combStart s).comb := by
  simp only [combStart, forChannels, List.foldl, startBank_withSweep]
  rfl

/-- The sweep controller after a capture start: ARMING, or with P = 0 what WAITING makes of it. The trigger kind is log 37's. -/
def State.captureSweep (s : State) : Sweep :=
  if 0 < s.get Fld.tbTrigColumn then { s.sweep with acq := .arming, colCount := 0, trigKind := .none }
  else s.startsWaiting

/-- ARMING begun, before P is looked at (R73). -/
def State.armed (s : State) : State :=
  { s with comb := (combStart s).comb, sweep := { s.sweep with acq := .arming, colCount := 0, trigKind := .none } }

theorem captureStart_armed : captureStart s = if s.captureNow.p = 0 then enterWaiting s.armed else s.armed := rfl

theorem triggerEvent_eq (kind : TrigKind) : triggerEvent kind s = { s with
    comb := (combTrigger kind s).comb
    sweep := { s.sweep with trigKind := kind, auto := none, colCount := 0, acq := .capturing } } := rfl

/-- A state that differs from another in the combiner and the sweep controller alone. -/
def State.acquires (s t : State) : Prop := t = { s with comb := t.comb, sweep := t.sweep }

theorem acquires_enterWaiting : s.acquires (enterWaiting s) := by
  unfold State.acquires enterWaiting
  split <;> rfl

theorem acquires_captureStart : s.acquires (captureStart s) := by
  rw [captureStart_armed]
  split
  · exact acquires_enterWaiting (s := s.armed)
  · rfl

theorem captureStart_eq :
    captureStart s = { s with comb := (captureStart s).comb, sweep := (captureStart s).sweep } := acquires_captureStart

/-- The combiner takes N, D, M, MODE, AVG_SHIFT and P of the live record, and the first column begins (R57). -/
theorem captureStart_capture : (captureStart s).comb.cap = s.captureNow ∧ (captureStart s).comb.place = 0 := by
  rw [captureStart_armed, enterWaiting]
  repeat' split
  all_goals exact ⟨rfl, rfl⟩

theorem captureStart_arming (hp : 0 < s.get Fld.tbTrigColumn) : captureStart s = s.armed := by
  rw [captureStart_armed, if_neg]
  simp only [State.captureNow]
  omega

theorem captureStart_waiting (hp : s.get Fld.tbTrigColumn ≤ 0) : captureStart s = enterWaiting s.armed := by
  rw [captureStart_armed, if_pos]
  simp only [State.captureNow]
  omega

theorem enterWaiting_armed_sweep : (enterWaiting s.armed).sweep = s.startsWaiting := by
  have hmode : s.armed.get Fld.tbSweepMode = s.get Fld.tbSweepMode := get_of_store rfl (by decide)
  have hforce : s.armed.sweep.force = s.sweep.force := rfl
  rw [enterWaiting, State.startsWaiting, hforce, hmode]
  split <;> rfl

theorem captureStart_sweep : (captureStart s).sweep = s.captureSweep := by
  unfold State.captureSweep
  split
  · next hp => rw [captureStart_arming hp]; rfl
  · next hp => rw [captureStart_waiting (not_lt.1 hp), enterWaiting_armed_sweep]

/-- A capture start in which no force is pending ends in ARMING or in WAITING (R73, R75). -/
theorem captureStart_acq (h : s.sweep.force = false) :
    (captureStart s).sweep.acq = .arming ∨ (captureStart s).sweep.acq = .waiting := by
  rw [captureStart_sweep, State.captureSweep, State.startsWaiting, h]
  split
  · exact .inl rfl
  · exact .inr rfl

@[simp] theorem captureStart_single : (captureStart s).sweep.single = s.sweep.single := by
  rw [captureStart_sweep, State.captureSweep, State.startsWaiting]
  repeat' split
  all_goals rfl

@[simp] theorem captureStart_settle : (captureStart s).sweep.settle = s.sweep.settle := by
  rw [captureStart_sweep, State.captureSweep, State.startsWaiting]
  repeat' split
  all_goals rfl

theorem captureStart_acq_ne : (captureStart s).sweep.acq ≠ .stopped := by
  rw [captureStart_sweep, State.captureSweep, State.startsWaiting]
  repeat' split
  all_goals exact nofun

theorem settleOrArm_settling (h : s.sweep.settle ≠ none) : settleOrArm s = setAcq .settling s := by
  obtain ⟨n, hn⟩ := Option.ne_none_iff_exists'.1 h
  rw [settleOrArm, hn]

theorem settleOrArm_arm (h : s.sweep.settle = none) : settleOrArm s = captureStart s := by
  rw [settleOrArm, h]

/-- What SETTLING or a capture start leaves to see: acquisition runs, single pending stays, and the settle timer decides
between the two (R79, R81, R84). -/
theorem settleOrArm_sweep : (settleOrArm s).sweep.acq ≠ .stopped ∧ (settleOrArm s).sweep.single = s.sweep.single
    ∧ (settleOrArm s).sweep.settle = s.sweep.settle
    ∧ ((settleOrArm s).sweep.settle ≠ none → (settleOrArm s).sweep.acq = .settling) := by
  by_cases h : s.sweep.settle = none
  · rw [settleOrArm_arm h]
    exact ⟨captureStart_acq_ne, captureStart_single, captureStart_settle,
      fun hn => absurd (captureStart_settle.trans h) hn⟩
  · rw [settleOrArm_settling h]
    exact ⟨nofun, rfl, rfl, fun _ => rfl⟩

/-! ## What a change that applies leaves of the sweep controller (R26) -/

/-- The sweep controller but for the two timers that a change can move (R72, R74). -/
def State.controls (s : State) : Sweep := { s.sweep with settle := none, auto := none }

@[simp] theorem controls_foldl {α : Type} (g : State → α → State) (h : ∀ s x, (g s x).controls = s.controls) (l : List α)
    (s : State) : (l.foldl g s).controls = s.controls := foldl_keeps State.controls g h l s

@[simp] theorem controls_forChannels (g : Nat → State → State) (h : ∀ c s, (g c s).controls = s.controls) (s : State) :
    (forChannels g s).controls = s.controls := forChannels_keeps State.controls h s

@[simp] theorem controls_foldIf (b : Bool) (g : State → State) (s : State) :
    (foldIf b g s).controls = if b = true then (g s).controls else s.controls := by cases b <;> rfl

@[simp] theorem controls_setVal (f : FieldId) (v : Int) : (setVal f v s).controls = s.controls := rfl
@[simp] theorem controls_raiseIf (b : Bool) (n : Source) : (raiseIf b n s).controls = s.controls := by cases b <;> rfl
@[simp] theorem controls_raise (n : Source) : (raise n s).controls = s.controls := rfl
@[simp] theorem controls_withMeas (m : Meas) : ({ s with meas := m } : State).controls = s.controls := rfl
@[simp] theorem controls_withStore (x : Store) : ({ s with store := x } : State).controls = s.controls := rfl
@[simp] theorem controls_oweRetry : (oweRetry s).controls = s.controls := rfl
@[simp] theorem controls_clearShown (c : Nat) : (clearShown c s).controls = s.controls := rfl
@[simp] theorem controls_settleRequest (x : Option Nat) : (settleRequest x s).controls = s.controls := rfl
@[simp] theorem controls_emptyOrigin (o : Origin) : (emptyOrigin o s).controls = s.controls := by cases o <;> rfl

@[simp] theorem controls_setCarry (c : Nat) (v : Int) : (setCarry c v s).controls = s.controls := by
  unfold setCarry; split <;> rfl

@[simp] theorem controls_clearStats (i : Nat) : (clearStats i s).controls = s.controls := rfl
@[simp] theorem controls_clearAllStats : (clearAllStats s).controls = s.controls :=
  controls_foldl _ (fun _ _ => controls_clearStats _) _ s
@[simp] theorem controls_definitionChange (i : Nat) : (definitionChange i s).controls = s.controls := rfl

@[simp] theorem controls_feUpdate (c : Nat) : (feUpdate c s).controls = s.controls := by
  unfold feUpdate; dsimp only; split <;> rfl

@[simp] theorem controls_feStart : (feStart s).controls = s.controls := by rw [feStart_eq]; rfl

@[simp] theorem controls_levelRecompute : (levelRecompute s).controls = s.controls := by simp [levelRecompute]

@[simp] theorem controls_trackingOff : (trackingOff s).controls = s.controls := rfl

@[simp] theorem controls_autoLevelAfter (b : State) (e : Bool) : (autoLevelAfter b e s).controls = s.controls := by
  unfold autoLevelAfter
  dsimp only
  split
  · simp
  · split
    · rfl
    · split <;> rfl

@[simp] theorem controls_disarmIfChanged (b : State) : (disarmIfChanged b s).controls = s.controls := by
  unfold disarmIfChanged; split <;> rfl

/-- SWEEP_MODE moves the auto timer alone (R74). -/
@[simp] theorem controls_sweepModeWritten (b : State) : (sweepModeWritten b s).controls = s.controls := by
  unfold sweepModeWritten
  repeat' split
  all_goals rfl

@[simp] theorem controls_rescale (w : List FieldId) (c : Nat) : (rescale w c s).controls = s.controls := by
  simp [rescale]

@[simp] theorem controls_consequences (b : State) (w : List FieldId) (es : List Entry) (g : List Nat) :
    (consequences b w es g s).controls = s.controls := by simp [consequences]

@[simp] theorem controls_createRec (k : Kind) (i : Nat) : (createRec k i s).controls = s.controls := by
  unfold createRec; dsimp only; split <;> rfl

@[simp] theorem controls_freeRec (k : Kind) (i : Nat) : (freeRec k i s).controls = s.controls := rfl

@[simp] theorem controls_removeEntries (k : Kind) (i : Nat) : (removeEntries k i s).controls = s.controls := by
  simp [removeEntries]

@[simp] theorem controls_voidBinds (h : Int) (o : Nat) : (voidBinds h o s).controls = s.controls := by simp [voidBinds]

@[simp] theorem controls_dropBinding (k : Kind) (i b : Nat) : (dropBinding k i b s).controls = s.controls := by
  unfold dropBinding; split <;> simp

@[simp] theorem controls_dropLamp (k : Kind) (i l : Nat) : (dropLamp k i l s).controls = s.controls := by
  unfold dropLamp; split <;> simp

@[simp] theorem controls_dropGate (h : Int) (m : Nat) : (dropGate h m s).controls = s.controls := by
  unfold dropGate; dsimp only; split <;> simp

@[simp] theorem controls_dropMeasurement (i : Nat) : (dropMeasurement i s).controls = s.controls := rfl

@[simp] theorem controls_retireRec (k : Kind) (i : Nat) : (retireRec k i s).controls = s.controls := by
  unfold retireRec
  dsimp only
  split <;> split <;> simp

@[simp] theorem controls_recallRecords (es : List Entry) : (recallRecords es s).controls = s.controls := by
  simp [recallRecords]

theorem controls_applyEntry (r : Bool) (acc : State × List FieldId) (e : Entry) :
    (applyEntry r acc e).1.controls = acc.1.controls := by
  unfold applyEntry
  split
  · rfl
  · split <;> rfl

theorem controls_applyEntries (r : Bool) (es : List Entry) (acc : State × List FieldId) :
    (es.foldl (applyEntry r) acc).1.controls = acc.1.controls := by
  induction es generalizing acc with
  | nil => rfl
  | cons e es ih => exact (ih _).trans (controls_applyEntry r acc e)

@[simp] theorem controls_reclampMeasurement (i : Nat) : (reclampMeasurement i s).controls = s.controls := by
  unfold reclampMeasurement; dsimp only; split <;> rfl

@[simp] theorem controls_readoutAgree (o : Nat) : (readoutAgree o s).controls = s.controls := by
  unfold readoutAgree; dsimp only; split <;> simp

@[simp] theorem controls_reclampOffset (c : Nat) : (reclampOffset c s).controls = s.controls := rfl
@[simp] theorem controls_reclampPosition (i : Nat) : (reclampPosition i s).controls = s.controls := rfl
@[simp] theorem controls_reclampWide : (reclampWide s).controls = s.controls := rfl

@[simp] theorem controls_reclamps (es : List Entry) (w : List FieldId) : (reclamps es w s).controls = s.controls := by
  simp [reclamps]

/-- A change moves no more of the sweep controller than the settle and auto timers (R26, R72, R74). -/
@[simp] theorem controls_applyChange (c : Change) : (applyChange c s).controls = s.controls := by
  unfold applyChange
  dsimp only
  rw [controls_oweRetry, controls_emptyOrigin, controls_consequences, controls_reclamps, controls_applyEntries]
  dsimp only
  split
  · exact controls_recallRecords _
  · rfl

@[simp] theorem controls_drain (n : Nat) : (drain n s).controls = s.controls := by
  induction n generalizing s with
  | zero => rfl
  | succ n ih =>
    unfold drain
    split
    · rfl
    · rw [ih, controls_applyChange]; rfl

theorem controls_examine : (examine s).controls = s.controls := controls_drain _

/-! ## Abandonment (R22, R60, R80, R81) -/

theorem abandon_capture (h : s.sweep.acq.capture = true) : abandon s = { s with
    comb := (combAbandon s).comb
    sweep := { s.sweep with acq := .settling, force := false, auto := none, colCount := 0 } } := by
  rw [abandon, if_pos h]
  rfl

theorem abandonAndFlush_capture (h : s.sweep.acq.capture = true) :
    abandonAndFlush s = examine (releaseAll (abandon s)) := if_pos h

/-- With an empty queue nothing follows the abandonment (R22, R23). -/
theorem abandonAndFlush_nil (h : s.sweep.acq.capture = true) (hq : s.store.queue = []) :
    abandonAndFlush s = abandon s := by
  rw [abandonAndFlush_capture h, examine_releaseAll_nil]
  rw [abandon_capture h]
  exact hq

/-- Whatever the flushed changes write, no force is pending after an abandonment (R80, R81). -/
theorem abandonAndFlush_force (h : s.sweep.acq.capture = true) : (abandonAndFlush s).sweep.force = false := by
  have hcontrols : (abandonAndFlush s).controls = (abandon s).controls := by
    rw [abandonAndFlush_capture h]
    exact controls_examine
  have habandon : (abandon s).controls.force = false := by rw [abandon_capture h]; rfl
  exact (congrArg Sweep.force hcontrols).trans habandon

/-- An abandonment frees the first filling bank of each channel (R60). -/
theorem combAbandon_banks {ch : Nat} {bs : List Bank} (hch : ch < 4) (h : s.comb.banks[ch]? = some bs) :
    (combAbandon s).comb.banks[ch]?
      = some (modFirst (fun b => b.role == .filling) (fun b => { b with role := .free }) bs) := by
  interval_cases ch <;> simp [combAbandon, forChannels, modFilling, h]

/-! ## STOP and SINGLE (R80, R81) -/

/-- Acquisition STOPPED: nothing pending, the holdoff and auto timers idle, the comparator disarmed (R70, R80). -/
def State.halted (s : State) : State :=
  disarm { s with sweep := { s.sweep with
    acq := .stopped, holdoff := none, auto := none, single := false, force := false } }

theorem takeStop_halted :
    takeStop s = (if s.sweep.acq.capture then examine (releaseAll (setAcq .stopped (abandon s))) else s).halted := rfl

theorem takeStop_idle (h : s.sweep.acq.capture = false) : takeStop s = s.halted := by
  rw [takeStop_halted, h]
  rfl

/-- STOP in a capture, with an empty queue (R80, R22). -/
theorem takeStop_capture_nil (h : s.sweep.acq.capture = true) (hq : s.store.queue = []) :
    takeStop s = (setAcq .stopped (abandon s)).halted := by
  have hq' : (setAcq .stopped (abandon s)).store.queue = [] := by rw [abandon_capture h]; exact hq
  rw [takeStop_halted, if_pos h, examine_releaseAll_nil hq']

theorem capture_cases {a : Acq} (h : a.capture = true) : a = .arming ∨ a = .waiting ∨ a = .capturing := by
  cases a <;> simp [Acq.capture] at h ⊢

/-- Single pending set (R81). -/
def State.singled (s : State) : State := { s with sweep := { s.sweep with single := true } }

theorem takeSingle_stopped (h : s.sweep.acq = .stopped) : takeSingle s = settleOrArm s.singled := by
  unfold takeSingle
  rw [h]
  exact if_pos h

theorem takeSingle_capture (h : s.sweep.acq.capture = true) :
    takeSingle s = settleOrArm (abandonAndFlush s).singled := by
  unfold takeSingle
  obtain ha | ha | ha := capture_cases h <;> rw [ha] <;> rfl

theorem takeSingle_waits (h : s.sweep.acq = .settling ∨ s.sweep.acq = .holdoff) : takeSingle s = s.singled := by
  unfold takeSingle
  obtain h | h := h <;> rw [h] <;> rfl

/-- The three rows of SINGLE (R81). -/
theorem acq_cases (a : Acq) : a = .stopped ∨ a.capture = true ∨ (a = .settling ∨ a = .holdoff) := by
  cases a <;> simp [Acq.capture]

/-- SINGLE always leaves acquisition running with single pending set (R81). -/
theorem takeSingle_runs : (takeSingle s).sweep.single = true ∧ (takeSingle s).sweep.acq ≠ .stopped := by
  obtain h | h | h := acq_cases s.sweep.acq
  · rw [takeSingle_stopped h]
    obtain ⟨hacq, hsingle, -⟩ := settleOrArm_sweep (s := s.singled)
    exact ⟨hsingle, hacq⟩
  · rw [takeSingle_capture h]
    obtain ⟨hacq, hsingle, -⟩ := settleOrArm_sweep (s := (abandonAndFlush s).singled)
    exact ⟨hsingle, hacq⟩
  · rw [takeSingle_waits h]
    refine ⟨rfl, ?_⟩
    obtain h | h := h <;> simp [State.singled, h]

/-- SINGLE in a capture: what the settle timer decides once the changes it flushed have applied (R81). -/
theorem takeSingle_capture_acq (h : s.sweep.acq.capture = true) :
    ((takeSingle s).sweep.settle ≠ none → (takeSingle s).sweep.acq = .settling)
    ∧ ((takeSingle s).sweep.settle = none → (takeSingle s).sweep.acq = .arming ∨ (takeSingle s).sweep.acq = .waiting) := by
  rw [takeSingle_capture h]
  obtain ⟨-, -, hsettle, hacq⟩ := settleOrArm_sweep (s := (abandonAndFlush s).singled)
  refine ⟨hacq, fun hn => ?_⟩
  rw [settleOrArm_arm (hsettle.symm.trans hn)]
  exact captureStart_acq (abandonAndFlush_force h)

/-- SINGLE in a capture with nothing to flush: SETTLING while the settle timer runs (R81). -/
theorem takeSingle_capture_settling (h : s.sweep.acq.capture = true) (hq : s.store.queue = [])
    (hsettle : s.sweep.settle ≠ none) : takeSingle s = setAcq .settling (abandon s).singled := by
  rw [takeSingle_capture h, abandonAndFlush_nil h hq, settleOrArm_settling]
  rw [abandon_capture h]
  exact hsettle

theorem armed_abandon (h : s.sweep.acq.capture = true) : (abandon s).singled.armed = { s with
    comb := (combStart (combAbandon s)).comb
    sweep := { s.sweep with
      acq := .arming, single := true, force := false, auto := none, colCount := 0, trigKind := .none } } := by
  have hcomb (w : Sweep) : (combStart { s with comb := (combAbandon s).comb, sweep := w }).comb
      = (combStart (combAbandon s)).comb := combStart_withSweep (s := combAbandon s) w
  rw [abandon_capture h, State.singled, State.armed, hcomb]

/-- SINGLE in a capture with nothing to flush: a new capture once the settle timer is idle (R81). -/
theorem takeSingle_capture_arming (h : s.sweep.acq.capture = true) (hq : s.store.queue = [])
    (hsettle : s.sweep.settle = none) (hp : 0 < s.get Fld.tbTrigColumn) : takeSingle s = (abandon s).singled.armed := by
  have hstore : (abandon s).singled.store = s.store := by rw [abandon_capture h]; rfl
  have hidle : (abandon s).singled.sweep.settle = none := by rw [abandon_capture h]; exact hsettle
  have hp' : 0 < (abandon s).singled.get Fld.tbTrigColumn := hp.trans_eq (get_of_store hstore (by decide)).symm
  rw [takeSingle_capture h, abandonAndFlush_nil h hq, settleOrArm_arm hidle, captureStart_arming hp']

/-! ## The commands as taken (R181) -/

theorem exec_run (h : s.takes .run = true) : exec .run s = .next ((takeRun s).answer .ok [] .none) := by
  rw [exec, execRun, takeCommand_takes h, respond_accept]

theorem exec_stop (h : s.takes .stop = true) : exec .stop s = .next ((takeStop s).answer .ok [] .none) := by
  rw [exec, execStop, takeCommand_takes h, respond_accept]

theorem exec_single (h : s.takes .single = true) : exec .single s = .next ((takeSingle s).answer .ok [] .none) := by
  rw [exec, execSingle, takeCommand_takes h, respond_accept]

theorem exec_force_taken (h : s.takes .force = true) (hf : takeForce s = some t) :
    exec .force s = .next (t.answer .ok [] .none) := by
  rw [exec, execForce, takeCommand_takes h, hf, respond_accept]

theorem exec_force_refused (h : s.takes .force = true) (hf : takeForce s = none) :
    exec .force s = .next (s.answer .wrongState [] .none) := by
  rw [exec, execForce, takeCommand_takes h, hf, respond_refuse]

theorem takeForce_waiting (h : s.sweep.acq = .waiting) : takeForce s = some (triggerEvent .forced s) := by
  rw [takeForce, h]

theorem takeForce_arming (h : s.sweep.acq = .arming) :
    takeForce s = some { s with sweep := { s.sweep with force := true } } := by
  rw [takeForce, h]

theorem takeForce_none (hw : s.sweep.acq ≠ .waiting) (ha : s.sweep.acq ≠ .arming) : takeForce s = none := by
  unfold takeForce
  split
  · exact absurd ‹_› hw
  · exact absurd ‹_› ha
  · rfl

/-- The auto timer's expiry in WAITING (R74, R75). -/
theorem exec_autoTimerExpiry_waiting (hh : s.held = false) (ha : s.sweep.acq = .waiting) (hauto : s.sweep.auto ≠ none) :
    exec .autoTimerExpiry s = .next (triggerEvent .auto (setAuto none s)) := by
  obtain ⟨n, hn⟩ := Option.ne_none_iff_exists'.1 hauto
  rw [exec, execAutoTimerExpiry, awake_running hh, hn]
  exact congrArg Host.Outcome.next (if_pos ha)

end Sys2Proof.Machine

/-! ## The statements -/

open Sys2Proof Sys2Proof.Machine

/-- Settles O25: RUN acts in STOPPED alone, where the settle timer chooses between SETTLING and a capture start. -/
theorem runTaken : Obligations.RunTaken := by
  intro s h
  rw [exec_run h]
  refine ⟨fun ha => ?_, fun ha hsettle => ?_, fun ha hsettle _ => ?_⟩
  · rw [takeRun, if_neg ha]
  · rw [takeRun, if_pos ha, settleOrArm_settling hsettle]
  · rw [takeRun, if_pos ha, settleOrArm_arm hsettle]
    obtain ⟨hcap, hplace⟩ := captureStart_capture (s := s)
    refine ⟨_, rfl, captureStart_sweep, ?_, ⟨rfl, rfl⟩, hcap, hplace, ?_, ?_, ?_, ?_, ?_,
      restKept_answer shell_captureStart⟩
    all_goals rw [captureStart_eq]; rfl

/-- Settles O26: STOP and SINGLE abandon a capture; a change that this lets apply moves no more of the sweep controller than
its settle and auto timers, so that no force is pending where SINGLE starts the next capture. -/
theorem stopAndSingleTaken : Obligations.StopAndSingleTaken := by
  refine ⟨fun s h => ?_, fun s h => ⟨fun ha => ?_, ?_⟩, fun s h hc hq hsettle => ?_, fun s h hc hq hsettle hp => ?_,
    fun s ch bs hch hb => combAbandon_banks hch hb⟩
  · refine ⟨_, exec_stop h, ⟨rfl, rfl⟩, rfl, rfl, rfl, rfl, rfl, rfl, rfl, restKept_answer shell_takeStop,
      fun hc => ?_, fun hc hq => ?_⟩
    · rw [takeStop_idle hc]
      exact ⟨rfl, rfl, rfl, rfl, rfl, rfl, rfl⟩
    · rw [takeStop_capture_nil hc hq, abandon_capture hc]
      exact ⟨rfl, rfl, rfl⟩
  · rw [exec_single h, takeSingle_waits ha]
    rfl
  · obtain ⟨hsingle, hacq⟩ := takeSingle_runs (s := s)
    exact ⟨_, exec_single h, ⟨rfl, rfl⟩, hsingle, hacq, restKept_answer shell_takeSingle, takeSingle_capture_acq⟩
  · rw [exec_single h, takeSingle_capture_settling hc hq hsettle, abandon_capture hc]
    rfl
  · refine ⟨_, exec_single h, ⟨rfl, rfl⟩, ?_, ?_, ?_, ?_, ?_, ?_, restKept_answer shell_takeSingle⟩
    all_goals rw [takeSingle_capture_arming hc hq hsettle hp, armed_abandon hc]; dsimp only [State.answer]

/-- Settles O27: a trigger moves the combiner and the sweep controller alone. -/
theorem triggersInWaiting : Obligations.TriggersInWaiting := by
  refine ⟨fun s h => ⟨fun ha => ?_, fun ha => ?_, fun hw ha => ?_⟩, fun s hh ha hauto => ?_⟩
  · exact ⟨_, exec_force_taken h (takeForce_waiting ha), ⟨rfl, rfl⟩, rfl, rfl, rfl, rfl, rfl, rfl, rfl,
      restKept_answer (shell_triggerEvent .forced)⟩
  · exact exec_force_taken h (takeForce_arming ha)
  · exact exec_force_refused h (takeForce_none hw ha)
  · exact ⟨_, exec_autoTimerExpiry_waiting hh ha hauto, rfl, rfl, rfl, rfl, rfl, rfl, rfl, rfl,
      restKept_of_shell (shell_triggerEvent .auto)⟩

end

section
/-! SUPPORT. The trigger unit: the comparator (R69), the level as a code and as a value (R65, R68), and the tracking step
(R86). -/

namespace Sys2Proof.Machine

variable {s t : State}

/-! ## The comparator (R69) -/

/-- A half that cannot both reach its level and be far enough on the other side is armed after a sample where it is far
enough, or was armed and did not reach the level. -/
theorem compHalf_armed {armed : Bool} {reach away : Prop} [Decidable reach] [Decidable away] (h : away → ¬ reach) :
    (compHalf armed (decide reach) (decide away)).1 = true ↔ away ∨ (armed = true ∧ ¬ reach) := by
  cases armed with
  | false => simp [compHalf]
  | true =>
    by_cases hr : reach
    · have ha : ¬ away := fun ha => h ha hr
      simp [compHalf, hr, ha]
    · simp [compHalf, hr]

/-- A half fires where it was armed and reaches its level. -/
theorem compHalf_fired {armed : Bool} {reach : Prop} [Decidable reach] {away : Bool} :
    (compHalf armed (decide reach) away).2 = true ↔ armed = true ∧ reach := by
  cases armed <;> by_cases hr : reach <;> simp [compHalf, hr]

/-! ## The level (R65, R68) -/

theorem roundAway_mul {a b : Int} (hb : 0 < b) : roundAway (a * b) b = a := by
  have hpos : ∀ c, (2 * (c * b) + b) / (2 * b) = c := by
    intro c
    rw [show 2 * (c * b) + b = b + c * (2 * b) by ring, Int.add_mul_ediv_right _ _ (by omega),
      Int.ediv_eq_zero_of_lt (by omega) (by omega), zero_add]
  unfold roundAway
  split
  · exact hpos a
  · rw [← neg_mul, hpos, neg_neg]

/-- With a SCALE_UV of whole millivolts a code step is a whole number of microvolts (R68). -/
theorem levelOfCode_eq (c m off : Int) : levelOfCode c (1000 * m) off = 10 * ((c - 512) * m) - off := by
  unfold levelOfCode
  rw [show (c - 512) * (1000 * m) = 10 * ((c - 512) * m) * 100 by ring, Int.mul_ediv_cancel _ (by decide)]

theorem codeStep_bounds {c m : Int} (h0 : 0 ≤ c) (h1 : c ≤ 1023) (hm : 1 ≤ m) (hm' : m ≤ 500000) :
    -256000000 ≤ (c - 512) * m ∧ (c - 512) * m ≤ 256000000 := by
  constructor <;> nlinarith

/-! ## Fields of a kept record table (R1, R3) -/

/-- The record of a field, and the field's place in it, stand in the tables (R1, R3). -/
def FieldId.stored (f : FieldId) : Bool :=
  decide (f.inst < kindSize f.kind ∧ f.num < (specsOf f.kind).length ∧ f ≠ Fld.tbState)

theorem mem_allKinds (k : Kind) : k ∈ allKinds := by cases k <;> decide

theorem tableKept_iff : s.tableKept = true ↔
    ∀ k, (s.store.table k).length = kindSize k ∧ ∀ r, r ∈ s.store.table k → recKept k r = true := by
  simp only [State.tableKept, List.all_eq_true, Bool.and_eq_true, beq_iff_eq]
  exact ⟨fun h k => h k (mem_allKinds k), fun h k _ => h k⟩

theorem tableKept_setVal (h : s.tableKept = true) (f : FieldId) (v : Int) : (setVal f v s).tableKept = true := by
  rw [tableKept_iff] at h ⊢
  intro k
  by_cases hk : k = f.kind
  · subst hk
    obtain ⟨hlen, hrec⟩ := h f.kind
    simp only [setVal, modRec_store, table_setTable, List.length_modify]
    refine ⟨hlen, fun r hr => ?_⟩
    obtain ⟨n, hn⟩ := List.mem_iff_getElem?.1 hr
    obtain ⟨x, hx, rfl⟩ : ∃ x, (s.store.table f.kind)[n]? = some x
        ∧ (if f.inst = n then { x with vals := x.vals.set f.num v } else x) = r := by
      simpa [List.getElem?_modify] using hn
    have hxrec := hrec x (List.mem_of_getElem? hx)
    split
    · simpa [recKept] using hxrec
    · exact hxrec
  · simp only [setVal, modRec_store, table_setTable_other _ _ hk]
    exact h k

/-- In a kept record table a stored field reads as written. -/
theorem get_setVal_kept {f : FieldId} {v : Int} (h : s.tableKept = true) (hf : f.stored = true) : (setVal f v s).get f = v := by
  obtain ⟨hinst, hnum, hstate⟩ := of_decide_eq_true hf
  obtain ⟨hlen, hrec⟩ := tableKept_iff.1 h f.kind
  have hin : f.inst < (s.store.table f.kind).length := hlen ▸ hinst
  refine get_setVal_same hin ?_ hstate
  have hkept := hrec (s.recAt f.kind f.inst)
    (by rw [State.recAt, List.getD_eq_getElem _ _ hin]; exact List.getElem_mem hin)
  simp only [recKept, Bool.and_eq_true, beq_iff_eq] at hkept
  exact hkept.1 ▸ hnum

/-! ## The tracking step (R86) -/

/-- A step of at most d toward e. -/
theorem sign_mul_min {e d : Int} (hd : 0 ≤ d) : sign e * min (e.natAbs : Int) d = limit (-d) d e := by
  unfold sign limit
  repeat' split
  all_goals omega

/-- The middle of a bank's codes, as the tracking step aims for it (R86). -/
def Header.middle (h : Header) : Int := ((h.sweepMin + h.sweepMax) / 2 : Nat)

/-- The tracking step's next state of holding: it holds within AL_STABLE, and once it does within AL_WIDE (R86). -/
def State.holds (s : State) (h : Header) : Bool :=
  let mag : Int := (h.middle - s.get Fld.trLevelCode).natAbs
  if isOn (s.get Fld.trAlHolding) then !decide (s.get Fld.trAlWide < mag) else decide (mag ≤ s.get Fld.trAlStable)

/-- The code that a tracking step moves to: toward the middle by at most AL_DELTA (R86). -/
def State.trackedCode (s : State) (h : Header) : Int :=
  let e := h.middle - s.get Fld.trLevelCode
  limit 0 1023 (s.get Fld.trLevelCode + sign e * min (e.natAbs : Int) (s.get Fld.trAlDelta))

theorem trackedCode_eq {h : Header} (hd : 0 ≤ s.get Fld.trAlDelta) : s.trackedCode h = limit 0 1023
    (s.get Fld.trLevelCode + limit (-(s.get Fld.trAlDelta)) (s.get Fld.trAlDelta) (h.middle - s.get Fld.trLevelCode)) := by
  rw [State.trackedCode, sign_mul_min hd]

/-- LEVEL_CODE moved, LEVEL_UV rewritten by the conversion of R68, the comparator disarmed (R70, R86). -/
def State.movedTo (s : State) (code : Int) : State :=
  disarm (setVal Fld.trLevelClipped 0
    (setVal Fld.trLevelUv (levelOfCode code (s.get (Fld.chScaleUv s.source)) (s.get (Fld.chOffsetUv s.source)))
      (setVal Fld.trLevelCode code s)))

/-- The tracking step holds, or finds the level in the middle, or moves it (R86). -/
theorem trackStep_eq {h : Header} (hv : h.validCount ≠ 0) : trackStep h s =
    if s.holds h then setVal Fld.trAlHolding 1 s
    else if s.trackedCode h = s.get Fld.trLevelCode then setVal Fld.trAlHolding 0 s
    else (setVal Fld.trAlHolding 0 s).movedTo (s.trackedCode h) := by
  have hdelta : ∀ v, (setVal Fld.trAlHolding v s).get Fld.trAlDelta = s.get Fld.trAlDelta :=
    fun _ => get_setVal_other (by decide)
  unfold trackStep
  rw [if_neg hv]
  simp only [hdelta]
  change (if s.holds h = true then setVal Fld.trAlHolding (ofBool (s.holds h)) s
    else if s.trackedCode h = s.get Fld.trLevelCode then setVal Fld.trAlHolding (ofBool (s.holds h)) s
    else (setVal Fld.trAlHolding (ofBool (s.holds h)) s).movedTo (s.trackedCode h)) = _
  cases s.holds h <;> rfl

theorem holds_iff {h : Header} : s.holds h = true ↔
    (s.get Fld.trAlHolding = 0 ∧ ((h.middle - s.get Fld.trLevelCode).natAbs : Int) ≤ s.get Fld.trAlStable)
    ∨ (s.get Fld.trAlHolding ≠ 0 ∧ ((h.middle - s.get Fld.trLevelCode).natAbs : Int) ≤ s.get Fld.trAlWide) := by
  by_cases hz : s.get Fld.trAlHolding = 0 <;> simp [State.holds, isOn, hz]

/-- The fields a tracking step writes (R86). -/
def trackedFields : List FieldId := [Fld.trAlHolding, Fld.trLevelCode, Fld.trLevelClipped, Fld.trLevelUv]

theorem get_movedTo_other {code : Int} {g : FieldId} (hcode : g ≠ Fld.trLevelCode) (hclipped : g ≠ Fld.trLevelClipped)
    (huv : g ≠ Fld.trLevelUv) : (s.movedTo code).get g = s.get g :=
  calc (s.movedTo code).get g
      = (setVal Fld.trLevelClipped 0 (setVal Fld.trLevelUv _ (setVal Fld.trLevelCode code s))).get g := rfl
    _ = s.get g := by rw [get_setVal_other hclipped, get_setVal_other huv, get_setVal_other hcode]

/-- What a moved level reads as (R68, R86). -/
theorem get_movedTo {code : Int} (h : s.tableKept = true) :
    (s.movedTo code).get Fld.trLevelCode = code ∧ (s.movedTo code).get Fld.trLevelClipped = 0
    ∧ (s.movedTo code).get Fld.trLevelUv
        = levelOfCode code (s.get (Fld.chScaleUv s.source)) (s.get (Fld.chOffsetUv s.source)) := by
  have hcode := tableKept_setVal h Fld.trLevelCode code
  have huv := tableKept_setVal hcode Fld.trLevelUv
    (levelOfCode code (s.get (Fld.chScaleUv s.source)) (s.get (Fld.chOffsetUv s.source)))
  refine ⟨?_, get_setVal_kept huv (by decide), ?_⟩
  · calc (s.movedTo code).get Fld.trLevelCode
        = (setVal Fld.trLevelClipped 0 (setVal Fld.trLevelUv _ (setVal Fld.trLevelCode code s))).get Fld.trLevelCode := rfl
      _ = code := by
        rw [get_setVal_other (by decide), get_setVal_other (by decide), get_setVal_kept h (by decide)]
  · calc (s.movedTo code).get Fld.trLevelUv
        = (setVal Fld.trLevelClipped 0 (setVal Fld.trLevelUv _ (setVal Fld.trLevelCode code s))).get Fld.trLevelUv := rfl
      _ = _ := by rw [get_setVal_other (by decide), get_setVal_kept hcode (by decide)]

/-- A tracking step that holds sets AL_HOLDING alone (R86). -/
theorem trackStep_holds {h : Header} (hv : h.validCount ≠ 0) (hh : s.holds h = true) :
    trackStep h s = setVal Fld.trAlHolding 1 s := by
  rw [trackStep_eq hv, if_pos hh]

/-- A tracking step that does not hold clears AL_HOLDING, and a code that differs is moved to (R86). -/
theorem trackStep_not_holds {h : Header} (hv : h.validCount ≠ 0) (hh : ¬ s.holds h = true) :
    (s.trackedCode h = s.get Fld.trLevelCode ∧ trackStep h s = setVal Fld.trAlHolding 0 s)
    ∨ (s.trackedCode h ≠ s.get Fld.trLevelCode
      ∧ trackStep h s = (setVal Fld.trAlHolding 0 s).movedTo (s.trackedCode h)) := by
  rw [trackStep_eq hv, if_neg hh]
  by_cases hsame : s.trackedCode h = s.get Fld.trLevelCode
  · exact .inl ⟨hsame, if_pos hsame⟩
  · exact .inr ⟨hsame, if_neg hsame⟩

/-- The tracking step writes no other field (R86). -/
theorem get_trackStep_other {h : Header} {g : FieldId} (hg : g ∉ trackedFields) : (trackStep h s).get g = s.get g := by
  obtain ⟨hholding, hcode, hclipped, huv⟩ : g ≠ Fld.trAlHolding ∧ g ≠ Fld.trLevelCode ∧ g ≠ Fld.trLevelClipped
      ∧ g ≠ Fld.trLevelUv := by simpa [trackedFields] using hg
  by_cases hv : h.validCount = 0
  · rw [trackStep, if_pos hv]
  · rw [trackStep_eq hv]
    split
    · exact get_setVal_other hholding
    · split
      · exact get_setVal_other hholding
      · rw [get_movedTo_other hcode hclipped huv, get_setVal_other hholding]

/-- What the tracking step leaves the level at where it does not hold (R68, R70, R86). -/
theorem trackStep_level {h : Header} (ht : s.tableKept = true) (hv : h.validCount ≠ 0) (hh : ¬ s.holds h = true) :
    (trackStep h s).get Fld.trAlHolding = 0 ∧ (trackStep h s).get Fld.trLevelCode = s.trackedCode h
    ∧ (s.trackedCode h ≠ s.get Fld.trLevelCode →
        (trackStep h s).trig.armedRise = false ∧ (trackStep h s).trig.armedFall = false
        ∧ (trackStep h s).get Fld.trLevelClipped = 0
        ∧ (trackStep h s).get Fld.trLevelUv
            = levelOfCode (s.trackedCode h) (s.get (Fld.chScaleUv s.source)) (s.get (Fld.chOffsetUv s.source))) := by
  have hholding : (setVal Fld.trAlHolding 0 s).get Fld.trAlHolding = 0 := get_setVal_kept ht (by decide)
  obtain ⟨hsame, heq⟩ | ⟨hmoves, heq⟩ := trackStep_not_holds hv hh
  · rw [heq]
    exact ⟨hholding, (get_setVal_other (by decide)).trans hsame.symm, fun hne => absurd hsame hne⟩
  · obtain ⟨hcode, hclipped, huv⟩ := get_movedTo (code := s.trackedCode h) (tableKept_setVal ht Fld.trAlHolding 0)
    have hget : ∀ f, f ≠ Fld.trAlHolding → (setVal Fld.trAlHolding 0 s).get f = s.get f := fun _ => get_setVal_other
    have hsource : (setVal Fld.trAlHolding 0 s).source = s.source := congrArg Int.toNat (hget _ (by decide))
    rw [hsource, hget (Fld.chScaleUv s.source) nofun, hget (Fld.chOffsetUv s.source) nofun] at huv
    rw [heq]
    exact ⟨(get_movedTo_other (by decide) (by decide) (by decide)).trans hholding, hcode,
      fun _ => ⟨rfl, rfl, hclipped, huv⟩⟩

end Sys2Proof.Machine

/-! ## The statements -/

open Sys2Proof Sys2Proof.Machine

/-- Settles O35: with a hysteresis of at least 1 the arming side of a half lies strictly off its level. -/
theorem comparatorHalves : Obligations.ComparatorHalves := by
  intro level hyst x t hhyst
  have rise := compHalf_armed (armed := t.armedRise) (reach := level ≤ x) (away := x ≤ level - hyst) (by omega)
  have fall := compHalf_armed (armed := t.armedFall) (reach := x ≤ level) (away := level + hyst ≤ x) (by omega)
  rw [not_le] at rise fall
  refine ⟨?_, ?_, ?_, ?_, ?_, rfl, rfl⟩
  · rintro slope (rfl | rfl) <;> exact rise
  · rintro slope (rfl | rfl) <;> exact fall
  · exact (iff_of_eq (congrArg (· = true) (Bool.or_false _))).trans compHalf_fired
  · exact compHalf_fired
  · exact (Bool.or_eq_true_iff ..).trans (or_congr compHalf_fired compHalf_fired)

/-- Settles O36: a code step is a whole number of microvolts, so no conversion rounds; and the tracking step is R86's. -/
theorem levelRoundTrip : Obligations.LevelRoundTrip := by
  refine ⟨fun c m off h0 h1 hm hm' hoff hoff' => ?_, ?_⟩
  · obtain ⟨hlow, hhigh⟩ := codeStep_bounds h0 h1 hm hm'
    have hvalue : roundAway ((64 * c - 32768) * (1000 * m)) 6400 = 10 * ((c - 512) * m) := by
      rw [show (64 * c - 32768) * (1000 * m) = 10 * ((c - 512) * m) * 6400 by ring, roundAway_mul (by decide)]
    have hback : roundAway ((10 * ((c - 512) * m) - off + off) * 100) (1000 * m) = c - 512 := by
      rw [show (10 * ((c - 512) * m) - off + off) * 100 = (c - 512) * (1000 * m) by ring, roundAway_mul (by omega)]
    rw [levelOfCode_eq]
    refine ⟨?_, ?_, by ring, by omega, by omega⟩
    · rw [valueUv, hvalue, limit_of_mem] <;> simp only [int64Min, int64Max] <;> omega
    · rw [levelCodeRaw, hback]
      omega
  · rintro h s l e ht hv rfl rfl hd
    refine ⟨_, rfl, fun hholds => trackStep_holds hv (holds_iff.2 hholds), fun hmoves => ?_, fun g h1 h2 h3 h4 => ?_⟩
    · have hnot : ¬ s.holds h = true := by
        rw [holds_iff, Header.middle]
        omega
      obtain ⟨hholding, hcode, hmoved⟩ := trackStep_level ht hv hnot
      refine ⟨hholding, hcode.trans (trackedCode_eq hd), fun hne => ?_⟩
      rw [hcode] at hne ⊢
      exact hmoved hne
    · exact get_trackStep_other (by simp [trackedFields, h1, h2, h3, h4])
end

section
/-! SUPPORT. The timers' expiries (R72, R78) and the sweep end (R53, R59, R77, R85, R93). -/

namespace Sys2Proof.Machine

variable {s t : State}

/-! ## The timers (R72, R78) -/

theorem exec_settleExpiry (hh : s.held = false) (h : s.sweep.settle ≠ none) : exec .settleExpiry s =
    .next (if s.sweep.acq = .settling then captureStart { s with sweep := { s.sweep with settle := none } }
      else { s with sweep := { s.sweep with settle := none } }) := by
  obtain ⟨n, hn⟩ := Option.ne_none_iff_exists'.1 h
  rw [exec, execSettleExpiry, awake_running hh, hn]

theorem exec_holdoffExpiry (hh : s.held = false) (h : s.sweep.holdoff ≠ none) : exec .holdoffExpiry s =
    .next (if s.sweep.acq = .holdoff then captureStart { s with sweep := { s.sweep with holdoff := none } }
      else { s with sweep := { s.sweep with holdoff := none } }) := by
  obtain ⟨n, hn⟩ := Option.ne_none_iff_exists'.1 h
  rw [exec, execHoldoffExpiry, awake_running hh, hn]

/-- A capture start after a move of the sweep controller alone, which the records do not see (R73). -/
theorem captureStart_withSweep (w : Sweep) :
    (captureStart { s with sweep := w }).sweep = { s with sweep := w }.captureSweep
    ∧ (captureStart { s with sweep := w }).store = s.store ∧ (captureStart { s with sweep := w }).link = s.link
    ∧ (captureStart { s with sweep := w }).comb.cap = s.captureNow ∧ (captureStart { s with sweep := w }).path = s.path
    ∧ (captureStart { s with sweep := w }).trig = s.trig ∧ (captureStart { s with sweep := w }).meas = s.meas
    ∧ (captureStart { s with sweep := w }).panel = s.panel ∧ (captureStart { s with sweep := w }).notices = s.notices
    ∧ s.restKept (captureStart { s with sweep := w }) := by
  refine ⟨captureStart_sweep, ?_, ?_, captureStart_capture.1, ?_, ?_, ?_, ?_, ?_,
    restKept_of_shell (shell_captureStart.trans (shell_withSweep w))⟩
  all_goals rw [captureStart_eq]

theorem captureSweep_withSettle (x : Option Nat) : { s with sweep := { s.sweep with settle := x } }.captureSweep =
    if 0 < s.get Fld.tbTrigColumn then
      { s.sweep with settle := x, acq := .arming, colCount := 0, trigKind := .none }
    else { s.startsWaiting with settle := x } := by
  unfold State.captureSweep State.startsWaiting
  cases s.sweep.force <;> rfl

theorem captureSweep_withHoldoff (x : Option Nat) : { s with sweep := { s.sweep with holdoff := x } }.captureSweep =
    if 0 < s.get Fld.tbTrigColumn then
      { s.sweep with holdoff := x, acq := .arming, colCount := 0, trigKind := .none }
    else { s.startsWaiting with holdoff := x } := by
  unfold State.captureSweep State.startsWaiting
  cases s.sweep.force <;> rfl

/-! ## Channels in turn -/

/-- What holds until a channel's turn, and what its turn makes of it, where the other channels' turns leave both alone. -/
theorem forChannels_turn {g : Nat → State → State} {P Q : State → Prop} {ch : Nat} (hch : ch < 4)
    (before : ∀ c u, c ≠ ch → P u → P (g c u)) (turn : ∀ u, P u → Q (g ch u))
    (after : ∀ c u, c ≠ ch → Q u → Q (g c u)) (h : P s) : Q (forChannels g s) := by
  simp only [forChannels, List.foldl]
  interval_cases ch
  · exact after 3 _ (by decide) (after 2 _ (by decide) (after 1 _ (by decide) (turn _ h)))
  · exact after 3 _ (by decide) (after 2 _ (by decide) (turn _ (before 0 _ (by decide) h)))
  · exact after 3 _ (by decide) (turn _ (before 1 _ (by decide) (before 0 _ (by decide) h)))
  · exact turn _ (before 2 _ (by decide) (before 1 _ (by decide) (before 0 _ (by decide) h)))

/-! ## Banks -/

theorem chan_modBanks_same {ch : Nat} {g : List Bank → List Bank} (hnil : g [] = []) :
    (modBanks ch g s).comb.chan ch = g (s.comb.chan ch) := by
  simp only [modBanks_comb, Comb.chan, List.getD_eq_getElem?_getD, List.getElem?_modify_eq]
  cases s.comb.banks[ch]? with
  | none => exact hnil.symm
  | some bs => rfl

theorem chan_modBanks_other {ch c : Nat} (g : List Bank → List Bank) (h : c ≠ ch) :
    (modBanks c g s).comb.chan ch = s.comb.chan ch := by
  simp only [modBanks_comb, Comb.chan, List.getD_eq_getElem?_getD, List.getElem?_modify, if_neg h, id_map']

/-- A change of a channel's banks that keeps which one is shown shows the same bank. -/
theorem shownBank_modBanks {ch c : Nat} {g : List Bank → List Bank} (hnil : g [] = [])
    (hg : ∀ bs, bankOf .shown (g bs) = bankOf .shown bs) : (modBanks c g s).shownBank ch = s.shownBank ch := by
  by_cases h : c = ch
  · subst h
    rw [State.shownBank, chan_modBanks_same hnil, hg, State.shownBank]
  · rw [State.shownBank, chan_modBanks_other g h, State.shownBank]

/-- To change a bank that is not shown, and that is not shown after, leaves the shown bank alone. -/
theorem bankOf_shown_modFirst {p : Bank → Bool} {g : Bank → Bank} (hp : ∀ b, p b = true → b.role ≠ .shown)
    (hg : ∀ b, p b = true → (g b).role ≠ .shown) (bs : List Bank) :
    bankOf .shown (modFirst p g bs) = bankOf .shown bs := by
  induction bs with
  | nil => rfl
  | cons b bs ih =>
    unfold bankOf at ih ⊢
    by_cases hb : p b = true
    · simp [modFirst, hb, hp b hb, hg b hb]
    · simp [modFirst, hb, List.find?_cons, ih]

/-- A change of every bank that gives one role to the banks of one role: the first stays the first. -/
theorem bankOf_map {r q : Role} {g : Bank → Bank} (hg : ∀ b, (g b).role = r ↔ b.role = q) (bs : List Bank) :
    bankOf r (bs.map g) = (bankOf q bs).map g := by
  have hp : (fun b : Bank => b.role == r) ∘ g = fun b => b.role == q := by
    funext b
    exact decide_eq_decide.2 (hg b)
  rw [bankOf, List.find?_map, hp, bankOf]

theorem role_of_bankOf {r : Role} {bs : List Bank} {b : Bank} (h : bankOf r bs = some b) : b.role = r :=
  eq_of_beq (List.find?_some (p := fun b : Bank => b.role == r) h)

/-! ## A capture start shows the same banks (R57, R58) -/

theorem shownBank_startBank (ch c : Nat) : (startBank c s).shownBank ch = s.shownBank ch := by
  refine shownBank_modBanks rfl (bankOf_shown_modFirst (fun b hb => ?_) fun b _ => nofun)
  rw [eq_of_beq hb]
  exact nofun

theorem shownBank_combStart (ch : Nat) : (combStart s).shownBank ch = s.shownBank ch :=
  forChannels_keeps (State.shownBank · ch) (fun c _ => shownBank_startBank ch c) s

theorem shownBank_modFilling {ch c : Nat} {g : Bank → Bank} (hg : ∀ b, (g b).role = b.role) :
    (modFilling c g s).shownBank ch = s.shownBank ch := by
  refine shownBank_modBanks rfl (bankOf_shown_modFirst (fun b hb => ?_) fun b hb => ?_)
  · rw [eq_of_beq hb]; exact nofun
  · rw [hg, eq_of_beq hb]; exact nofun

theorem shownBank_combTrigger (kind : TrigKind) (ch : Nat) : (combTrigger kind s).shownBank ch = s.shownBank ch := by
  unfold combTrigger
  refine forChannels_keeps (State.shownBank · ch) (fun c u => shownBank_modFilling fun b => ?_) s
  dsimp only
  split
  · rw [blendBefore_eq]
  · rfl

theorem shownBank_triggerEvent (kind : TrigKind) (ch : Nat) : (triggerEvent kind s).shownBank ch = s.shownBank ch := by
  have h := shownBank_combTrigger (s := s) kind ch
  rw [triggerEvent_eq]
  unfold State.shownBank at h ⊢
  exact h

theorem shownBank_enterWaiting (ch : Nat) : (enterWaiting s).shownBank ch = s.shownBank ch := by
  unfold enterWaiting
  split
  · rw [shownBank_triggerEvent]; rfl
  · rfl

theorem shownBank_captureStart (ch : Nat) : (captureStart s).shownBank ch = s.shownBank ch := by
  have harmed : s.armed.shownBank ch = s.shownBank ch := shownBank_combStart ch
  rw [captureStart_armed]
  split
  · rw [shownBank_enterWaiting, harmed]
  · exact harmed

/-! ## Lending (R62, R93) -/

/-- A bank but for who holds it. -/
def Bank.content (b : Bank) : Bank := { b with lends := Lends.none }

/-- To release a lender from a shown bank moves its lends alone (R62). -/
theorem content_release (who : Lender) {b : Bank} (h : b.role = .shown) : (b.release who).content = b.content := by
  unfold Bank.release
  split
  · simp [Bank.content, h]
  · rfl

theorem role_release (who : Lender) (b : Bank) : (b.release who).role = .shown ↔ b.role = .shown := by
  unfold Bank.release
  split
  · dsimp only
    split
    · next h => simp [h.1]
    · rfl
  · rfl

theorem content_lend (who : Lender) (b : Bank) : (b.lend who).content = b.content := by
  unfold Bank.lend
  split <;> rfl

theorem role_lend (who : Lender) (b : Bank) : (b.lend who).role = b.role := by
  unfold Bank.lend
  split <;> rfl

/-- What a channel shows, whoever holds it. -/
def State.shownContent (s : State) (ch : Nat) : Option Bank := (s.shownBank ch).map Bank.content

/-- A lend request shows the same bank (R62). -/
theorem shownContent_requestLend (who : Lender) (c ch : Nat) :
    (requestLend who c s).shownContent ch = s.shownContent ch := by
  unfold State.shownContent State.shownBank
  by_cases hc : c = ch
  · subst hc
    rw [requestLend, chan_modBanks_same rfl, bankOf_map (fun b => by rw [role_lend]), bankOf_map (role_release who)]
    cases hb : bankOf .shown (s.comb.chan c) with
    | none => rfl
    | some b => exact congrArg some ((content_lend who _).trans (content_release who (role_of_bankOf hb)))
  · rw [requestLend, chan_modBanks_other _ hc]

/-- A pass start moves the lends of the banks it reads, and the pass (R93, R94). -/
theorem measSweepEnd_cases : measSweepEnd s = s
    ∨ ∃ (l : List Nat) (m : Meas), measSweepEnd s =
        { l.foldl (fun s c => requestLend .measurement c s) s with meas := m } := by
  unfold measSweepEnd
  split
  · exact .inl rfl
  · split
    · exact .inl rfl
    · exact .inr ⟨_, _, rfl⟩

/-- The measurement unit's part of a sweep end leaves what it does not lend or latch (R93). -/
theorem measSweepEnd_keeps {β : Type} (π : State → β) (hmeas : ∀ s m, π { s with meas := m } = π s)
    (hlend : ∀ s c, π (requestLend .measurement c s) = π s) : π (measSweepEnd s) = π s := by
  obtain h | ⟨l, m, h⟩ := measSweepEnd_cases (s := s)
  · rw [h]
  · rw [h, hmeas, foldl_keeps π _ hlend]

theorem shownBank_setVal (f : FieldId) (v : Int) (ch : Nat) : (setVal f v s).shownBank ch = s.shownBank ch := rfl
theorem get_raise (n : Source) (f : FieldId) : (raise n s).get f = s.get f := rfl

/-! ## The sweep end at the combiner (R53, R59) -/

theorem showChannel_none {no depth ch : Nat} (h : bankOf .filling (s.comb.chan ch) = none) :
    showChannel no depth ch s = s := by
  rw [showChannel, h]

theorem showChannel_some {no depth ch : Nat} {b : Bank} (h : bankOf .filling (s.comb.chan ch) = some b) :
    showChannel no depth ch s = setVal (Fld.chClip ch) (clipCode (finishHeader no depth b))
      (modBanks ch (fun bs => (bs.map Bank.unshow).map (Bank.complete no depth)) s) := by
  rw [showChannel, h]

/-- A channel's sweep end writes its CLIP and turns its own banks (R29, R59). -/
theorem showChannel_cases (no depth ch : Nat) (s : State) : showChannel no depth ch s = s
    ∨ ∃ v g, showChannel no depth ch s = setVal (Fld.chClip ch) v (modBanks ch g s) := by
  cases h : bankOf .filling (s.comb.chan ch) with
  | none => exact .inl (showChannel_none h)
  | some b => exact .inr ⟨_, _, showChannel_some h⟩

theorem get_showChannel_other {no depth ch : Nat} {f : FieldId} (hf : f ≠ Fld.chClip ch) :
    (showChannel no depth ch s).get f = s.get f := by
  obtain h | ⟨v, g, h⟩ := showChannel_cases no depth ch s
  · rw [h]
  · rw [h, get_setVal_other hf]; rfl

theorem tableKept_showChannel {no depth ch : Nat} (ht : s.tableKept = true) :
    (showChannel no depth ch s).tableKept = true := by
  obtain h | ⟨v, g, h⟩ := showChannel_cases no depth ch s
  · rwa [h]
  · rw [h]; exact tableKept_setVal (s := modBanks ch g s) ht _ _

theorem chan_showChannel_other {no depth c ch : Nat} (hc : c ≠ ch) :
    (showChannel no depth c s).comb.chan ch = s.comb.chan ch := by
  obtain h | ⟨v, g, h⟩ := showChannel_cases no depth c s
  · rw [h]
  · rw [h, setVal_comb, chan_modBanks_other g hc]

/-- The combiner's part of a sweep end leaves what neither records nor banks reach (R53, R59). -/
theorem combSweepEnd_keeps {β : Type} (π : State → β) (hset : ∀ f v s, π (setVal f v s) = π s)
    (hbanks : ∀ c g s, π (modBanks c g s) = π s) : π (combSweepEnd s) = π s := by
  have hshow : ∀ no depth, π (forChannels (showChannel no depth) s) = π s := fun no depth =>
    forChannels_keeps π (fun c u => by
      obtain h | ⟨v, g, h⟩ := showChannel_cases no depth c u
      · rw [h]
      · rw [h, hset, hbanks]) s
  unfold combSweepEnd
  dsimp only
  split
  · rw [hset, hshow]
  · exact hshow _ _

/-- A filling bank as the sweep end shows it (R55, R59). -/
def Bank.finished (no depth : Nat) (b : Bank) : Bank :=
  { b with role := .shown, lends := Lends.none, header := finishHeader no depth b }

theorem role_complete (no depth : Nat) (b : Bank) :
    (b.complete no depth).role = .shown ↔ b.role = .shown ∨ b.role = .filling := by
  unfold Bank.complete
  split
  · next h => simp [h]
  · next h => simp [h]

theorem role_unshow (b : Bank) : b.unshow.role ≠ .shown ∧ (b.unshow.role = .filling ↔ b.role = .filling) := by
  unfold Bank.unshow
  split
  · next h => cases b.lends.any <;> simp [h]
  · next h => exact ⟨h, Iff.rfl⟩

/-- Of a channel's banks the filling one is shown after the sweep end, complete (R59). -/
theorem bankOf_shown_complete {no depth : Nat} {bs : List Bank} {b : Bank} (h : bankOf .filling bs = some b) :
    bankOf .shown ((bs.map Bank.unshow).map (Bank.complete no depth)) = some (b.finished no depth) := by
  have hrole : ∀ x : Bank, (x.unshow.complete no depth).role = .shown ↔ x.role = .filling := by
    intro x
    obtain ⟨hshown, hfilling⟩ := role_unshow x
    rw [role_complete, hfilling, or_iff_right hshown]
  have hb : b.role = .filling := role_of_bankOf h
  rw [List.map_map, bankOf_map (g := Bank.complete no depth ∘ Bank.unshow) hrole, h]
  simp [Bank.unshow, Bank.complete, Bank.finished, hb]

/-- What one channel's turn makes of its filling bank (R29, R59). -/
theorem showChannel_shows {no depth ch : Nat} {b : Bank} (ht : s.tableKept = true) (hch : ch < 4)
    (h : bankOf .filling (s.comb.chan ch) = some b) :
    (showChannel no depth ch s).shownBank ch = some (b.finished no depth)
    ∧ (showChannel no depth ch s).get (Fld.chClip ch) = clipCode (finishHeader no depth b) := by
  rw [showChannel_some h]
  refine ⟨?_, get_setVal_kept (s := modBanks ch _ s) ht (by interval_cases ch <;> decide)⟩
  rw [State.shownBank, setVal_comb, chan_modBanks_same rfl]
  exact bankOf_shown_complete h

theorem tableKept_showChannels {no depth : Nat} (ht : s.tableKept = true) :
    (forChannels (showChannel no depth) s).tableKept = true := by
  simp only [forChannels, List.foldl]
  exact tableKept_showChannel (tableKept_showChannel (tableKept_showChannel (tableKept_showChannel ht)))

theorem tableKept_combSweepEnd (ht : s.tableKept = true) : (combSweepEnd s).tableKept = true := by
  unfold combSweepEnd
  dsimp only
  split
  · exact tableKept_setVal (tableKept_showChannels ht) _ _
  · exact tableKept_showChannels ht

/-- What the channels' turns in ascending order make of a filling bank (R29, R59). -/
theorem combSweepEnd_shows {ch : Nat} {b : Bank} (ht : s.tableKept = true) (hch : ch < 4)
    (h : bankOf .filling (s.comb.chan ch) = some b) :
    (combSweepEnd s).shownBank ch = some (b.finished s.nextSweepNo s.endDepth)
    ∧ (combSweepEnd s).get (Fld.chClip ch) = clipCode (finishHeader s.nextSweepNo s.endDepth b) := by
  have hturns := forChannels_turn (g := showChannel s.nextSweepNo s.endDepth) (s := s)
    (P := fun u => u.tableKept = true ∧ bankOf .filling (u.comb.chan ch) = some b)
    (Q := fun u => u.shownBank ch = some (b.finished s.nextSweepNo s.endDepth)
      ∧ u.get (Fld.chClip ch) = clipCode (finishHeader s.nextSweepNo s.endDepth b))
    hch (fun c u hc hu => ?_) (fun u hu => showChannel_shows hu.1 hch hu.2) (fun c u hc hu => ?_) ⟨ht, h⟩
  · unfold combSweepEnd
    dsimp only
    split
    · have hclip : Fld.chClip ch ≠ Fld.tbAvgDepth := nofun
      rw [shownBank_setVal, get_setVal_other hclip]
      exact hturns
    · exact hturns
  · exact ⟨tableKept_showChannel hu.1, by rw [chan_showChannel_other hc]; exact hu.2⟩
  · have hclip : Fld.chClip ch ≠ Fld.chClip c := fun he => hc (congrArg FieldId.inst he).symm
    exact ⟨by rw [State.shownBank, chan_showChannel_other hc]; exact hu.1, by rw [get_showChannel_other hclip]; exact hu.2⟩

/-- The combiner's part of a sweep end writes CLIP of the channels and AVG_DEPTH alone (R53, R59). -/
theorem get_combSweepEnd_other {f : FieldId} (hk : f.kind ≠ .channel) (hf : f ≠ Fld.tbAvgDepth) :
    (combSweepEnd s).get f = s.get f := by
  have hshow : (forChannels (showChannel s.nextSweepNo s.endDepth) s).get f = s.get f :=
    forChannels_keeps (State.get · f) (fun c u => get_showChannel_other fun he => hk (congrArg FieldId.kind he)) s
  unfold combSweepEnd
  dsimp only
  split
  · rw [get_setVal_other hf, hshow]
  · exact hshow

/-- In AVERAGE the sweep's depth is recorded (R53). -/
theorem combSweepEnd_depth (ht : s.tableKept = true) (hm : s.comb.cap.mode = .average) :
    (combSweepEnd s).get Fld.tbAvgDepth = Nat.min (s.avgDepth + 1) 65535 := by
  have hdepth : s.endDepth = Nat.min (s.avgDepth + 1) 65535 := if_pos hm
  rw [combSweepEnd, if_pos hm, get_setVal_kept (tableKept_showChannels ht) (by decide), hdepth]

/-! ## The counts, the tracking and the next state (R77, R85) -/

/-- The first two phases of a sweep end: the banks shown, the sweep counted (R77). -/
def State.counted (s : State) : State := sweepCounts (combSweepEnd s)

theorem sweepEnd_nil (hq : s.store.queue = []) : sweepEnd s = measSweepEnd (sweepNext (track s.counted)) := by
  have hqueue : s.counted.store.queue = [] := by
    have hcomb : (combSweepEnd s).store.queue = s.store.queue :=
      combSweepEnd_keeps (fun u => u.store.queue) (fun _ _ _ => setTable_queue _ _ _) fun _ _ _ => rfl
    simp [State.counted, sweepCounts, setVal, hcomb, hq]
  rw [sweepEnd]
  exact congrArg (fun u => measSweepEnd (sweepNext (track u))) (examine_releaseAll_nil hqueue)

theorem counted_sweep : s.counted.sweep = s.sweep :=
  combSweepEnd_keeps State.sweep (fun _ _ _ => rfl) fun _ _ _ => rfl

theorem get_sweepCounts_other {f : FieldId} (hcount : f ≠ Fld.tbSweepCount) (hkind : f ≠ Fld.trLastKind) :
    (sweepCounts s).get f = s.get f := by
  rw [sweepCounts, get_raise, get_setVal_other hkind, get_setVal_other hcount]

theorem get_sweepCounts (ht : s.tableKept = true) : (sweepCounts s).get Fld.tbSweepCount = s.nextSweepNo
    ∧ (sweepCounts s).get Fld.trLastKind = trigKindCode s.sweep.trigKind := by
  rw [sweepCounts, get_raise, get_raise]
  exact ⟨(get_setVal_other (by decide)).trans (get_setVal_kept ht (by decide)),
    get_setVal_kept (tableKept_setVal ht _ _) (by decide)⟩

/-- The number the sweep takes and its kind are written (R77). -/
theorem get_counted (ht : s.tableKept = true) : s.counted.get Fld.tbSweepCount = s.nextSweepNo
    ∧ s.counted.get Fld.trLastKind = trigKindCode s.sweep.trigKind := by
  have hno : (combSweepEnd s).nextSweepNo = s.nextSweepNo := by
    rw [State.nextSweepNo, get_combSweepEnd_other (by decide) (by decide), State.nextSweepNo]
  have hsweep : (combSweepEnd s).sweep = s.sweep := counted_sweep
  rw [← hno, ← hsweep]
  exact get_sweepCounts (tableKept_combSweepEnd ht)

theorem counted_sweepDone : s.counted.noticed .sweepDone = true :=
  (noticed_raise .sweepDone .sweepDone).trans (Bool.or_true _)

/-- Tracking counts sweeps, or takes its step (R85). -/
theorem track_cases : (∃ r, track s = { s with trig := r }) ∨ ∃ h r, track s = trackStep h { s with trig := r } := by
  unfold track
  split
  · dsimp only
    split
    · exact .inl ⟨_, rfl⟩
    · split
      · exact .inr ⟨_, _, rfl⟩
      · exact .inl ⟨_, rfl⟩
  · exact .inl ⟨s.trig, rfl⟩

theorem trackStep_kept (h : Header) : (trackStep h s).sweep = s.sweep ∧ (trackStep h s).comb = s.comb
    ∧ (trackStep h s).notices = s.notices := by
  by_cases hv : h.validCount = 0
  · rw [trackStep, if_pos hv]
    exact ⟨rfl, rfl, rfl⟩
  · rw [trackStep_eq hv]
    repeat' split
    all_goals exact ⟨rfl, rfl, rfl⟩

/-- Tracking leaves acquisition, the banks and the notices (R85). -/
theorem track_kept : (track s).sweep = s.sweep ∧ (track s).comb = s.comb ∧ (track s).notices = s.notices := by
  obtain ⟨r, h⟩ | ⟨x, r, h⟩ := track_cases (s := s)
  · rw [h]; exact ⟨rfl, rfl, rfl⟩
  · rw [h]; exact trackStep_kept x

theorem get_track_other {f : FieldId} (hf : f ∉ trackedFields) : (track s).get f = s.get f := by
  obtain ⟨r, h⟩ | ⟨x, r, h⟩ := track_cases (s := s)
  · rw [h]; rfl
  · rw [h, get_trackStep_other hf]; rfl

/-- A single sweep ends in STOPPED (R77). -/
theorem sweepNext_single (h : s.sweep.single = true) : sweepNext s =
    raise .singleDone (disarm { s with sweep := { s.sweep with single := false, acq := .stopped } }) := if_pos h

theorem sweepNext_holdoff (h : s.sweep.single = false) (hp : 0 < s.get Fld.trHoldoff) : sweepNext s =
    { s with sweep := { s.sweep with acq := .holdoff, holdoff := some (s.get Fld.trHoldoff).toNat } } := by
  rw [sweepNext, if_neg (Bool.eq_false_iff.1 h), if_pos hp]

theorem sweepNext_start (h : s.sweep.single = false) (hz : s.get Fld.trHoldoff = 0) : sweepNext s = captureStart s := by
  rw [sweepNext, if_neg (Bool.eq_false_iff.1 h), if_neg (by omega)]

/-- The next state's choice moves neither the records nor SWEEP_DONE nor what is shown (R77). -/
theorem sweepNext_kept (ch : Nat) : (sweepNext s).store = s.store ∧ (sweepNext s).shownContent ch = s.shownContent ch
    ∧ (sweepNext s).noticed .sweepDone = s.noticed .sweepDone := by
  unfold sweepNext
  split
  · exact ⟨rfl, rfl, (noticed_raise .sweepDone .singleDone).trans (Bool.or_false _)⟩
  · split
    · exact ⟨rfl, rfl, rfl⟩
    · refine ⟨by rw [captureStart_eq], ?_, ?_⟩
      · rw [State.shownContent, shownBank_captureStart, State.shownContent]
      · rw [captureStart_eq]; rfl

/-! ## The sweep end as a whole (R77) -/

theorem measSweepEnd_kept (ch : Nat) : (measSweepEnd s).store = s.store ∧ (measSweepEnd s).sweep = s.sweep
    ∧ (measSweepEnd s).trig = s.trig ∧ (measSweepEnd s).notices = s.notices
    ∧ (measSweepEnd s).shownContent ch = s.shownContent ch :=
  ⟨measSweepEnd_keeps State.store (fun _ _ => rfl) fun _ _ => rfl,
    measSweepEnd_keeps State.sweep (fun _ _ => rfl) fun _ _ => rfl,
    measSweepEnd_keeps State.trig (fun _ _ => rfl) fun _ _ => rfl,
    measSweepEnd_keeps State.notices (fun _ _ => rfl) fun _ _ => rfl,
    measSweepEnd_keeps (State.shownContent · ch) (fun _ _ => rfl)
      fun _ c => shownContent_requestLend .measurement c ch⟩

/-- With an empty queue the acquisition, the comparator and the notices after a sweep end are those its last phase chose. -/
theorem sweepEnd_chosen (hq : s.store.queue = []) : (sweepEnd s).sweep = (sweepNext (track s.counted)).sweep
    ∧ (sweepEnd s).trig = (sweepNext (track s.counted)).trig
    ∧ (sweepEnd s).notices = (sweepNext (track s.counted)).notices := by
  obtain ⟨-, hsweep, htrig, hnotices, -⟩ := measSweepEnd_kept (s := sweepNext (track s.counted)) 0
  rw [sweepEnd_nil hq]
  exact ⟨hsweep, htrig, hnotices⟩

/-- Of the fields the phases after the counts write the trigger level's alone. -/
theorem get_sweepEnd {f : FieldId} (hq : s.store.queue = []) (hf : f ∉ trackedFields) (hs : f ≠ Fld.tbState) :
    (sweepEnd s).get f = s.counted.get f := by
  obtain ⟨hmeas, -⟩ := measSweepEnd_kept (s := sweepNext (track s.counted)) 0
  obtain ⟨hnext, -⟩ := sweepNext_kept (s := track s.counted) 0
  rw [sweepEnd_nil hq, get_of_store (hmeas.trans hnext) hs, get_track_other hf]

/-- The settings that the last phase looks at stand as they stood before the sweep end. -/
theorem get_track_counted {f : FieldId} (hk : f.kind ≠ .channel) (hdepth : f ≠ Fld.tbAvgDepth)
    (hcount : f ≠ Fld.tbSweepCount) (hkind : f ≠ Fld.trLastKind) (hf : f ∉ trackedFields) :
    (track s.counted).get f = s.get f := by
  rw [get_track_other hf, State.counted, get_sweepCounts_other hcount hkind, get_combSweepEnd_other hk hdepth]

theorem track_counted_sweep : (track s.counted).sweep = s.sweep := track_kept.1.trans counted_sweep

theorem captureSweep_congr (hw : t.sweep = s.sweep) (hp : t.get Fld.tbTrigColumn = s.get Fld.tbTrigColumn)
    (hm : t.get Fld.tbSweepMode = s.get Fld.tbSweepMode) (hn : t.get Fld.tbScale = s.get Fld.tbScale) :
    t.captureSweep = s.captureSweep := by
  simp only [State.captureSweep, State.startsWaiting, hw, hp, hm, hn]

/-- A sweep end with nothing to hold it goes on to the next capture (R77, R73). -/
theorem sweepEnd_start (hq : s.store.queue = []) (h : s.sweep.single = false) (hz : s.get Fld.trHoldoff = 0) :
    (sweepEnd s).sweep = s.captureSweep := by
  have hsingle : (track s.counted).sweep.single = false := by rw [track_counted_sweep, h]
  have hholdoff : (track s.counted).get Fld.trHoldoff = 0 := by
    rw [get_track_counted (by decide) (by decide) (by decide) (by decide) (by decide), hz]
  rw [(sweepEnd_chosen hq).1, sweepNext_start hsingle hholdoff, captureStart_sweep]
  refine captureSweep_congr track_counted_sweep ?_ ?_ ?_
  all_goals exact get_track_counted (by decide) (by decide) (by decide) (by decide) (by decide)

/-- A single sweep's end stops acquisition, raises SINGLE_DONE and disarms the comparator (R70, R77). -/
theorem sweepEnd_single (hq : s.store.queue = []) (h : s.sweep.single = true) :
    (sweepEnd s).sweep.acq = .stopped ∧ (sweepEnd s).sweep.single = false ∧ (sweepEnd s).noticed .singleDone = true
    ∧ (sweepEnd s).trig.armedRise = false ∧ (sweepEnd s).trig.armedFall = false := by
  have hsingle : (track s.counted).sweep.single = true := by rw [track_counted_sweep, h]
  obtain ⟨hsweep, htrig, hnotices⟩ := sweepEnd_chosen hq
  rw [State.noticed, hsweep, htrig, hnotices, sweepNext_single hsingle]
  exact ⟨rfl, rfl, (noticed_raise .singleDone .singleDone).trans (Bool.or_true _), rfl, rfl⟩

theorem sweepEnd_holdoff (hq : s.store.queue = []) (h : s.sweep.single = false) (hp : 0 < s.get Fld.trHoldoff) :
    (sweepEnd s).sweep.acq = .holdoff ∧ (sweepEnd s).sweep.holdoff = some (s.get Fld.trHoldoff).toNat := by
  have hsingle : (track s.counted).sweep.single = false := by rw [track_counted_sweep, h]
  have hholdoff : (track s.counted).get Fld.trHoldoff = s.get Fld.trHoldoff :=
    get_track_counted (by decide) (by decide) (by decide) (by decide) (by decide)
  rw [(sweepEnd_chosen hq).1, sweepNext_holdoff hsingle (hholdoff ▸ hp), hholdoff]
  exact ⟨rfl, rfl⟩

theorem sweepEnd_sweepDone (hq : s.store.queue = []) : (sweepEnd s).noticed .sweepDone = true := by
  obtain ⟨-, -, hnext⟩ := sweepNext_kept (s := track s.counted) 0
  obtain ⟨-, -, htrack⟩ := track_kept (s := s.counted)
  obtain ⟨-, -, hnotices⟩ := sweepEnd_chosen hq
  rw [State.noticed, hnotices]
  refine hnext.trans ?_
  rw [State.noticed, htrack]
  exact counted_sweepDone

/-- What a channel's filling bank held is what the channel shows after the sweep end (R59). -/
theorem sweepEnd_shows {ch : Nat} {b : Bank} (ht : s.tableKept = true) (hq : s.store.queue = []) (hch : ch < 4)
    (h : bankOf .filling (s.comb.chan ch) = some b) :
    (sweepEnd s).shownContent ch = some (b.finished s.nextSweepNo s.endDepth) := by
  obtain ⟨-, -, -, -, hmeas⟩ := measSweepEnd_kept (s := sweepNext (track s.counted)) ch
  obtain ⟨-, hnext, -⟩ := sweepNext_kept (s := track s.counted) ch
  obtain ⟨-, htrack, -⟩ := track_kept (s := s.counted)
  have hcounted : s.counted.comb = (combSweepEnd s).comb := rfl
  have hshown := (combSweepEnd_shows ht hch h).1
  rw [sweepEnd_nil hq, hmeas, hnext, State.shownContent, State.shownBank, htrack, hcounted]
  rw [State.shownBank] at hshown
  rw [hshown]
  rfl

end Sys2Proof.Machine

/-! ## The statement -/

open Sys2Proof Sys2Proof.Machine

/-- Settles O37: an expiry is a capture start after a move of its timer alone, and the sweep end is its phases one after
the other, with nothing in the queue to apply between them. -/
theorem timersExpire : Obligations.TimersExpire := by
  refine ⟨fun s hh hsettle ha => ?_, fun s hh hsettle ha _ => ?_, fun s hh hholdoff ha _ => ?_, fun s ht hq => ?_⟩
  · rw [exec_settleExpiry hh hsettle, ha, if_neg (by decide)]
  · rw [exec_settleExpiry hh hsettle, if_pos ha]
    obtain ⟨hsweep, hrest⟩ := captureStart_withSweep (s := s) { s.sweep with settle := none }
    exact ⟨_, rfl, hsweep.trans (captureSweep_withSettle none), hrest⟩
  · rw [exec_holdoffExpiry hh hholdoff, if_pos ha]
    obtain ⟨hsweep, hrest⟩ := captureStart_withSweep (s := s) { s.sweep with holdoff := none }
    exact ⟨_, rfl, hsweep.trans (captureSweep_withHoldoff none), hrest⟩
  · obtain ⟨hcount, hkind⟩ := get_counted ht
    refine ⟨?_, ?_, sweepEnd_sweepDone hq, sweepEnd_single hq, sweepEnd_holdoff hq, fun hs hz hp => ?_, fun hs hz hp => ?_,
      fun hm => ?_, fun ch b hch hb => ?_⟩
    · rw [get_sweepEnd hq (by decide) (by decide), hcount, State.nextSweepNo]
      norm_cast
    · rw [get_sweepEnd hq (by decide) (by decide), hkind]
    · rw [sweepEnd_start hq hs hz, State.captureSweep, if_pos hp]
    · rw [sweepEnd_start hq hs hz, State.captureSweep, if_neg (by omega)]
    · rw [get_sweepEnd hq (by decide) (by decide), State.counted, get_sweepCounts_other (by decide) (by decide),
        combSweepEnd_depth ht hm]
    · obtain ⟨b', hshown, hcontent⟩ := Option.map_eq_some_iff.1 (sweepEnd_shows ht hq hch hb)
      have hclip : (sweepEnd s).get (Fld.chClip ch) = clipCode (finishHeader s.nextSweepNo s.endDepth b) := by
        have hne : ∀ f : FieldId, f.kind ≠ .channel → Fld.chClip ch ≠ f := fun _ hf he => hf (he ▸ rfl)
        rw [get_sweepEnd hq (by simp [trackedFields]) (hne _ (by decide)), State.counted,
          get_sweepCounts_other (hne _ (by decide)) (hne _ (by decide))]
        exact (combSweepEnd_shows ht hch hb).2
      have hcols : b'.cols = b.cols := (congrArg Bank.cols hcontent :)
      have horigin : b'.origin = b.origin := (congrArg Bank.origin hcontent :)
      exact ⟨b', hshown, hcols, horigin, congrArg Bank.header hcontent, hclip⟩
end

section
/-! SUPPORT. The crossings of a detector (R101, R102). -/

namespace Sys2Proof.Machine

variable {rising armed : Bool} {t h v w : Int} {c : Nat}

/-- Of a rise or a fall the part before the threshold is none to all of it, in sixteenths (R102). -/
theorem sixteenths_bounds {a b : Int} (ha : 0 ≤ a) (hab : a ≤ b) (hb : 0 < b) : 0 ≤ a * 16 / b ∧ a * 16 / b ≤ 16 :=
  ⟨Int.ediv_nonneg (by omega) hb.le, Int.ediv_le_of_le_mul hb (by omega)⟩

/-- A crossing lies between its two columns (R102). -/
theorem crossX16_bounds (hx : crosses rising t v w = true) :
    16 * (c : Int) ≤ crossX16 rising t v w c ∧ crossX16 rising t v w c ≤ 16 * c + 16 := by
  cases rising
  · have hvw : t < v ∧ w ≤ t := by simpa [crosses] using hx
    have hpart := sixteenths_bounds (a := v - t) (b := v - w) (by omega) (by omega) (by omega)
    simpa [crossX16, add_comm] using hpart
  · have hvw : v < t ∧ t ≤ w := by simpa [crosses] using hx
    have hpart := sixteenths_bounds (a := t - v) (b := w - v) (by omega) (by omega) (by omega)
    simpa [crossX16, add_comm] using hpart

/-- The far end of a crossing does not arm the detector that counted it (R101). -/
theorem armsAt_after_crossing (hh : 0 ≤ h) (hx : crosses rising t v w = true) : armsAt rising t h w = false := by
  cases rising <;> simp only [crosses, armsAt, if_true, Bool.false_eq_true, if_false, decide_eq_true_eq,
    decide_eq_false_iff_not] at hx ⊢ <;> omega

/-- At a gated column a detector moves on, or it was armed, counts the pair with the next one, and disarms (R101). -/
theorem crossings_some (rising armed : Bool) (t h v : Int) (c : Nat) (rest : List (Option Int)) :
    crossings rising t h armed c (some v :: rest)
        = crossings rising t h (armed || armsAt rising t h v) (c + 1) rest
    ∨ ∃ w rest', rest = some w :: rest' ∧ crosses rising t v w = true ∧ (armed || armsAt rising t h v) = true
        ∧ crossings rising t h armed c (some v :: rest)
            = crossX16 rising t v w c :: crossings rising t h false (c + 1) rest := by
  cases rest with
  | nil => exact .inl rfl
  | cons x rest =>
    cases x with
    | none => exact .inl rfl
    | some w =>
      rw [crossings]
      split
      · next hcount =>
        obtain ⟨harmed, hcross⟩ := Bool.and_eq_true_iff.1 hcount
        exact .inr ⟨w, rest, rfl, hcross, harmed, rfl⟩
      · exact .inl rfl

/-- A detector that is not armed at a gated column moves on (R101). -/
theorem crossings_unarmed (hv : armsAt rising t h v = false) (rest : List (Option Int)) :
    crossings rising t h false c (some v :: rest) = crossings rising t h false (c + 1) rest := by
  obtain hon | ⟨w, rest', -, -, harmed, -⟩ := crossings_some rising false t h v c rest
  · rw [hon, hv]; rfl
  · rw [hv] at harmed
    cases harmed

/-- A walk from a column on counts no crossing before that column (R101, R102). -/
theorem le_of_mem_crossings {vs : List (Option Int)} {x : Int} (hx : x ∈ crossings rising t h armed c vs) :
    16 * (c : Int) ≤ x := by
  induction vs generalizing armed c with
  | nil => cases hx
  | cons o rest ih =>
    cases o with
    | none =>
      have hnext := ih hx
      omega
    | some v =>
      obtain hon | ⟨w, rest', -, hcross, -, hcount⟩ := crossings_some rising armed t h v c rest
      · rw [hon] at hx
        have hnext := ih hx
        omega
      · rw [hcount] at hx
        obtain rfl | hx := List.mem_cons.1 hx
        · exact (crossX16_bounds hcross).1
        · have hnext := ih hx
          omega

end Sys2Proof.Machine

/-! ## The statement -/

open Sys2Proof Sys2Proof.Machine

/-- Settles O40: a counted pair ends where the detector cannot arm, so its next crossing begins two columns further on, and a
crossing lies at most one column after its pair's first. -/
theorem crossingsApart : Obligations.CrossingsApart := by
  intro rising armed t h c vs hh
  induction vs generalizing armed c with
  | nil => exact List.Pairwise.nil
  | cons o rest ih =>
    cases o with
    | none => exact ih armed (c + 1)
    | some v =>
      obtain hon | ⟨w, rest', rfl, hcross, -, hcount⟩ := crossings_some rising armed t h v c rest
      · rw [hon]
        exact ih _ _
      · rw [hcount]
        refine List.pairwise_cons.2 ⟨fun x hx => ?_, ih _ _⟩
        rw [crossings_unarmed (armsAt_after_crossing hh hcross)] at hx
        have hnext := le_of_mem_crossings hx
        have hhere := (crossX16_bounds (c := c) hcross).2
        omega
end

section
/-! SUPPORT. The results of a measurement: what writing them moves and leaves, the limit test (R110), the statistics (R108)
and their clearing (R97, R109). -/

namespace Sys2Proof.Machine

variable {s t u : State} {f g : FieldId} {ws : List (FieldId × Int)} {i : Nat} {tested : Bool} {v : Int}

/-! ## What results leave -/

/-- What writing results leaves: the state but for the sums and the FAIL flags, and the records but for their
values (R95, R109). -/
structure Unmeasured where
  rest    : State
  records : Kind → Nat → Rec

def State.unmeasured (s : State) : Unmeasured :=
  { rest := { s with
      store := { Store.reset with groups := s.store.groups, queue := s.store.queue }
      meas := { s.meas with sums := [] }
      notices := { s.notices with fails := 0 } }
    records := fun k i => { s.recAt k i with vals := [] } }

theorem unmeasured_setVal (f : FieldId) (v : Int) (s : State) : (setVal f v s).unmeasured = s.unmeasured := by
  unfold State.unmeasured
  congr 1
  · simp [setVal, modRec]
  · funext k i
    rw [setVal, recAt_modRec]
    split
    · next h => rw [h.1, h.2.1]
    · rfl

theorem unmeasured_setFail (i : Nat) (s : State) : (setFail i s).unmeasured = s.unmeasured := rfl

/-- Reading what results leave, the records apart. -/
theorem rest_of_unmeasured {β : Type} (π : State → β) (h : t.unmeasured = s.unmeasured) :
    π t.unmeasured.rest = π s.unmeasured.rest := congrArg (fun x => π x.rest) h

theorem comb_of_unmeasured (h : t.unmeasured = s.unmeasured) : t.comb = s.comb := rest_of_unmeasured State.comb h
theorem sweep_of_unmeasured (h : t.unmeasured = s.unmeasured) : t.sweep = s.sweep := rest_of_unmeasured State.sweep h
theorem shell_of_unmeasured (h : t.unmeasured = s.unmeasured) : t.shell = s.shell := rest_of_unmeasured State.shell h

theorem recordsKept_of_unmeasured (h : t.unmeasured = s.unmeasured) : s.recordsKept t := fun k i =>
  have hrec : t.unmeasured.records k i = s.unmeasured.records k i := by rw [h]
  ⟨(congrArg Rec.live hrec :), (congrArg Rec.gen hrec :), (congrArg Rec.text hrec :)⟩

/-! ## Fields written in turn -/

/-- Write fields, the first of the list first. -/
def setVals (ws : List (FieldId × Int)) (s : State) : State := ws.foldl (fun s w => setVal w.1 w.2 s) s

/-- What no write moves, writes in turn do not. -/
theorem setVals_keeps {β : Type} (π : State → β) (h : ∀ f v s, π (setVal f v s) = π s) (ws : List (FieldId × Int))
    (s : State) : π (setVals ws s) = π s :=
  foldl_keeps π (fun (s : State) (w : FieldId × Int) => setVal w.1 w.2 s) (fun s w => h w.1 w.2 s) ws s

theorem setVals_meas (ws : List (FieldId × Int)) (s : State) : (setVals ws s).meas = s.meas :=
  setVals_keeps State.meas (fun _ _ _ => rfl) ws s

theorem setVals_notices (ws : List (FieldId × Int)) (s : State) : (setVals ws s).notices = s.notices :=
  setVals_keeps State.notices (fun _ _ _ => rfl) ws s

theorem unmeasured_setVals (ws : List (FieldId × Int)) (s : State) : (setVals ws s).unmeasured = s.unmeasured :=
  setVals_keeps State.unmeasured unmeasured_setVal ws s

theorem tableKept_setVals (h : s.tableKept = true) (ws : List (FieldId × Int)) : (setVals ws s).tableKept = true := by
  induction ws generalizing s with
  | nil => exact h
  | cons w ws ih => exact ih (tableKept_setVal h w.1 w.2)

/-- A field that is not written keeps its value. -/
theorem get_setVals_other (h : g ∉ ws.map Prod.fst) : (setVals ws s).get g = s.get g := by
  induction ws generalizing s with
  | nil => rfl
  | cons w ws ih =>
    obtain ⟨hw, hws⟩ := List.ne_and_not_mem_of_not_mem_cons h
    exact (ih hws).trans (get_setVal_other hw)

/-- A field written once reads as written. -/
theorem get_setVals (ht : s.tableKept = true) (hf : f.stored = true) (hw : (f, v) ∈ ws) (hn : (ws.map Prod.fst).Nodup) :
    (setVals ws s).get f = v := by
  induction ws generalizing s with
  | nil => cases hw
  | cons w ws ih =>
    obtain ⟨hnot, hnodup⟩ := List.nodup_cons.1 hn
    obtain rfl | hw := List.mem_cons.1 hw
    · exact (get_setVals_other hnot).trans (get_setVal_kept ht hf)
    · exact ih (tableKept_setVal ht w.1 w.2) hw hnodup

/-- The field numbers of a MEASUREMENT are those below 16 (R90). -/
theorem stored_measurement {n : Nat} (hi : i < 8) (hn : n < 16) : FieldId.stored ⟨.measurement, i, n⟩ = true :=
  decide_eq_true ⟨hi, hn, nofun⟩

/-! ## The limit test (R110) -/

/-- OUTCOME by the live limits (R110). -/
def State.outcome (s : State) (i : Nat) (tested : Bool) : Int :=
  outcomeOf tested (s.get (Fld.meLimitMode i)) (s.get (Fld.meLast i)) (s.get (Fld.meLimitLo i)) (s.get (Fld.meLimitHi i))

theorem outcome_untested (h : s.get (Fld.meLimitMode i) = 0 ∨ tested = false) : s.outcome i tested = 0 := if_pos h

theorem outcome_tested (h : s.get (Fld.meLimitMode i) ≠ 0) : s.outcome i true =
    if s.get (Fld.meLast i) < s.get (Fld.meLimitLo i) then 1
    else if s.get (Fld.meLimitHi i) < s.get (Fld.meLast i) then 3 else 2 :=
  if_neg (not_or.2 ⟨h, nofun⟩)

/-- A failure is a tested value beyond a limit (R110). -/
theorem outcomeOf_failure {mode last lo hi : Int} :
    outcomeOf true mode last lo hi = 1 ∨ outcomeOf true mode last lo hi = 3 ↔ mode ≠ 0 ∧ (last < lo ∨ hi < last) := by
  simp only [outcomeOf, Bool.true_eq_false, or_false]
  repeat' split
  all_goals omega

theorem outcome_cases (s : State) (i : Nat) (tested : Bool) :
    isFailure (s.outcome i tested) = true ∧ (s.outcome i tested = 1 ∨ s.outcome i tested = 3)
    ∨ isFailure (s.outcome i tested) = false ∧ (s.outcome i tested = 0 ∨ s.outcome i tested = 2) := by
  unfold State.outcome outcomeOf
  repeat' split
  all_goals simp [isFailure]

/-- No failure: OUTCOME is written alone (R110). -/
theorem limitTest_passed (h : isFailure (s.outcome i tested) = false) :
    limitTest i tested s = (setVals [(Fld.meOutcome i, s.outcome i tested)] s, false) :=
  if_neg (Bool.eq_false_iff.1 h)

/-- A failure: OUTCOME and FAIL_COUNT are written, the FAIL flag is set, and LIMIT_MODE STOP calls for a STOP (R110, R111). -/
theorem limitTest_failed (h : isFailure (s.outcome i tested) = true) :
    limitTest i tested s =
      (setFail i (setVals [(Fld.meOutcome i, s.outcome i tested),
          (Fld.meFailCount i, min 65535 (s.get (Fld.meFailCount i) + 1))] s),
        decide (s.get (Fld.meLimitMode i) = 2)) := by
  have hcount : (setVal (Fld.meOutcome i) (s.outcome i tested) s).get (Fld.meFailCount i) = s.get (Fld.meFailCount i) :=
    get_setVal_other (by simp)
  rw [← hcount]
  exact if_pos h

theorem unmeasured_limitTest (i : Nat) (tested : Bool) (s : State) : (limitTest i tested s).1.unmeasured = s.unmeasured := by
  obtain ⟨h, -⟩ | ⟨h, -⟩ := outcome_cases s i tested
  · rw [limitTest_failed h, unmeasured_setFail, unmeasured_setVals]
  · rw [limitTest_passed h, unmeasured_setVals]

theorem limitTest_meas (i : Nat) (tested : Bool) (s : State) : (limitTest i tested s).1.meas = s.meas := by
  obtain ⟨h, -⟩ | ⟨h, -⟩ := outcome_cases s i tested
  · rw [limitTest_failed h, setFail_meas, setVals_meas]
  · rw [limitTest_passed h, setVals_meas]

theorem get_setFail (i : Nat) (g : FieldId) : (setFail i s).get g = s.get g := rfl

theorem get_limitTest_other (ho : g ≠ Fld.meOutcome i) (hc : g ≠ Fld.meFailCount i) :
    (limitTest i tested s).1.get g = s.get g := by
  obtain ⟨h, -⟩ | ⟨h, -⟩ := outcome_cases s i tested
  · rw [limitTest_failed h, get_setFail, get_setVals_other (by simp [ho, hc])]
  · rw [limitTest_passed h, get_setVals_other (by simp [ho])]

theorem get_limitTest_outcome (ht : s.tableKept = true) (hi : i < 8) :
    (limitTest i tested s).1.get (Fld.meOutcome i) = s.outcome i tested := by
  have hstored := stored_measurement (n := 14) hi (by decide)
  obtain ⟨h, -⟩ | ⟨h, -⟩ := outcome_cases s i tested
  · rw [limitTest_failed h, get_setFail]
    exact get_setVals ht hstored (by simp) (by simp)
  · rw [limitTest_passed h]
    exact get_setVals ht hstored (by simp) (by simp)

/-- Without a failure neither the notices nor FAIL_COUNT move, and nothing calls for a STOP (R110). -/
theorem limitTest_passed_leaves (h : s.outcome i tested = 0 ∨ s.outcome i tested = 2) :
    (limitTest i tested s).1.notices = s.notices
    ∧ (limitTest i tested s).1.get (Fld.meFailCount i) = s.get (Fld.meFailCount i) ∧ (limitTest i tested s).2 = false := by
  have hpass : isFailure (s.outcome i tested) = false := by obtain h | h := h <;> rw [h] <;> rfl
  rw [limitTest_passed hpass]
  exact ⟨setVals_notices _ _, get_setVals_other (by simp), rfl⟩

/-- A failure sets the FAIL flag and advances FAIL_COUNT (R110, R111). -/
theorem limitTest_failed_writes (ht : s.tableKept = true) (hi : i < 8)
    (h : s.outcome i tested = 1 ∨ s.outcome i tested = 3) :
    (limitTest i tested s).1.notices.fails.getLsbD i = true
    ∧ (limitTest i tested s).1.get (Fld.meFailCount i) = min 65535 (s.get (Fld.meFailCount i) + 1)
    ∧ ((limitTest i tested s).2 = true ↔ s.get (Fld.meLimitMode i) = 2) := by
  rw [limitTest_failed (decide_eq_true h)]
  refine ⟨?_, ?_, decide_eq_true_iff⟩
  · simp only [setFail_notices, BitVec.getLsbD_or, BitVec.getLsbD_ofNat, Nat.testBit_two_pow_self, hi, decide_true,
      Bool.and_true, Bool.or_true]
  · exact get_setVals ht (stored_measurement hi (by decide)) (by simp) (by simp)

/-! ## The statistics (R108) -/

/-- One more result in the sum. -/
def State.withSum (s : State) (i : Nat) (v : Int) : State :=
  { s with meas := { s.meas with sums := s.meas.sums.set i (s.meas.sums.getD i 0 + v) } }

theorem unmeasured_withSum (i : Nat) (v : Int) (s : State) : (s.withSum i v).unmeasured = s.unmeasured := rfl
theorem get_withSum (i : Nat) (v : Int) (g : FieldId) : (s.withSum i v).get g = s.get g := rfl
theorem tableKept_withSum (ht : s.tableKept = true) (i : Nat) (v : Int) : (s.withSum i v).tableKept = true := ht

/-- The statistics after one more result (R108). -/
def State.statWrites (s : State) (i : Nat) (v : Int) : List (FieldId × Int) :=
  let n := s.get (Fld.meStatCount i)
  [(Fld.meStatMin i, if n = 0 then v else min (s.get (Fld.meStatMin i)) v),
    (Fld.meStatMax i, if n = 0 then v else max (s.get (Fld.meStatMax i)) v),
    (Fld.meStatMean i, roundAway (s.meas.sums.getD i 0 + v) (n + 1)), (Fld.meStatCount i, n + 1)]

/-- The fields of the statistics (R108). -/
def statFields (i : Nat) : List FieldId := [Fld.meStatMin i, Fld.meStatMax i, Fld.meStatMean i, Fld.meStatCount i]

theorem statFields_nodup (i : Nat) : (statFields i).Nodup := by simp [statFields]

theorem statUpdate_frozen (h : 4294967295 ≤ s.get (Fld.meStatCount i)) : statUpdate i v s = s :=
  if_neg (not_lt.2 h)

theorem statUpdate_counts (h : s.get (Fld.meStatCount i) < 4294967295) :
    statUpdate i v s = setVals (s.statWrites i v) (s.withSum i v) := by
  have hmax : ∀ x (u : State), (setVal (Fld.meStatMin i) x u).get (Fld.meStatMax i) = u.get (Fld.meStatMax i) :=
    fun _ _ => get_setVal_other (by simp)
  refine (if_pos h).trans ?_
  rw [hmax]
  rfl

/-- A result's part in the statistics: none once the count is at its end, otherwise the four fields and the sum (R108). -/
theorem statUpdate_cases (i : Nat) (v : Int) (s : State) :
    statUpdate i v s = s ∨ statUpdate i v s = setVals (s.statWrites i v) (s.withSum i v) := by
  obtain h | h := le_or_gt 4294967295 (s.get (Fld.meStatCount i))
  · exact .inl (statUpdate_frozen h)
  · exact .inr (statUpdate_counts h)

theorem unmeasured_statUpdate (i : Nat) (v : Int) (s : State) : (statUpdate i v s).unmeasured = s.unmeasured := by
  obtain h | h := statUpdate_cases i v s
  · rw [h]
  · rw [h, unmeasured_setVals, unmeasured_withSum]

theorem statUpdate_notices (i : Nat) (v : Int) (s : State) : (statUpdate i v s).notices = s.notices := by
  obtain h | h := statUpdate_cases i v s
  · rw [h]
  · rw [h, setVals_notices]; rfl

theorem tableKept_statUpdate (ht : s.tableKept = true) (i : Nat) (v : Int) : (statUpdate i v s).tableKept = true := by
  obtain h | h := statUpdate_cases i v s
  · rwa [h]
  · rw [h]
    exact tableKept_setVals (tableKept_withSum ht i v) _

theorem get_statUpdate_other (hg : g ∉ statFields i) : (statUpdate i v s).get g = s.get g := by
  obtain h | h := statUpdate_cases i v s
  · rw [h]
  · rw [h, get_setVals_other hg, get_withSum]

/-- While the count is below its end every field of the statistics is rewritten (R108). -/
theorem get_statUpdate {x : Int} (ht : s.tableKept = true) (hi : i < 8) (h : s.get (Fld.meStatCount i) < 4294967295)
    (hx : (f, x) ∈ s.statWrites i v) : (statUpdate i v s).get f = x := by
  have hf : f ∈ statFields i := List.mem_map_of_mem (f := Prod.fst) hx
  have hstored : f.stored = true := by
    simp only [statFields, List.mem_cons, List.not_mem_nil, or_false] at hf
    obtain rfl | rfl | rfl | rfl := hf <;> exact stored_measurement hi (by decide)
  rw [statUpdate_counts h]
  exact get_setVals (tableKept_withSum ht i v) hstored hx (statFields_nodup i)

theorem statUpdate_sum (h : s.get (Fld.meStatCount i) < 4294967295) (hi : i < s.meas.sums.length) :
    (statUpdate i v s).meas.sums.getD i 0 = s.meas.sums.getD i 0 + v := by
  have hmeas : (statUpdate i v s).meas.sums = s.meas.sums.set i (s.meas.sums.getD i 0 + v) := by
    rw [statUpdate_counts h, setVals_meas]
    rfl
  rw [hmeas, List.getD_eq_getElem?_getD, List.getElem?_set_self hi, Option.getD_some]

/-! ## The statistics cleared (R97, R109) -/

/-- The fields a clearing sets to 0 (R109). -/
def clearedFields (i : Nat) : List FieldId :=
  [Fld.meStatMin i, Fld.meStatMax i, Fld.meStatMean i, Fld.meStatCount i, Fld.meFailCount i]

theorem clearedFields_place (hf : f ∈ clearedFields i) :
    f.kind = .measurement ∧ f.inst = i ∧ 10 ≤ f.num ∧ f.num ≠ 14 := by
  simp only [clearedFields, List.mem_cons, List.not_mem_nil, or_false] at hf
  obtain rfl | rfl | rfl | rfl | rfl := hf <;> exact ⟨rfl, rfl, by simp, by simp⟩

theorem unmeasured_clearStats (i : Nat) (s : State) : (clearStats i s).unmeasured = s.unmeasured :=
  unmeasured_setVals ((clearedFields i).map (·, 0)) s

theorem clearStats_sums (i : Nat) (s : State) : (clearStats i s).meas.sums = s.meas.sums.set i 0 := rfl

theorem tableKept_clearStats (ht : s.tableKept = true) (i : Nat) : (clearStats i s).tableKept = true :=
  tableKept_setVals ht ((clearedFields i).map (·, 0))

theorem get_clearStats_other (hg : g ∉ clearedFields i) : (clearStats i s).get g = s.get g :=
  get_setVals_other (ws := (clearedFields i).map (·, 0)) (by simpa [Function.comp_def] using hg)

theorem get_clearStats (ht : s.tableKept = true) (hi : i < 8) (hf : f ∈ clearedFields i) : (clearStats i s).get f = 0 := by
  have hstored : f.stored = true := by
    simp only [clearedFields, List.mem_cons, List.not_mem_nil, or_false] at hf
    obtain rfl | rfl | rfl | rfl | rfl := hf <;> exact stored_measurement hi (by decide)
  exact get_setVals (ws := (clearedFields i).map (·, 0)) ht hstored (by simpa using hf)
    (by simp [clearedFields])

/-- The statistics of measurements cleared in turn. -/
def clearEach (l : List Nat) (s : State) : State := l.foldl (fun s i => clearStats i s) s

/-- A running pass excluded from the statistics (R97). -/
def State.passExcluded (s : State) : State :=
  { s with meas := { s.meas with pass := s.meas.pass.map fun p => { p with exclude := true } } }

theorem clearAllStats_eq (s : State) : clearAllStats s = (clearEach (s.liveOf .measurement) s).passExcluded := rfl

/-- What each clearing keeps, all of them keep. -/
theorem clearEach_keeps {β : Type} (π : State → β) {l : List Nat} (h : ∀ i, i ∈ l → ∀ s, π (clearStats i s) = π s)
    (s : State) : π (clearEach l s) = π s := by
  induction l generalizing s with
  | nil => rfl
  | cons i l ih =>
    exact (ih (fun j hj => h j (List.mem_cons_of_mem i hj)) (clearStats i s)).trans (h i List.mem_cons_self s)

theorem unmeasured_clearEach (l : List Nat) (s : State) : (clearEach l s).unmeasured = s.unmeasured :=
  clearEach_keeps State.unmeasured (fun i _ s => unmeasured_clearStats i s) s

theorem tableKept_clearEach (ht : s.tableKept = true) (l : List Nat) : (clearEach l s).tableKept = true := by
  induction l generalizing s with
  | nil => exact ht
  | cons i l ih => exact ih (tableKept_clearStats ht i)

/-- A measurement's statistics read 0 after the clearing of a list that holds it (R109). -/
theorem clearEach_cleared {l : List Nat} (ht : s.tableKept = true) (hi : i < 8) (hl : i ∈ l) :
    (∀ f, f ∈ clearedFields i → (clearEach l s).get f = 0) ∧ (clearEach l s).meas.sums.getD i 0 = 0 := by
  induction l using List.reverseRecOn with
  | nil => cases hl
  | append_singleton l j ih =>
    have hlast : clearEach (l ++ [j]) s = clearStats j (clearEach l s) := List.foldl_append
    rw [hlast]
    by_cases hj : j = i
    · subst hj
      refine ⟨fun f => get_clearStats (tableKept_clearEach ht l) hi, ?_⟩
      rw [clearStats_sums, List.getD_eq_getElem?_getD, List.getElem?_set_self']
      cases (clearEach l s).meas.sums[j]? <;> rfl
    · obtain ⟨hfields, hsum⟩ := ih (by simpa [Ne.symm hj] using hl)
      refine ⟨fun f hf => ?_, ?_⟩
      · have hother : f ∉ clearedFields j := by
          intro hfj
          obtain ⟨-, hinst, -⟩ := clearedFields_place hf
          obtain ⟨-, hinst', -⟩ := clearedFields_place hfj
          exact hj (hinst'.symm.trans hinst)
        rw [get_clearStats_other hother, hfields f hf]
      · rw [clearStats_sums, List.getD_eq_getElem?_getD, List.getElem?_set_ne hj, ← List.getD_eq_getElem?_getD, hsum]

theorem isLive_measurement_lt (ht : s.tableKept = true) (h : s.isLive .measurement i = true) : i < 8 :=
  (lt_of_isLive h).trans_eq (tableKept_iff.1 ht .measurement).1

theorem mem_liveOf_measurement (ht : s.tableKept = true) : i ∈ s.liveOf .measurement ↔ s.isLive .measurement i = true := by
  rw [State.liveOf, List.mem_filter, List.mem_range]
  exact and_iff_right_of_imp (isLive_measurement_lt ht)

theorem exec_clearStats (h : s.takes .clearStats = true) :
    exec .clearStats s = .next ((clearAllStats s).answer .ok [] .none) := by
  rw [exec, execClearStats, takeCommand_takes h, respond_accept]

end Sys2Proof.Machine

/-! ## The statements -/

open Sys2Proof Sys2Proof.Machine

/-- Settles O41: OUTCOME follows from the limits, and only a failure writes more than OUTCOME. -/
theorem limitTestWrites : Obligations.LimitTestWrites := by
  intro s i tested ht hi
  have hkept := unmeasured_limitTest i tested s
  refine ⟨_, _, s.outcome i tested, rfl, get_limitTest_outcome ht hi, outcome_untested, fun hmode htested => ?_,
    limitTest_failed_writes ht hi, limitTest_passed_leaves, fun g ho hc => get_limitTest_other ho hc,
    comb_of_unmeasured hkept, sweep_of_unmeasured hkept, rest_of_unmeasured State.trig hkept, limitTest_meas i tested s,
    rest_of_unmeasured State.panel hkept, shell_link (shell_of_unmeasured hkept),
    rest_of_unmeasured (fun u => u.notices.flags) hkept, recordsKept_of_unmeasured hkept,
    restKept_of_shell (shell_of_unmeasured hkept)⟩
  rw [htested, outcome_tested hmode]
  exact ⟨fun hlo => if_pos hlo, fun hlo hhi => (if_neg (by omega)).trans (if_pos hhi),
    fun hlo hhi => (if_neg (by omega)).trans (if_neg (by omega))⟩

/-- Settles O28: the clearings move the statistics of the live measurements alone. -/
theorem clearStatsClears : Obligations.ClearStatsClears := by
  intro s h ht
  have hkept : (clearEach (s.liveOf .measurement) s).unmeasured = s.unmeasured := unmeasured_clearEach _ s
  have hcleared : ∀ i, s.isLive .measurement i = true → _ := fun i hl =>
    clearEach_cleared ht (isLive_measurement_lt ht hl) ((mem_liveOf_measurement ht).2 hl)
  have hshell : (clearEach (s.liveOf .measurement) s).passExcluded.shell = s.shell :=
    (shell_of_unmeasured hkept :)
  rw [exec_clearStats h, clearAllStats_eq]
  refine ⟨_, rfl, ⟨rfl, rfl⟩, fun i n hl hn => (hcleared i hl).1 _ ?_, fun i hl => (hcleared i hl).2,
    fun i hl => ?_, rest_of_unmeasured (fun u => u.meas.stamps) hkept, fun f hf => ?_,
    clearEach_keeps State.notices (fun _ _ _ => rfl) s, (sweep_of_unmeasured hkept :), (comb_of_unmeasured hkept :),
    (rest_of_unmeasured State.path hkept :), (rest_of_unmeasured State.trig hkept :),
    (rest_of_unmeasured State.panel hkept :),
    (rest_of_unmeasured (fun u => u.store.groups) hkept :), (rest_of_unmeasured (fun u => u.store.queue) hkept :),
    (recordsKept_of_unmeasured hkept :), restKept_answer hshell, ?_⟩
  · obtain rfl | rfl | rfl | rfl | rfl := hn <;> simp [clearedFields]
  · refine clearEach_keeps (fun u => u.meas.sums[i]?) (fun j hj u => ?_) s
    have hne : j ≠ i := by
      rintro rfl
      rw [mem_liveOf_measurement ht, hl] at hj
      cases hj
    exact List.getElem?_set_ne hne
  · refine clearEach_keeps (fun u => u.get f) (fun j _ u => get_clearStats_other fun hc => ?_) s
    obtain ⟨hkind, -, hlow, hout⟩ := clearedFields_place hc
    obtain hf | hf | hf := hf
    · exact hf hkind
    · omega
    · exact hout hf
  · exact congrArg (Option.map _) (rest_of_unmeasured (fun u => u.meas.pass) hkept)
end

section
/-! SUPPORT. A pass: its start (R93, R94), a member's completion (R95, R96), and the pass's (R95, R111). -/

namespace Sys2Proof.Machine

variable {s t : State} {m : Member} {ms : List Member} {ex : Bool} {g : FieldId} {i ch : Nat} {v : Int}

/-! ## A member's completion (R95, R99) -/

theorem memberResult_start {st : MStatus} (h : m.start = some st) : s.memberResult m = (st, none) := by
  rw [State.memberResult, h]

/-- The member's STATUS, and LAST where there is a value (R95 step 2). -/
def resultWrites (i : Nat) (r : MStatus × Option Int) : List (FieldId × Int) :=
  (Fld.meStatus i, mstatusCode r.1) :: r.2.toList.map (Fld.meLast i, ·)

/-- The state with a member's result written (R95 step 2). -/
def State.withResult (s : State) (m : Member) : State := setVals (resultWrites m.inst (s.memberResult m)) s

/-- The state with the result taken into the statistics as well, unless the pass is excluded (R95 step 3, R97). -/
def State.withStats (s : State) (ex : Bool) (m : Member) : State :=
  match (s.memberResult m).2 with
  | some v => if ex then s.withResult m else statUpdate m.inst v (s.withResult m)
  | none => s.withResult m

theorem completeMember_stale (h : s.meas.stamps.getD m.inst 0 ≠ m.stamp) : completeMember ex m s = (s, false) := if_pos h

/-- A member that is not stale: its result, the statistics, the limit test (R95). -/
theorem completeMember_current (h : s.meas.stamps.getD m.inst 0 = m.stamp) :
    completeMember ex m s = limitTest m.inst (s.memberResult m).2.isSome (s.withStats ex m) := by
  refine (if_neg (not_not.2 h)).trans ?_
  unfold State.withStats State.withResult
  generalize s.memberResult m = r
  obtain ⟨st, _ | v⟩ := r <;> rfl

theorem withResult_keeps {β : Type} (π : State → β) (h : ∀ f v s, π (setVal f v s) = π s) (s : State) (m : Member) :
    π (s.withResult m) = π s := setVals_keeps π h _ s

theorem tableKept_withResult (ht : s.tableKept = true) (m : Member) : (s.withResult m).tableKept = true :=
  tableKept_setVals ht _

/-- A member's result is written into STATUS and LAST alone. -/
theorem get_withResult_other (hs : g ≠ Fld.meStatus m.inst) (hl : g ≠ Fld.meLast m.inst) :
    (s.withResult m).get g = s.get g := by
  refine get_setVals_other ?_
  unfold resultWrites
  cases (s.memberResult m).2 <;> simp [hs, hl]

/-- A member's result joins the statistics, or leaves them as they are (R95, R97, R108). -/
theorem withStats_cases (s : State) (ex : Bool) (m : Member) : s.withStats ex m = s.withResult m
    ∨ ∃ v, (s.memberResult m).2 = some v ∧ s.withStats ex m = statUpdate m.inst v (s.withResult m) := by
  unfold State.withStats
  split
  · next v hv =>
    split
    · exact .inl rfl
    · exact .inr ⟨v, hv, rfl⟩
  · exact .inl rfl

/-- Without a value, in an excluded pass, and with the count at its end, nothing joins the statistics (R97, R108). -/
theorem withStats_excluded (h : (s.memberResult m).2 = none ∨ ex = true ∨ 4294967295 ≤ s.get (Fld.meStatCount m.inst)) :
    s.withStats ex m = s.withResult m := by
  have hcount : (s.withResult m).get (Fld.meStatCount m.inst) = s.get (Fld.meStatCount m.inst) :=
    get_withResult_other (by simp) (by simp)
  unfold State.withStats
  split
  · next v hv =>
    split
    · rfl
    · next hex =>
      rw [hv, or_iff_right nofun, or_iff_right hex, ← hcount] at h
      exact statUpdate_frozen h
  · rfl

theorem withStats_counted (h : (s.memberResult m).2 = some v) :
    s.withStats false m = statUpdate m.inst v (s.withResult m) := by
  rw [State.withStats, h]
  rfl

theorem unmeasured_withStats (s : State) (ex : Bool) (m : Member) : (s.withStats ex m).unmeasured = s.unmeasured := by
  have hresult := withResult_keeps State.unmeasured unmeasured_setVal s m
  obtain h | ⟨v, -, h⟩ := withStats_cases s ex m
  · rw [h, hresult]
  · rw [h, unmeasured_statUpdate, hresult]

theorem tableKept_withStats (ht : s.tableKept = true) (ex : Bool) (m : Member) : (s.withStats ex m).tableKept = true := by
  obtain h | ⟨v, -, h⟩ := withStats_cases s ex m
  · rw [h]; exact tableKept_withResult ht m
  · rw [h]; exact tableKept_statUpdate (tableKept_withResult ht m) _ v

theorem withStats_notices (s : State) (ex : Bool) (m : Member) : (s.withStats ex m).notices = s.notices := by
  have hresult := withResult_keeps State.notices (fun _ _ _ => rfl) s m
  obtain h | ⟨v, -, h⟩ := withStats_cases s ex m
  · rw [h, hresult]
  · rw [h, statUpdate_notices, hresult]

theorem get_withStats_other (h : g ∉ statFields m.inst) : (s.withStats ex m).get g = (s.withResult m).get g := by
  obtain he | ⟨v, -, he⟩ := withStats_cases s ex m
  · rw [he]
  · rw [he, get_statUpdate_other h]

theorem resultWrites_nodup (i : Nat) (r : MStatus × Option Int) : ((resultWrites i r).map Prod.fst).Nodup := by
  obtain ⟨st, _ | v⟩ := r <;> simp [resultWrites]

theorem get_withStats_status (ht : s.tableKept = true) (hi : m.inst < 8) :
    (s.withStats ex m).get (Fld.meStatus m.inst) = mstatusCode (s.memberResult m).1 := by
  rw [get_withStats_other (by simp [statFields])]
  exact get_setVals ht (stored_measurement hi (by decide)) List.mem_cons_self (resultWrites_nodup _ _)

theorem get_withStats_last (ht : s.tableKept = true) (hi : m.inst < 8) (h : (s.memberResult m).2 = some v) :
    (s.withStats ex m).get (Fld.meLast m.inst) = v := by
  rw [get_withStats_other (by simp [statFields])]
  exact get_setVals ht (stored_measurement hi (by decide)) (by simp [resultWrites, h]) (resultWrites_nodup _ _)

/-- Without a value LAST keeps its earlier one (R95, R99). -/
theorem get_withStats_last_none (h : (s.memberResult m).2 = none) :
    (s.withStats ex m).get (Fld.meLast m.inst) = s.get (Fld.meLast m.inst) := by
  rw [get_withStats_other (by simp [statFields])]
  exact get_setVals_other (by simp [resultWrites, h])

/-- A member's settings are not written (R95). -/
theorem get_withStats_setting {n : Nat} (hn : n < 8) :
    (s.withStats ex m).get ⟨.measurement, m.inst, n⟩ = s.get ⟨.measurement, m.inst, n⟩ := by
  rw [get_withStats_other (by simp [statFields]; omega), get_withResult_other (by simp; omega) (by simp; omega)]

/-- The limit test of a member with a value compares that value with the live limits (R110). -/
theorem outcome_withStats (ht : s.tableKept = true) (hi : m.inst < 8) (h : (s.memberResult m).2 = some v) :
    (s.withStats ex m).outcome m.inst true
      = outcomeOf true (s.get (Fld.meLimitMode m.inst)) v (s.get (Fld.meLimitLo m.inst)) (s.get (Fld.meLimitHi m.inst)) := by
  rw [State.outcome, get_withStats_last ht hi h, get_withStats_setting (by decide), get_withStats_setting (by decide),
    get_withStats_setting (by decide)]

theorem unmeasured_completeMember (ex : Bool) (m : Member) (s : State) :
    (completeMember ex m s).1.unmeasured = s.unmeasured := by
  by_cases h : s.meas.stamps.getD m.inst 0 = m.stamp
  · rw [completeMember_current h, unmeasured_limitTest, unmeasured_withStats]
  · rw [completeMember_stale h]

/-- The results of a measurement are the fields from STATUS on (R90). -/
theorem get_completeMember_other (hg : ∀ n, 8 ≤ n → g ≠ ⟨.measurement, m.inst, n⟩) :
    (completeMember ex m s).1.get g = s.get g := by
  by_cases h : s.meas.stamps.getD m.inst 0 = m.stamp
  · have hstat : g ∉ statFields m.inst := by
      simp only [statFields, List.mem_cons, List.not_mem_nil, or_false, not_or]
      exact ⟨hg 10 (by decide), hg 11 (by decide), hg 12 (by decide), hg 13 (by decide)⟩
    rw [completeMember_current h, get_limitTest_other (hg 14 (by decide)) (hg 15 (by decide)), get_withStats_other hstat,
      get_withResult_other (hg 8 (by decide)) (hg 9 (by decide))]
  · rw [completeMember_stale h]

/-- Without a value neither LAST nor a notice moves, and OUTCOME is NONE (R95, R99, R110). -/
theorem completeMember_none (ht : s.tableKept = true) (hi : m.inst < 8) (hm : s.meas.stamps.getD m.inst 0 = m.stamp)
    (h : (s.memberResult m).2 = none) :
    (completeMember ex m s).1.get (Fld.meLast m.inst) = s.get (Fld.meLast m.inst)
    ∧ (completeMember ex m s).1.get (Fld.meOutcome m.inst) = 0 ∧ (completeMember ex m s).2 = false
    ∧ (completeMember ex m s).1.notices = s.notices := by
  have hout : (s.withStats ex m).outcome m.inst (none : Option Int).isSome = 0 := outcome_untested (.inr rfl)
  obtain ⟨hnotices, -, hstop⟩ := limitTest_passed_leaves (.inl hout)
  rw [completeMember_current hm, h]
  refine ⟨?_, (get_limitTest_outcome (tableKept_withStats ht ex m) hi).trans hout, hstop,
    hnotices.trans (withStats_notices s ex m)⟩
  rw [get_limitTest_other (by simp) (by simp), get_withStats_last_none h]

/-- What does not join the statistics leaves them and the sum (R97, R108). -/
theorem completeMember_excluded (hm : s.meas.stamps.getD m.inst 0 = m.stamp)
    (h : (s.memberResult m).2 = none ∨ ex = true ∨ 4294967295 ≤ s.get (Fld.meStatCount m.inst)) :
    (completeMember ex m s).1.meas = s.meas ∧ ∀ f, 10 ≤ f → f ≤ 13 →
      (completeMember ex m s).1.get ⟨.measurement, m.inst, f⟩ = s.get ⟨.measurement, m.inst, f⟩ := by
  rw [completeMember_current hm, withStats_excluded h]
  refine ⟨(limitTest_meas _ _ _).trans (setVals_meas _ s), fun f hlo hhi => ?_⟩
  rw [get_limitTest_other (by simp; omega) (by simp; omega), get_withResult_other (by simp; omega) (by simp; omega)]

/-- The statistics do not see the result's own fields. -/
theorem statWrites_withResult (s : State) (m : Member) (v : Int) :
    (s.withResult m).statWrites m.inst v = s.statWrites m.inst v := by
  have hmeas : (s.withResult m).meas = s.meas := setVals_meas _ s
  simp only [State.statWrites, hmeas]
  rw [get_withResult_other (by simp) (by simp), get_withResult_other (by simp) (by simp),
    get_withResult_other (by simp) (by simp)]

/-- A value that joins the statistics moves each of their fields and the sum (R108). -/
theorem completeMember_counts (ht : s.tableKept = true) (hi : m.inst < 8) (hlen : s.meas.sums.length = 8)
    (hm : s.meas.stamps.getD m.inst 0 = m.stamp) (h : (s.memberResult m).2 = some v)
    (hn : s.get (Fld.meStatCount m.inst) < 4294967295) :
    (∀ f x, (f, x) ∈ s.statWrites m.inst v → (completeMember false m s).1.get f = x)
    ∧ (completeMember false m s).1.meas.sums.getD m.inst 0 = s.meas.sums.getD m.inst 0 + v := by
  have hcount : (s.withResult m).get (Fld.meStatCount m.inst) < 4294967295 := by
    rwa [get_withResult_other (by simp) (by simp)]
  have hmeas : (s.withResult m).meas = s.meas := setVals_meas _ s
  rw [completeMember_current hm, withStats_counted h]
  refine ⟨fun f x hx => ?_, ?_⟩
  · have hf : f ∈ statFields m.inst := List.mem_map_of_mem (f := Prod.fst) hx
    have hother : f ≠ Fld.meOutcome m.inst ∧ f ≠ Fld.meFailCount m.inst := by
      constructor <;> rintro rfl <;> simp [statFields] at hf
    rw [get_limitTest_other hother.1 hother.2]
    rw [← statWrites_withResult] at hx
    exact get_statUpdate (tableKept_withResult ht m) hi hcount hx
  · rw [limitTest_meas, statUpdate_sum hcount (by rw [hmeas, hlen]; exact hi), hmeas]

/-- The limit test of a member with a value (R110, R111). -/
theorem completeMember_tested (ht : s.tableKept = true) (hi : m.inst < 8) (hm : s.meas.stamps.getD m.inst 0 = m.stamp)
    (h : (s.memberResult m).2 = some v) :
    (completeMember ex m s).1.get (Fld.meLast m.inst) = v
    ∧ (completeMember ex m s).1.get (Fld.meOutcome m.inst)
        = outcomeOf true (s.get (Fld.meLimitMode m.inst)) v (s.get (Fld.meLimitLo m.inst)) (s.get (Fld.meLimitHi m.inst))
    ∧ ((completeMember ex m s).2 = true ↔ s.get (Fld.meLimitMode m.inst) = 2
        ∧ (v < s.get (Fld.meLimitLo m.inst) ∨ s.get (Fld.meLimitHi m.inst) < v)) := by
  have hkept := tableKept_withStats ht ex m
  have hout := outcome_withStats (ex := ex) ht hi h
  have hmode : (s.withStats ex m).get (Fld.meLimitMode m.inst) = s.get (Fld.meLimitMode m.inst) :=
    get_withStats_setting (by decide)
  rw [completeMember_current hm, h]
  refine ⟨?_, (get_limitTest_outcome hkept hi).trans hout, ?_⟩
  · rw [get_limitTest_other (by simp) (by simp), get_withStats_last ht hi h]
  · obtain ⟨-, hfail⟩ | ⟨-, hpass⟩ := outcome_cases (s.withStats ex m) m.inst true
    · obtain ⟨-, -, hstop⟩ := limitTest_failed_writes hkept hi hfail
      rw [hmode] at hstop
      rw [hout] at hfail
      exact hstop.trans (and_iff_left (outcomeOf_failure.1 hfail).2).symm
    · obtain ⟨-, -, hstop⟩ := limitTest_passed_leaves hpass
      rw [hout] at hpass
      refine iff_of_false (ne_true_of_eq_false hstop) fun ⟨hmode2, hbeyond⟩ => ?_
      have hset : s.get (Fld.meLimitMode m.inst) ≠ 0 := by omega
      have hfail := outcomeOf_failure.2 ⟨hset, hbeyond⟩
      omega

/-! ## A pass's completion (R95, R111) -/

theorem unmeasured_completeMembers (ex : Bool) (ms : List Member) (acc : State × Bool) :
    (completeMembers ex ms acc).1.unmeasured = acc.1.unmeasured := by
  induction ms generalizing acc with
  | nil => rfl
  | cons m ms ih => exact (ih _).trans (unmeasured_completeMember ex m acc.1)

theorem exec_passCompletion {p : Pass} (hh : s.held = false) (hp : s.meas.pass = some p) :
    exec .passCompletion s = .next (passFinish p (completeMembers p.exclude p.members (s, false)).2
      (completeMembers p.exclude p.members (s, false)).1) := by
  rw [exec, execPassCompletion, awake_running hh, hp]

/-- The lends of channels released in turn. -/
def releaseEach (who : Lender) (l : List Nat) (s : State) : State := l.foldl (fun s ch => releaseLend who ch s) s

/-- To release lends moves the banks alone (R62). -/
theorem releaseEach_keeps {β : Type} {who : Lender} (π : State → β) (h : ∀ c s, π (releaseLend who c s) = π s)
    (l : List Nat) (s : State) : π (releaseEach who l s) = π s := foldl_keeps π _ (fun s c => h c s) l s

theorem passFinish_eq (p : Pass) (stop : Bool) (s : State) :
    passFinish p stop s = raise .measDone
      { releaseEach .measurement p.lent (if stop then takeStop s else s) with
        meas := { (releaseEach .measurement p.lent (if stop then takeStop s else s)).meas with pass := none } } := rfl

theorem has_release (who : Lender) (b : Bank) : (b.release who).lends.has who = false := by
  unfold Bank.release
  split
  · cases who <;> rfl
  · next h => exact Bool.eq_false_iff.2 h

/-- After its release a lender holds no bank of the channel (R62). -/
theorem lentBank_releaseLend (who : Lender) (ch : Nat) (s : State) : (releaseLend who ch s).lentBank who ch = none := by
  rw [State.lentBank, releaseLend, chan_modBanks_same rfl, List.find?_eq_none]
  intro b hb
  obtain ⟨x, -, rfl⟩ := List.mem_map.1 hb
  rw [has_release]
  decide

theorem lentBank_releaseEach {who : Lender} {l : List Nat} (h : ch ∈ l) : (releaseEach who l s).lentBank who ch = none := by
  induction l using List.reverseRecOn with
  | nil => cases h
  | append_singleton l c ih =>
    have hlast : releaseEach who (l ++ [c]) s = releaseLend who c (releaseEach who l s) := List.foldl_append
    rw [hlast]
    by_cases hc : c = ch
    · rw [hc, lentBank_releaseLend]
    · rw [State.lentBank, releaseLend, chan_modBanks_other _ hc]
      exact ih (by simpa [Ne.symm hc] using h)

theorem shell_passFinish (p : Pass) (stop : Bool) (s : State) : (passFinish p stop s).shell = s.shell := by
  have hrelease : ∀ u, (releaseEach .measurement p.lent u).shell = u.shell :=
    releaseEach_keeps State.shell (fun c _ => shell_releaseLend .measurement c) p.lent
  rw [passFinish_eq, shell_raise, shell_withMeas, hrelease]
  cases stop
  · rfl
  · exact shell_takeStop

/-- A pass without a STOP leaves acquisition and the records (R95). -/
theorem passFinish_quiet (p : Pass) (s : State) : (passFinish p false s).sweep = s.sweep
    ∧ (passFinish p false s).store = s.store :=
  ⟨releaseEach_keeps State.sweep (fun _ _ => rfl) p.lent s, releaseEach_keeps State.store (fun _ _ => rfl) p.lent s⟩

/-- A pass with a STOP leaves acquisition STOPPED (R80, R111). -/
theorem passFinish_stop (p : Pass) (s : State) : (passFinish p true s).sweep.acq = .stopped
    ∧ (passFinish p true s).sweep.single = false ∧ (passFinish p true s).trig.armedRise = false
    ∧ (passFinish p true s).trig.armedFall = false := by
  have hsweep : (passFinish p true s).sweep = (takeStop s).sweep :=
    releaseEach_keeps State.sweep (fun _ _ => rfl) p.lent (takeStop s)
  have htrig : (passFinish p true s).trig = (takeStop s).trig :=
    releaseEach_keeps State.trig (fun _ _ => rfl) p.lent (takeStop s)
  rw [hsweep, htrig, takeStop_halted]
  exact ⟨rfl, rfl, rfl, rfl⟩

/-! ## A pass's start (R93, R94) -/

/-- A member of a pass that starts, its start status complete (R94). -/
def State.startMember (s : State) (i : Nat) : Member := markNoData s (latchMember s i)

/-- The members of a pass that starts (R94 step 1). -/
def State.startMembers (s : State) : List Member := (s.liveOf .measurement).map s.startMember

/-- The channels of the members with no start status (R94 step 3). -/
def State.startLends (s : State) : List Nat :=
  [0, 1, 2, 3].filter fun ch => s.startMembers.any fun m => m.start == none && m.source == ch

/-- Lends requested in turn. -/
def requestEach (who : Lender) (l : List Nat) (s : State) : State := l.foldl (fun s ch => requestLend who ch s) s

theorem measSweepEnd_none (h : s.meas.pass ≠ none ∨ s.liveOf .measurement = []) : measSweepEnd s = s := by
  unfold measSweepEnd
  split
  · rfl
  · next hp =>
    rw [or_iff_right (not_not.2 hp)] at h
    rw [h]
    rfl

theorem measSweepEnd_starts (hp : s.meas.pass = none) (hl : s.liveOf .measurement ≠ []) :
    (measSweepEnd s).meas.pass = some (Pass.mk s.startMembers s.startLends false (10 * (s.liveOf .measurement).length))
    ∧ (measSweepEnd s).comb = (requestEach .measurement s.startLends s).comb := by
  have hmembers : ((s.liveOf .measurement).map (latchMember s)).map (markNoData s) = s.startMembers := List.map_map
  have hlength : s.startMembers.length = (s.liveOf .measurement).length := List.length_map _
  have hstart : measSweepEnd s = passStart s := by
    rw [measSweepEnd, hp]
    exact if_neg (by simpa using hl)
  rw [hstart, passStart, hmembers, hlength]
  exact ⟨rfl, rfl⟩

/-- What a member latches whatever its start status (R94 step 1). -/
theorem latchMember_latches (s : State) (i : Nat) : (latchMember s i).inst = i
    ∧ (latchMember s i).stamp = s.meas.stamps.getD i 0 ∧ (latchMember s i).kind = s.get (Fld.meKind i)
    ∧ (latchMember s i).source = (s.get (Fld.meSource i)).toNat := by
  unfold latchMember
  dsimp only
  repeat' split
  all_goals exact ⟨rfl, rfl, rfl, rfl⟩

/-- Row 1 of R94 step 2. -/
theorem latchMember_off (h : s.get (Fld.chDisplay (s.get (Fld.meSource i)).toNat) = 0) :
    (latchMember s i).start = some .sourceOff := by
  unfold latchMember
  dsimp only
  rw [if_pos (by simp [isOn, h])]

/-- GATE SCREEN (R98). -/
theorem latchMember_screen (h : s.get (Fld.chDisplay (s.get (Fld.meSource i)).toNat) ≠ 0)
    (hg : s.get (Fld.meGate i) ≠ 1) :
    (latchMember s i).gateLo = 0 ∧ (latchMember s i).gateHi = 999 ∧ (latchMember s i).start = none := by
  unfold latchMember
  dsimp only
  rw [if_neg (by simp [isOn, h]), if_neg hg]
  exact ⟨rfl, rfl, rfl⟩

/-- NO_DATA moves the start status alone (R94 step 3). -/
theorem markNoData_eq (s : State) (m : Member) : markNoData s m = { m with start := (markNoData s m).start } := by
  unfold markNoData
  split <;> rfl

theorem markNoData_started (h : m.start ≠ none) : markNoData s m = m := if_neg fun hn => h hn.1

theorem markNoData_free (h : m.start = none) :
    (markNoData s m).start = if s.shownBank m.source = none then some .noData else none := by
  simp only [markNoData, h, true_and, Option.isNone_iff_eq_none]
  split
  · rfl
  · exact h

theorem startMember_latches (s : State) (i : Nat) : (s.startMember i).inst = i
    ∧ (s.startMember i).stamp = s.meas.stamps.getD i 0 ∧ (s.startMember i).kind = s.get (Fld.meKind i)
    ∧ (s.startMember i).source = (s.get (Fld.meSource i)).toNat := by
  rw [State.startMember, markNoData_eq]
  exact latchMember_latches s i

theorem startMember_off (h : s.get (Fld.chDisplay (s.startMember i).source) = 0) :
    (s.startMember i).start = some .sourceOff := by
  obtain ⟨-, -, -, hsource⟩ := startMember_latches s i
  rw [hsource] at h
  have hoff := latchMember_off h
  rwa [State.startMember, markNoData_started (by rw [hoff]; exact nofun)]

theorem startMember_screen (h : s.get (Fld.chDisplay (s.startMember i).source) ≠ 0) (hg : s.get (Fld.meGate i) ≠ 1) :
    (s.startMember i).gateLo = 0 ∧ (s.startMember i).gateHi = 999
    ∧ (s.startMember i).start = if s.shownBank (s.startMember i).source = none then some .noData else none := by
  obtain ⟨-, -, -, hsource⟩ := startMember_latches s i
  obtain ⟨-, -, -, hlatched⟩ := latchMember_latches s i
  rw [hsource] at h ⊢
  obtain ⟨hlo, hhi, hfree⟩ := latchMember_screen h hg
  refine ⟨?_, ?_, ?_⟩
  · rw [State.startMember, markNoData_eq, hlo]
  · rw [State.startMember, markNoData_eq, hhi]
  · rw [State.startMember, markNoData_free hfree, hlatched]

/-- A member with no start status has a shown bank to lend (R94 step 3). -/
theorem startMember_shown (h : (s.startMember i).start = none) : s.shownBank (s.startMember i).source ≠ none := by
  intro hnone
  have hsource : (latchMember s i).source = (s.startMember i).source := by rw [State.startMember, markNoData_eq]
  by_cases hl : (latchMember s i).start = none
  · rw [State.startMember, markNoData_free hl, hsource, if_pos hnone] at h
    cases h
  · rw [State.startMember, markNoData_started hl] at h
    exact hl h

theorem startMembers_insts (s : State) : s.startMembers.map (·.inst) = s.liveOf .measurement := by
  rw [State.startMembers, List.map_map]
  exact List.map_id'' (fun i => (startMember_latches s i).1) _

theorem mem_startLends : ch ∈ s.startLends ↔ ch < 4 ∧ ∃ m, m ∈ s.startMembers ∧ m.start = none ∧ m.source = ch := by
  have hch : ch ∈ [0, 1, 2, 3] ↔ ch < 4 := List.mem_range (n := 4)
  simp only [State.startLends, List.mem_filter, hch, List.any_eq_true, Bool.and_eq_true, beq_iff_eq]

/-- A channel that is lent shows a bank (R94 step 3). -/
theorem shownBank_of_startLends (h : ch ∈ s.startLends) : s.shownBank ch ≠ none := by
  obtain ⟨-, m, hm, hstart, rfl⟩ := mem_startLends.1 h
  obtain ⟨i, -, rfl⟩ := List.mem_map.1 hm
  exact startMember_shown hstart

theorem has_lend (who : Lender) {b : Bank} (h : b.lends.has who = false) :
    ((b.lend who).lends.has who) = (b.role == .shown) := by
  unfold Bank.lend
  split
  · next hr => cases who <;> simp [hr, Lends.put, Lends.has]
  · next hr => rw [h]; exact (beq_eq_false_iff_ne.2 hr).symm

/-- The bank lent by a request is the one shown (R62). -/
theorem lentBank_requestLend (who : Lender) (ch : Nat) (s : State) :
    ((requestLend who ch s).lentBank who ch).map Bank.content = s.shownContent ch := by
  have hlent : (requestLend who ch s).lentBank who ch = (requestLend who ch s).shownBank ch := by
    rw [State.lentBank, State.shownBank, requestLend, chan_modBanks_same rfl, bankOf]
    refine List.find?_congr fun b hb => ?_
    obtain ⟨y, hy, rfl⟩ := List.mem_map.1 hb
    obtain ⟨x, -, rfl⟩ := List.mem_map.1 hy
    rw [has_lend who (has_release who x), role_lend]
  rw [hlent]
  exact shownContent_requestLend who ch ch

theorem lentBank_requestEach {who : Lender} {l : List Nat} (h : ch ∈ l) :
    ((requestEach who l s).lentBank who ch).map Bank.content = s.shownContent ch := by
  induction l using List.reverseRecOn with
  | nil => cases h
  | append_singleton l c ih =>
    have hlast : requestEach who (l ++ [c]) s = requestLend who c (requestEach who l s) := List.foldl_append
    rw [hlast]
    by_cases hc : c = ch
    · rw [hc, lentBank_requestLend]
      exact foldl_keeps (State.shownContent · ch) _ (fun s c => shownContent_requestLend who c ch) l s
    · rw [State.lentBank, requestLend, chan_modBanks_other _ hc]
      exact ih (by simpa [Ne.symm hc] using h)

/-- After a pass start a lent channel's shown bank is the measurement unit's (R62, R94). -/
theorem requestEach_lends (h : ch ∈ s.startLends) : ∃ b b', s.shownBank ch = some b
    ∧ (requestEach .measurement s.startLends s).lentBank .measurement ch = some b' ∧ b'.content = b.content := by
  obtain ⟨b, hb⟩ := Option.ne_none_iff_exists'.1 (shownBank_of_startLends h)
  have hlent := lentBank_requestEach (who := .measurement) (s := s) h
  rw [State.shownContent, hb] at hlent
  obtain ⟨b', hb', hcontent⟩ := Option.map_eq_some_iff.1 hlent
  exact ⟨b, b', hb, hb', hcontent⟩

end Sys2Proof.Machine

/-! ## The statement -/

open Sys2Proof Sys2Proof.Machine

/-- Settles O39: a completion is its members' results, the STOP and the releases one after the other; a member that is not
stale writes its own results alone; and a pass that starts lends the bank shown of every channel that a member needs. -/
theorem passCompletes : Obligations.PassCompletes := by
  refine ⟨fun s p hh hp => ?_, fun s m ex hm => completeMember_stale hm, ?_, fun s => ⟨measSweepEnd_none, ?_⟩⟩
  · have hkept := shell_of_unmeasured (unmeasured_completeMembers p.exclude p.members (s, false))
    have hshell := (shell_passFinish p (completeMembers p.exclude p.members (s, false)).2 _).trans hkept
    refine ⟨_, exec_passCompletion hh hp, rfl, (noticed_raise .measDone .measDone).trans (Bool.or_true _),
      shell_link hshell, restKept_of_shell hshell, fun ch hch => ?_, fun hstop => ?_, fun hstop => ?_⟩
    · exact lentBank_releaseEach (List.contains_iff_mem.1 hch)
    · rw [hstop]
      exact passFinish_stop p _
    · rw [hstop]
      obtain ⟨hsweep, hstore⟩ := passFinish_quiet p (completeMembers p.exclude p.members (s, false)).1
      exact ⟨hsweep.trans (sweep_of_unmeasured (unmeasured_completeMembers _ _ _)), hstore⟩
  · rintro s m ex n sum ht hi hlen hm rfl rfl
    have hkept := unmeasured_completeMember ex m s
    refine ⟨(completeMember ex m s).1, (completeMember ex m s).2, rfl, ?_, fun st hst => memberResult_start hst,
      completeMember_none ht hi hm, completeMember_excluded hm, fun v hv => ?_,
      fun g hg => get_completeMember_other fun k hk hgk => ?_,
      rest_of_unmeasured (fun u => u.meas.pass) hkept, rest_of_unmeasured (fun u => u.meas.stamps) hkept,
      comb_of_unmeasured hkept, sweep_of_unmeasured hkept, rest_of_unmeasured State.trig hkept,
      rest_of_unmeasured (fun u => u.notices.flags) hkept, recordsKept_of_unmeasured hkept,
      restKept_of_shell (shell_of_unmeasured hkept)⟩
    · rw [completeMember_current hm, get_limitTest_other (by simp) (by simp), get_withStats_status ht hi]
    · obtain ⟨hlast, hout, hstop⟩ := completeMember_tested (ex := ex) ht hi hm hv
      refine ⟨hlast, fun hex hn => ?_, fun hmode => hout.trans (if_pos (.inl hmode)),
        fun hmode => hout.trans (if_neg (not_or.2 ⟨hmode, nofun⟩)), hstop⟩
      subst hex
      obtain ⟨hfields, hsum⟩ := completeMember_counts ht hi hlen hm hv hn
      exact ⟨hfields _ _ (by simp [State.statWrites]), hsum, hfields _ _ (by simp [State.statWrites]),
        hfields _ _ (by simp [State.statWrites]), hfields _ _ (by simp [State.statWrites])⟩
    · subst hgk
      obtain hg | hg | hg := hg
      · exact hg rfl
      · exact hg rfl
      · exact absurd hg (not_lt.2 hk)
  · intro hp hl
    obtain ⟨hpass, hcomb⟩ := measSweepEnd_starts hp hl
    obtain ⟨hstore, hsweep, -⟩ := measSweepEnd_kept (s := s) 0
    refine ⟨_, hpass, startMembers_insts s, rfl, rfl, fun m hm => ?_, fun ch hch => ?_, hstore, hsweep⟩
    · obtain ⟨i, -, rfl⟩ := List.mem_map.1 hm
      obtain ⟨hinst, hstamp, hkind, hsource⟩ := startMember_latches s i
      rw [hinst]
      exact ⟨hstamp, hkind, hsource, startMember_off, startMember_screen,
        fun hstart hch => List.contains_iff_mem.2 (mem_startLends.2 ⟨hch, _, hm, hstart, rfl⟩)⟩
    · obtain ⟨b, b', hb, hb', hcontent⟩ := requestEach_lends (List.contains_iff_mem.1 hch)
      rw [State.lentBank, hcomb]
      exact ⟨b, b', hb, hb', (congrArg Bank.cols hcontent :), (congrArg Bank.header hcontent :),
        (congrArg Bank.origin hcontent :)⟩
end

section
/-! SUPPORT. The control state table (R116) under every activity of the part: most leave it, and the rest let a carry
become 0 (R15, R118, R127). One lemma per shared operation. -/

namespace Sys2Proof.Machine

/-- What panelKept speaks of: the keys, the encoders, and the work tied to the response (R116, R117). -/
structure ControlTable where
  keys : List Key
  encs : List Enc
  tie  : Tie

def State.controlTable (s : State) : ControlTable :=
  { keys := s.panel.keys, encs := s.panel.encs, tie := s.link.tie }

/-- An encoder whose carry has become 0 (R15, R118, R127). -/
def Enc.uncarried (x : Enc) : Enc := { x with carry := 0 }

/-- The second table is the first, but for carries that have become 0. -/
def ControlTable.Zeroed (a b : ControlTable) : Prop :=
  b.keys = a.keys ∧ b.tie = a.tie
    ∧ ∀ e : Nat, b.encs[e]? = a.encs[e]? ∨ b.encs[e]? = a.encs[e]?.map Enc.uncarried

variable {s t : State}

/-! ## The relation -/

@[simp] theorem zeroed_refl (a : ControlTable) : a.Zeroed a := ⟨rfl, rfl, fun _ => .inl rfl⟩

theorem zeroed_trans {a b c : ControlTable} (h : a.Zeroed b) (h' : b.Zeroed c) : a.Zeroed c := by
  obtain ⟨hkeys, htie, hencs⟩ := h
  obtain ⟨hkeys', htie', hencs'⟩ := h'
  refine ⟨hkeys'.trans hkeys, htie'.trans htie, fun e => ?_⟩
  obtain he | he := hencs e <;> obtain he' | he' := hencs' e <;> rw [he', he]
  · exact .inl rfl
  · exact .inr rfl
  · exact .inr rfl
  · exact .inr (Option.map_map _ _ _)

theorem zeroed_foldl {α : Type} {g : State → α → State}
    (h : ∀ (s : State) (x : α), s.controlTable.Zeroed (g s x).controlTable)
    (l : List α) (s : State) : s.controlTable.Zeroed (l.foldl g s).controlTable := by
  induction l generalizing s with
  | nil => exact zeroed_refl _
  | cons x l ih => exact zeroed_trans (h s x) (ih _)

theorem zeroed_foldIf {b : Bool} {g : State → State} (h : s.controlTable.Zeroed (g s).controlTable) :
    s.controlTable.Zeroed (foldIf b g s).controlTable := by
  cases b
  · exact zeroed_refl _
  · exact h

/-! ## Folds and conditions -/

@[simp] theorem controlTable_foldl {α : Type} (g : State → α → State)
    (h : ∀ s x, (g s x).controlTable = s.controlTable) (l : List α) (s : State) :
    (l.foldl g s).controlTable = s.controlTable := foldl_keeps State.controlTable g h l s

@[simp] theorem controlTable_forChannels (g : Nat → State → State) (h : ∀ c s, (g c s).controlTable = s.controlTable)
    (s : State) : (forChannels g s).controlTable = s.controlTable := forChannels_keeps State.controlTable h s

@[simp] theorem controlTable_foldIf (b : Bool) (g : State → State) (s : State) :
    (foldIf b g s).controlTable = if b = true then (g s).controlTable else s.controlTable := by cases b <;> rfl

/-! ## Updates -/

@[simp] theorem controlTable_withStore (x : Store) : ({ s with store := x } : State).controlTable = s.controlTable := rfl
@[simp] theorem controlTable_withSweep (x : Sweep) : ({ s with sweep := x } : State).controlTable = s.controlTable := rfl
@[simp] theorem controlTable_withTrig (x : Trig) : ({ s with trig := x } : State).controlTable = s.controlTable := rfl
@[simp] theorem controlTable_withMeas (x : Meas) : ({ s with meas := x } : State).controlTable = s.controlTable := rfl
@[simp] theorem controlTable_withRend (x : Rend) : ({ s with rend := x } : State).controlTable = s.controlTable := rfl
@[simp] theorem controlTable_setVal (f : FieldId) (v : Int) : (setVal f v s).controlTable = s.controlTable := rfl
@[simp] theorem controlTable_setGroup (g : Nat) (x : Group) : (setGroup g x s).controlTable = s.controlTable := rfl
@[simp] theorem controlTable_setQueue (q : List Change) : (setQueue q s).controlTable = s.controlTable := rfl
@[simp] theorem controlTable_settleRequest (x : Option Nat) : (settleRequest x s).controlTable = s.controlTable := rfl
@[simp] theorem controlTable_disarm : (disarm s).controlTable = s.controlTable := rfl
@[simp] theorem controlTable_setAuto (x : Option Nat) : (setAuto x s).controlTable = s.controlTable := rfl
@[simp] theorem controlTable_setAcq (a : Acq) : (setAcq a s).controlTable = s.controlTable := rfl
@[simp] theorem controlTable_oweRetry : (oweRetry s).controlTable = s.controlTable := rfl
@[simp] theorem controlTable_raise (n : Source) : (raise n s).controlTable = s.controlTable := rfl
@[simp] theorem controlTable_raiseIf (b : Bool) (n : Source) : (raiseIf b n s).controlTable = s.controlTable := by
  cases b <;> rfl
@[simp] theorem controlTable_emptyOrigin (o : Origin) : (emptyOrigin o s).controlTable = s.controlTable := by
  cases o <;> rfl
@[simp] theorem controlTable_modSetup (g : Setup → Setup) : (modSetup g s).controlTable = s.controlTable := rfl

/-- A carry set to 0 (R118). -/
theorem zeroed_setCarry (c : Nat) : s.controlTable.Zeroed (setCarry c 0 s).controlTable := by
  unfold setCarry
  split
  · refine ⟨rfl, rfl, fun e => ?_⟩
    change (s.panel.encs.modify (c - 48) Enc.uncarried)[e]? = _ ∨ (s.panel.encs.modify (c - 48) Enc.uncarried)[e]? = _
    rw [List.getElem?_modify]
    by_cases he : c - 48 = e
    · exact .inr (by simp only [he, if_pos]; rfl)
    · exact .inl (by simp only [he, if_false, id_map']; rfl)
  · exact zeroed_refl _

/-! ## The combiner -/

@[simp] theorem controlTable_clearShown (c : Nat) : (clearShown c s).controlTable = s.controlTable := rfl
@[simp] theorem controlTable_releaseLend (w : Lender) (c : Nat) :
    (releaseLend w c s).controlTable = s.controlTable := rfl
@[simp] theorem controlTable_requestLend (w : Lender) (c : Nat) :
    (requestLend w c s).controlTable = s.controlTable := rfl
@[simp] theorem controlTable_combStart : (combStart s).controlTable = s.controlTable := rfl
@[simp] theorem controlTable_combAbandon : (combAbandon s).controlTable = s.controlTable := rfl
@[simp] theorem controlTable_combTrigger (k : TrigKind) : (combTrigger k s).controlTable = s.controlTable := rfl
@[simp] theorem controlTable_combComplete : (combComplete s).controlTable = s.controlTable := rfl

@[simp] theorem controlTable_showChannel (a b c : Nat) : (showChannel a b c s).controlTable = s.controlTable := by
  unfold showChannel; split <;> rfl

@[simp] theorem controlTable_combSweepEnd : (combSweepEnd s).controlTable = s.controlTable := by
  unfold combSweepEnd
  dsimp only
  split <;> simp

/-! ## Consequences -/

@[simp] theorem controlTable_feStart : (feStart s).controlTable = s.controlTable := by rw [feStart_eq]; rfl

@[simp] theorem controlTable_feUpdate (c : Nat) : (feUpdate c s).controlTable = s.controlTable := by
  unfold feUpdate; dsimp only; split <;> rfl

@[simp] theorem controlTable_levelRecompute : (levelRecompute s).controlTable = s.controlTable := by
  simp [levelRecompute]

@[simp] theorem controlTable_trackingOff : (trackingOff s).controlTable = s.controlTable := rfl

@[simp] theorem controlTable_autoLevelAfter (b : State) (e : Bool) :
    (autoLevelAfter b e s).controlTable = s.controlTable := by
  unfold autoLevelAfter
  dsimp only
  split
  · simp
  · split
    · rfl
    · split <;> rfl

@[simp] theorem controlTable_disarmIfChanged (b : State) : (disarmIfChanged b s).controlTable = s.controlTable := by
  unfold disarmIfChanged; split <;> rfl

@[simp] theorem controlTable_clearStats (i : Nat) : (clearStats i s).controlTable = s.controlTable := rfl
@[simp] theorem controlTable_clearAllStats : (clearAllStats s).controlTable = s.controlTable :=
  controlTable_foldl _ (fun _ _ => controlTable_clearStats _) _ s
@[simp] theorem controlTable_definitionChange (i : Nat) : (definitionChange i s).controlTable = s.controlTable := rfl

@[simp] theorem controlTable_sweepModeWritten (b : State) : (sweepModeWritten b s).controlTable = s.controlTable := by
  unfold sweepModeWritten
  repeat' split
  all_goals rfl

@[simp] theorem controlTable_rescale (w : List FieldId) (c : Nat) : (rescale w c s).controlTable = s.controlTable := by
  simp [rescale]

@[simp] theorem controlTable_consequences (b : State) (w : List FieldId) (es : List Entry) (g : List Nat) :
    (consequences b w es g s).controlTable = s.controlTable := by simp [consequences]

/-! ## Records made and retired -/

@[simp] theorem controlTable_createRec (k : Kind) (i : Nat) : (createRec k i s).controlTable = s.controlTable := by
  unfold createRec; dsimp only; split <;> rfl

@[simp] theorem controlTable_freeRec (k : Kind) (i : Nat) : (freeRec k i s).controlTable = s.controlTable := rfl

@[simp] theorem controlTable_removeEntries (k : Kind) (i : Nat) :
    (removeEntries k i s).controlTable = s.controlTable := by simp [removeEntries]

@[simp] theorem controlTable_voidBinds (h : Int) (o : Nat) : (voidBinds h o s).controlTable = s.controlTable := by
  simp [voidBinds]

@[simp] theorem controlTable_dropLamp (k : Kind) (i l : Nat) : (dropLamp k i l s).controlTable = s.controlTable := by
  unfold dropLamp; split <;> simp

@[simp] theorem controlTable_dropGate (h : Int) (m : Nat) : (dropGate h m s).controlTable = s.controlTable := by
  unfold dropGate; dsimp only; split <;> simp

@[simp] theorem controlTable_dropMeasurement (i : Nat) : (dropMeasurement i s).controlTable = s.controlTable := rfl

theorem zeroed_dropBinding (k : Kind) (i b : Nat) : s.controlTable.Zeroed (dropBinding k i b s).controlTable := by
  unfold dropBinding
  split
  · exact zeroed_setCarry (s := setVal (Fld.biKind b) 1 (setVal (Fld.biTarget b) noRef s)) b
  · exact zeroed_refl _

theorem zeroed_retireRec (k : Kind) (i : Nat) : s.controlTable.Zeroed (retireRec k i s).controlTable := by
  unfold retireRec
  dsimp only
  generalize hu : List.foldl (fun s o => voidBinds _ o s) _ _ = u
  have hvoid : u.controlTable = s.controlTable := by simp [← hu]
  have hdrop := zeroed_foldl (fun s b => zeroed_dropBinding (s := s) k i b) (List.range 60) u
  rw [hvoid] at hdrop
  split <;> split <;> simp [hdrop]

/-! ## Changes applied -/

theorem controlTable_applyEntry (r : Bool) (acc : State × List FieldId) (e : Entry) :
    (applyEntry r acc e).1.controlTable = acc.1.controlTable := by
  unfold applyEntry
  split
  · rfl
  · split <;> rfl

@[simp] theorem controlTable_applyEntries (r : Bool) (es : List Entry) (acc : State × List FieldId) :
    (es.foldl (applyEntry r) acc).1.controlTable = acc.1.controlTable := by
  induction es generalizing acc with
  | nil => rfl
  | cons e es ih => exact (ih _).trans (controlTable_applyEntry r acc e)

@[simp] theorem controlTable_reclampOffset (c : Nat) : (reclampOffset c s).controlTable = s.controlTable := rfl
@[simp] theorem controlTable_reclampPosition (i : Nat) : (reclampPosition i s).controlTable = s.controlTable := rfl
@[simp] theorem controlTable_reclampWide : (reclampWide s).controlTable = s.controlTable := rfl

@[simp] theorem controlTable_reclampMeasurement (i : Nat) :
    (reclampMeasurement i s).controlTable = s.controlTable := by
  unfold reclampMeasurement; dsimp only; split <;> rfl

@[simp] theorem controlTable_readoutAgree (o : Nat) : (readoutAgree o s).controlTable = s.controlTable := by
  unfold readoutAgree; dsimp only; split <;> simp

@[simp] theorem controlTable_reclamps (es : List Entry) (w : List FieldId) :
    (reclamps es w s).controlTable = s.controlTable := by simp [reclamps]

theorem zeroed_recallRecords (es : List Entry) : s.controlTable.Zeroed (recallRecords es s).controlTable := by
  have hretire (k : Kind) (l : List Nat) (u : State) := zeroed_foldl (fun s i => zeroed_retireRec (s := s) k i) l u
  unfold recallRecords
  dsimp only
  simpa using zeroed_trans (hretire .cursor _ s) (hretire .measurement _ _)

/-- A change that applies may retire records, and so clear carries (R15, R173). -/
theorem zeroed_applyChange (c : Change) : s.controlTable.Zeroed (applyChange c s).controlTable := by
  unfold applyChange
  dsimp only
  split <;> simp [zeroed_recallRecords]

theorem zeroed_drain (n : Nat) : s.controlTable.Zeroed (drain n s).controlTable := by
  induction n generalizing s with
  | zero => exact zeroed_refl _
  | succ n ih =>
    unfold drain
    split
    · exact zeroed_refl _
    · next c rest _ => exact zeroed_trans (zeroed_applyChange (s := setQueue rest s) c) ih

theorem zeroed_examine : s.controlTable.Zeroed (examine s).controlTable := zeroed_drain _

@[simp] theorem controlTable_releaseAll : (releaseAll s).controlTable = s.controlTable := rfl

/-! ## The sweep controller -/

@[simp] theorem controlTable_triggerEvent (k : TrigKind) : (triggerEvent k s).controlTable = s.controlTable := rfl

@[simp] theorem controlTable_enterWaiting : (enterWaiting s).controlTable = s.controlTable := by
  unfold enterWaiting; split <;> rfl

@[simp] theorem controlTable_captureStart : (captureStart s).controlTable = s.controlTable := by
  unfold captureStart; dsimp only; split <;> simp

@[simp] theorem controlTable_abandon : (abandon s).controlTable = s.controlTable := by
  unfold abandon; split <;> rfl

theorem zeroed_abandonAndFlush : s.controlTable.Zeroed (abandonAndFlush s).controlTable := by
  unfold abandonAndFlush
  split
  · simpa using zeroed_examine (s := releaseAll (abandon s))
  · exact zeroed_refl _

@[simp] theorem controlTable_settleOrArm : (settleOrArm s).controlTable = s.controlTable := by
  unfold settleOrArm; split <;> simp

@[simp] theorem controlTable_restartAbandon : (restartAbandon s).controlTable = s.controlTable :=
  (rfl : (restartAbandon s).controlTable = (abandon s).controlTable).trans controlTable_abandon

@[simp] theorem controlTable_restartNext (a : Acq) : (restartNext a s).controlTable = s.controlTable := by
  unfold restartNext; split <;> simp

theorem zeroed_restartEvent : s.controlTable.Zeroed (restartEvent s).controlTable := by
  simpa [restartEvent] using zeroed_examine (s := releaseAll (restartAbandon s))

theorem zeroed_joinQueue (o : Origin) (es : List Entry) : s.controlTable.Zeroed (joinQueue o es s).controlTable := by
  have hexamine (q : List Change) : s.controlTable.Zeroed (examine (setQueue q s)).controlTable :=
    zeroed_examine (s := setQueue q s)
  unfold joinQueue
  dsimp only
  split
  · exact zeroed_restartEvent (s := setQueue _ s)
  · exact hexamine _
  · exact hexamine _

@[simp] theorem controlTable_takeRun : (takeRun s).controlTable = s.controlTable := by
  unfold takeRun; split <;> simp

theorem zeroed_takeStop : s.controlTable.Zeroed (takeStop s).controlTable := by
  unfold takeStop
  dsimp only
  split
  · have hexamine := zeroed_examine (s := releaseAll (setAcq .stopped (abandon s)))
    simp only [controlTable_releaseAll, controlTable_setAcq, controlTable_abandon] at hexamine
    exact hexamine
  · exact zeroed_refl _

theorem zeroed_takeSingle : s.controlTable.Zeroed (takeSingle s).controlTable := by
  unfold takeSingle
  dsimp only
  split <;> simp [zeroed_abandonAndFlush]

theorem controlTable_takeForce (h : takeForce s = some t) : t.controlTable = s.controlTable := by
  unfold takeForce at h
  split at h
  · cases h; rfl
  · cases h; rfl
  · cases h

theorem zeroed_takeRunStop : s.controlTable.Zeroed (takeRunStop s).controlTable := by
  unfold takeRunStop
  split
  · simp
  · exact zeroed_takeStop

@[simp] theorem controlTable_trackStep (h : Header) : (trackStep h s).controlTable = s.controlTable := by
  unfold trackStep
  dsimp only
  repeat' split
  all_goals simp

@[simp] theorem controlTable_track : (track s).controlTable = s.controlTable := by
  unfold track
  dsimp only
  repeat' split
  all_goals simp

@[simp] theorem controlTable_passStart : (passStart s).controlTable = s.controlTable := by
  unfold passStart
  dsimp only
  rw [controlTable_withMeas]
  exact controlTable_foldl (fun s c => requestLend .measurement c s) (fun _ _ => rfl) _ s

@[simp] theorem controlTable_measSweepEnd : (measSweepEnd s).controlTable = s.controlTable := by
  unfold measSweepEnd
  split
  · rfl
  · split <;> simp

@[simp] theorem controlTable_sweepCounts : (sweepCounts s).controlTable = s.controlTable := rfl

@[simp] theorem controlTable_sweepNext : (sweepNext s).controlTable = s.controlTable := by
  unfold sweepNext
  split
  · rfl
  · split <;> simp

theorem zeroed_sweepEnd : s.controlTable.Zeroed (sweepEnd s).controlTable := by
  simpa [sweepEnd] using zeroed_examine (s := releaseAll (sweepCounts (combSweepEnd s)))

theorem zeroed_columnComplete : s.controlTable.Zeroed (columnComplete s).controlTable := by
  unfold columnComplete
  dsimp only
  split
  · split
    · rw [controlTable_enterWaiting]
      exact zeroed_refl _
    · exact zeroed_refl _
  · split
    · exact zeroed_sweepEnd (s := { combComplete s with sweep := _ })
    · exact zeroed_refl _
  · exact zeroed_refl _

/-! ## Writes and panel adjustments -/

theorem zeroed_lockCarries : s.controlTable.Zeroed (lockCarries s).controlTable :=
  zeroed_foldl (fun _ _ => zeroed_foldIf (zeroed_setCarry _)) _ s

theorem zeroed_configWrite (f : FieldId) (v : Int) : s.controlTable.Zeroed (configWrite f v s).controlTable := by
  unfold configWrite
  dsimp only
  split
  · exact zeroed_setCarry (s := setVal f v s) _
  · exact zeroed_foldIf (s := setVal f v s) zeroed_lockCarries
  · exact zeroed_refl _

theorem zeroed_storeWrite {p : WritePath} {f : FieldId} {v : Val} (h : storeWrite p f v s = .ok t) :
    s.controlTable.Zeroed t.controlTable := by
  unfold storeWrite at h
  split at h
  · split at h <;> cases h
    · exact zeroed_configWrite _ _
    · exact zeroed_refl _
  · dsimp only at h
    split at h
    · cases h; exact zeroed_refl _
    · split at h <;> cases h; exact zeroed_refl _
  · split at h
    · cases h
    · split at h <;> cases h; exact zeroed_joinQueue _ _

theorem zeroed_panelAdjust {f : FieldId} {v : Int} (h : panelAdjust f v s = some t) :
    s.controlTable.Zeroed t.controlTable := by
  unfold panelAdjust at h
  split at h
  · split at h
    · cases h; exact zeroed_refl _
    · split at h <;> cases h; exact zeroed_joinQueue _ _
  · split at h <;> cases h; exact zeroed_joinQueue _ _

/-- What the panel submits clears carries at the most (R118, R123, R127). -/
theorem zeroed_submit {f : FieldId} {sp : FieldSpec} {v : Int} (h : submit f sp v s = some t) :
    s.controlTable.Zeroed t.controlTable := by
  unfold submit at h
  split at h
  · split at h <;> cases h; exact zeroed_configWrite _ _
  · exact zeroed_panelAdjust h

end Sys2Proof.Machine
end

section
/-! SUPPORT. A turn of one control: what a press, a detent and a carry retry can do (R120 to R126), and what turns taken
one after the other come to (log 14). -/

namespace Sys2Proof.Machine

variable {s t u : State} {f : FieldId} {sp : FieldSpec} {v n steps : Int} {c e k : Nat}

/-! ## Turns one after the other -/

/-- Turns of which only one acts: the rest find nothing to do, before it and after it. -/
theorem foldl_range_only {α : Type} {g : α → Nat → α} (P : α → Prop) {n e : Nat} {s : α} (he : e < n)
    (hidle : ∀ u j, P u → j < n → j ≠ e → g u j = u) (hs : P s) (ht : P (g s e)) : (List.range n).foldl g s = g s e := by
  have hskip : ∀ l : List Nat, (∀ j ∈ l, j < n ∧ j ≠ e) → ∀ u, P u → l.foldl g u = u := by
    intro l hl u hu
    induction l with
    | nil => rfl
    | cons j l ih =>
      obtain ⟨hj, hje⟩ := hl j List.mem_cons_self
      rw [List.foldl_cons, hidle u j hu hj hje]
      exact ih fun i hi => hl i (List.mem_cons_of_mem _ hi)
  obtain ⟨m, rfl⟩ := Nat.exists_eq_add_of_lt he
  have hsplit : List.range (e + m + 1) = List.range e ++ e :: (List.range m).map (e + 1 + ·) := by
    rw [Nat.add_assoc, List.range_add, Nat.add_comm m 1, List.range_add]
    simp [Nat.add_assoc]
  rw [hsplit, List.foldl_append, List.foldl_cons, hskip _ _ s hs, hskip _ _ _ ht]
  · intro j hj
    obtain ⟨i, hi, rfl⟩ := List.mem_map.1 hj
    have := List.mem_range.1 hi
    omega
  · intro j hj
    have := List.mem_range.1 hj
    omega

/-- Turns that each move their own part of a view: after them a part is as its own turn left it. -/
theorem foldl_range_at {α β : Type} (π : Nat → α → β) {g : α → Nat → α} (hother : ∀ u i j, i ≠ j → π i (g u j) = π i u)
    {n e : Nat} (he : e < n) (s : α) : ∃ u, π e u = π e s ∧ π e ((List.range n).foldl g s) = π e (g u e) := by
  induction n with
  | zero => omega
  | succ n ih =>
    rw [List.range_succ, List.foldl_append, List.foldl_cons, List.foldl_nil]
    by_cases hen : e = n
    · subst hen
      refine ⟨_, ?_, rfl⟩
      have hbefore : ∀ l : List Nat, (∀ j ∈ l, e ≠ j) → ∀ u, π e (l.foldl g u) = π e u := by
        intro l hl u
        induction l generalizing u with
        | nil => rfl
        | cons j l ih =>
          exact (ih (fun i hi => hl i (List.mem_cons_of_mem _ hi)) _).trans (hother u e j (hl j List.mem_cons_self))
      exact hbefore _ (fun j hj => (List.mem_range.1 hj).ne') s
    · obtain ⟨u, hu, hturn⟩ := ih (by omega)
      exact ⟨u, hu, (hother _ e n hen).trans hturn⟩

/-! ## Reading around the table -/

@[simp] theorem get_modKey (g : Key → Key) (f : FieldId) : (modKey k g s).get f = s.get f := rfl
@[simp] theorem get_modEnc (g : Enc → Enc) (f : FieldId) : (modEnc e g s).get f = s.get f := rfl
@[simp] theorem eff_modEnc (g : Enc → Enc) (f : FieldId) : (modEnc e g s).eff f = s.eff f := rfl
@[simp] theorem namesField_modEnc (g : Enc → Enc) (x : Int) : (modEnc e g s).namesField x = s.namesField x := rfl
@[simp] theorem actingKind_modKey (g : Key → Key) (c : Nat) : (modKey k g s).actingKind c = s.actingKind c := rfl
@[simp] theorem adjusted_modEnc (g : Enc → Enc) (c : Nat) (f : FieldId) (lo hi n : Int) :
    (modEnc e g s).adjusted c f lo hi n = s.adjusted c f lo hi n := rfl

theorem getD_of_getElem? {α : Type} {l : List α} {i : Nat} {d x : α} (h : l[i]? = some x) : l.getD i d = x := by
  rw [List.getD_eq_getElem?_getD, h, Option.getD_some]

theorem keys_modKey (g : Key → Key) (j : Nat) :
    (modKey k g s).panel.keys[j]? = s.panel.keys[j]?.map fun x => if k = j then g x else x := List.getElem?_modify ..

theorem encs_modEnc (g : Enc → Enc) (j : Nat) :
    (modEnc e g s).panel.encs[j]? = s.panel.encs[j]?.map fun x => if e = j then g x else x := List.getElem?_modify ..

/-- Two updates of a key that agree on it are one. -/
theorem modKey_congr {g h : Key → Key} (hx : ∀ x, s.panel.keys[k]? = some x → g x = h x) : modKey k g s = modKey k h s := by
  have hkeys : s.panel.keys.modify k g = s.panel.keys.modify k h := by
    rw [List.modify_eq_set_getElem?, List.modify_eq_set_getElem?]
    cases hk : s.panel.keys[k]? with
    | none => rfl
    | some x => simp [hx x hk]
  rw [modKey, modKey, hkeys]

/-- Two updates of an encoder that agree on it are one. -/
theorem modEnc_congr {g h : Enc → Enc} (hx : ∀ x, s.panel.encs[e]? = some x → g x = h x) : modEnc e g s = modEnc e h s := by
  have hencs : s.panel.encs.modify e g = s.panel.encs.modify e h := by
    rw [List.modify_eq_set_getElem?, List.modify_eq_set_getElem?]
    cases he : s.panel.encs[e]? with
    | none => rfl
    | some x => simp [hx x he]
  rw [modEnc, modEnc, hencs]

theorem modKey_fixed {g : Key → Key} (hx : ∀ x, s.panel.keys[k]? = some x → g x = x) : modKey k g s = s := by
  rw [modKey, modify_of_fixed hx]

theorem modEnc_fixed {g : Enc → Enc} (hx : ∀ x, s.panel.encs[e]? = some x → g x = x) : modEnc e g s = s := by
  rw [modEnc, modify_of_fixed hx]

/-! ## What a taken adjustment or an action leaves -/

/-- A taken adjustment or an action moves, of the panel, the changed mask and carries that become 0 (R118, R125, R127); it
reaches nothing else that changes never reach. -/
def State.Adjusts (s t : State) : Prop :=
  t.shell = { s.shell with mask := t.panel.mask } ∧ s.controlTable.Zeroed t.controlTable

theorem adjusts_of_shell (h : t.shell = s.shell) (hz : s.controlTable.Zeroed t.controlTable) : s.Adjusts t :=
  ⟨by rw [h, shell_mask h]; rfl, hz⟩

theorem adjusts_refl : s.Adjusts s := adjusts_of_shell rfl (zeroed_refl _)

theorem adjusts_markChanged (f : FieldId) (h : t.shell = s.shell) (hz : s.controlTable.Zeroed t.controlTable) :
    s.Adjusts (markChanged f t) :=
  ⟨congrArg (fun x : Shell => { x with mask := t.panel.mask ||| categoryOf f }) h, hz⟩

theorem adjusts_stepTarget {toggle : Bool} {d : Int} (h : stepTarget c toggle d s = some t) : s.Adjusts t := by
  unfold stepTarget at h
  split at h
  · next f sp _ =>
    obtain ⟨x, hx, rfl⟩ := Option.map_eq_some_iff.1 h
    exact adjusts_markChanged f (shell_submit hx) (zeroed_submit hx)
  · cases h

theorem adjusts_level50 : s.Adjusts (level50 s) := by
  unfold level50
  split
  · exact adjusts_refl
  · split
    · exact adjusts_refl
    · dsimp only
      split
      · next t ht => exact adjusts_markChanged _ (shell_panelAdjust ht) (zeroed_panelAdjust ht)
      · exact adjusts_refl

theorem adjusts_takeForce : s.Adjusts ((takeForce s).getD s) := by
  cases h : takeForce s with
  | none => exact adjusts_refl
  | some t => exact adjusts_of_shell (shell_takeForce h) (by rw [Option.getD_some, controlTable_takeForce h]; exact zeroed_refl _)

/-- Every action is of this kind (R126). -/
theorem adjusts_panelAction (a : Int) : s.Adjusts (panelAction a s) := by
  unfold panelAction
  split
  · exact adjusts_of_shell shell_takeRunStop zeroed_takeRunStop
  split
  · exact adjusts_of_shell shell_takeSingle zeroed_takeSingle
  split
  · exact adjusts_takeForce
  split
  · exact adjusts_level50
  split
  · exact adjusts_of_shell shell_clearAllStats (by simp)
  · exact adjusts_of_shell rfl (zeroed_refl _)

/-- Everything a press can do: it is counted for the host, or it adjusts or acts (R120, R121, R124, R126). -/
theorem press_cases (k : Nat) (s : State) : press k s = notifyPress k s ∨ s.Adjusts (press k s) := by
  have hstep (toggle : Bool) : (stepTarget k toggle 1 s).getD (notifyPress k s) = notifyPress k s
      ∨ s.Adjusts ((stepTarget k toggle 1 s).getD (notifyPress k s)) := by
    cases h : stepTarget k toggle 1 s with
    | none => exact .inl rfl
    | some t => exact .inr (adjusts_stepTarget h)
  unfold press
  dsimp only
  split
  · exact .inl rfl
  split
  · exact hstep true
  split
  · exact hstep false
  split
  · exact .inr (adjusts_panelAction _)
  · exact .inr adjusts_refl

/-! ## Adjustments by an encoder -/

/-- The steps that an ADJUST takes, the carry among them (R122, R123). -/
def State.carried (s : State) (e : Nat) (steps : Int) : Int :=
  limit (-127) 127 ((s.panel.encs.getD e Enc.reset).carry + steps)

theorem carried_bounds (s : State) (e : Nat) (steps : Int) : -127 ≤ s.carried e steps ∧ s.carried e steps ≤ 127 :=
  limit_bounds (by decide)

/-- An ADJUST of a numeric target: it moves nothing, or what it submits is taken, or refused (R122, R123). -/
theorem adjust_eq {lo hi : Int} (hname : s.namesField (s.get (Fld.biTarget (48 + e))) = some (f, sp))
    (hty : sp.ty = .numeric lo hi) (hn : n = s.carried e steps) (hv : v = s.adjusted (48 + e) f lo hi n) :
    adjust e steps s = if v = s.eff f then setCarry (48 + e) 0 s
      else ((submit f sp v s).map fun t => markChanged f (setCarry (48 + e) 0 t)).getD (setCarry (48 + e) n s) := by
  subst hn hv
  simp only [adjust, hname, hty, State.carried]
  congr 1
  cases submit f sp _ s <;> rfl

theorem adjust_numeric {lo hi : Int} (hname : s.namesField (s.get (Fld.biTarget (48 + e))) = some (f, sp))
    (hty : sp.ty = .numeric lo hi) (hn : n = s.carried e steps) (hv : v = s.adjusted (48 + e) f lo hi n) :
    (v = s.eff f → adjust e steps s = setCarry (48 + e) 0 s)
    ∧ (∀ t, v ≠ s.eff f → submit f sp v s = some t → adjust e steps s = markChanged f (setCarry (48 + e) 0 t))
    ∧ (v ≠ s.eff f → submit f sp v s = none → adjust e steps s = setCarry (48 + e) n s) := by
  rw [adjust_eq hname hty hn hv]
  exact ⟨fun h => if_pos h, fun t hne hsub => by rw [if_neg hne, hsub]; rfl, fun hne hsub => by rw [if_neg hne, hsub]; rfl⟩

/-- Everything an ADJUST can do: it is taken or moves nothing, or it is refused and keeps its steps as carry (R123). -/
theorem adjust_cases (e : Nat) (steps : Int) (s : State) : s.Adjusts (adjust e steps s)
    ∨ ∃ n, -127 ≤ n ∧ n ≤ 127 ∧ adjust e steps s = setCarry (48 + e) n s := by
  cases hname : s.namesField (s.get (Fld.biTarget (48 + e))) with
  | none => exact .inl (by simp only [adjust, hname]; exact adjusts_refl)
  | some target =>
    obtain ⟨f, sp⟩ := target
    cases hty : sp.ty with
    | numeric lo hi =>
      obtain ⟨hsame, htaken, hrefused⟩ := adjust_numeric (steps := steps) hname hty rfl rfl
      by_cases hv : s.adjusted (48 + e) f lo hi (s.carried e steps) = s.eff f
      · rw [hsame hv]
        exact .inl (adjusts_of_shell (shell_setCarry _ _) (zeroed_setCarry _))
      · cases hsub : submit f sp (s.adjusted (48 + e) f lo hi (s.carried e steps)) s with
        | none => exact .inr ⟨_, (carried_bounds s e steps).1, (carried_bounds s e steps).2, hrefused hv hsub⟩
        | some t =>
          rw [htaken t hv hsub]
          exact .inl (adjusts_markChanged f ((shell_setCarry _ _).trans (shell_submit hsub))
            (zeroed_trans (zeroed_submit hsub) (zeroed_setCarry _)))
    | _ => exact .inl (by simp only [adjust, hname, hty]; exact adjusts_refl)

/-- Everything a detent can do, once its interval has begun anew (R115, R120 to R124). -/
theorem detent_cases (e : Nat) (sg : Int) (hu : u = modEnc e (fun x => { x with since := some 0 }) s) :
    (∃ steps, detent e sg s = notifyDetent e steps u) ∨ u.Adjusts (detent e sg s)
      ∨ ∃ n, -127 ≤ n ∧ n ≤ 127 ∧ detent e sg s = setCarry (48 + e) n u := by
  have hstep (toggle : Bool) (steps : Int) :
      (stepTarget (48 + e) toggle sg u).getD (notifyDetent e steps u) = notifyDetent e steps u
        ∨ u.Adjusts ((stepTarget (48 + e) toggle sg u).getD (notifyDetent e steps u)) := by
    cases h : stepTarget (48 + e) toggle sg u with
    | none => exact .inl rfl
    | some t => exact .inr (adjusts_stepTarget h)
  unfold detent
  dsimp only
  rw [← hu]
  split
  · exact .inl ⟨_, rfl⟩
  split
  · exact .inr (adjust_cases _ _ _)
  split
  · exact (hstep true _).imp (fun h => ⟨_, h⟩) .inl
  split
  · exact (hstep false _).imp (fun h => ⟨_, h⟩) .inl
  · exact .inr (.inl adjusts_refl)

/-- Everything a retry can do (R123). -/
theorem retryCarry_cases (e : Nat) (s : State) : s.Adjusts (retryCarry e s)
    ∨ ∃ n, -127 ≤ n ∧ n ≤ 127 ∧ retryCarry e s = setCarry (48 + e) n s := by
  unfold retryCarry
  split
  · exact .inl adjusts_refl
  · split
    · exact adjust_cases e 0 s
    · exact .inl (adjusts_of_shell (shell_setCarry _ _) (zeroed_setCarry _))

end Sys2Proof.Machine
end

section
/-! SUPPORT. The control state table in range (R112, R116, R117) under every command. -/

namespace Sys2Proof.Machine

variable {s t : State} {a b : ControlTable} {e k : Nat}

/-! ## The table in range -/

/-- Pending detents and carry within -127 to +127 (R116). -/
def Enc.Wf (x : Enc) : Prop := -127 ≤ x.pending ∧ x.pending ≤ 127 ∧ -127 ≤ x.carry ∧ x.carry ≤ 127

def ControlTable.Wf (a : ControlTable) : Prop :=
  a.keys.length = 48 ∧ a.encs.length = 12 ∧ tieKept a.tie = true ∧ (∀ x ∈ a.keys, x.count ≤ 15) ∧ ∀ x ∈ a.encs, x.Wf

theorem panelKept_iff : s.panelKept = true ↔ s.controlTable.Wf := by
  simp [State.panelKept, ControlTable.Wf, Enc.Wf, State.controlTable, and_assoc]

theorem wf_uncarried {x : Enc} (h : x.Wf) : x.uncarried.Wf := by
  obtain ⟨hlo, hhi, -⟩ := h
  exact ⟨hlo, hhi, (by decide : (-127 : Int) ≤ 0), (by decide : (0 : Int) ≤ 127)⟩

/-- Carries that become 0 stay in range. -/
theorem wf_zeroed (h : a.Zeroed b) (ha : a.Wf) : b.Wf := by
  obtain ⟨hkeys, htie, hencs⟩ := h
  obtain ⟨hklen, helen, htieKept, hcounts, hrange⟩ := ha
  have hnone (e : Nat) : b.encs[e]? = none ↔ a.encs[e]? = none := by
    obtain h | h := hencs e <;> simp [h]
  refine ⟨hkeys ▸ hklen, ?_, htie ▸ htieKept, hkeys ▸ hcounts, fun x hx => ?_⟩
  · have hle := (hnone 12).2 (List.getElem?_eq_none helen.le)
    have hge := mt (hnone 11).1 (by simp [helen])
    simp only [List.getElem?_eq_none_iff] at hle hge
    omega
  · obtain ⟨e, he⟩ := List.mem_iff_getElem?.1 hx
    obtain h | h := hencs e <;> rw [he] at h
    · exact hrange x (List.mem_iff_getElem?.2 ⟨e, h.symm⟩)
    · obtain ⟨y, hy, rfl⟩ := Option.map_eq_some_iff.1 h.symm
      exact wf_uncarried (hrange y (List.mem_iff_getElem?.2 ⟨e, hy⟩))

theorem wf_withTie {tie : Tie} (h : a.Wf) (htie : tieKept tie = true) : ({ a with tie := tie } : ControlTable).Wf := by
  obtain ⟨hklen, helen, -, hcounts, hrange⟩ := h
  exact ⟨hklen, helen, htie, hcounts, hrange⟩

/-- An updated list holds only old and updated elements. -/
theorem forall_mem_modify {α : Type} {p : α → Prop} {l : List α} {g : α → α} (h : ∀ x ∈ l, p x)
    (hg : ∀ x, p x → p (g x)) (i : Nat) : ∀ x ∈ l.modify i g, p x := by
  intro x hx
  obtain ⟨j, hj⟩ := List.mem_iff_getElem?.1 hx
  rw [List.getElem?_modify] at hj
  obtain ⟨y, hy, rfl⟩ := Option.map_eq_some_iff.1 hj
  have hpy := h y (List.mem_iff_getElem?.2 ⟨j, hy⟩)
  split
  · exact hg y hpy
  · exact hpy

theorem wf_modKey {g : Key → Key} (hg : ∀ x, x.count ≤ 15 → (g x).count ≤ 15) (h : s.controlTable.Wf) :
    (modKey k g s).controlTable.Wf := by
  obtain ⟨hklen, helen, htie, hcounts, hrange⟩ := h
  exact ⟨(List.length_modify ..).trans hklen, helen, htie, forall_mem_modify hcounts hg k, hrange⟩

theorem wf_modEnc {g : Enc → Enc} (hg : ∀ x, x.Wf → (g x).Wf) (h : s.controlTable.Wf) :
    (modEnc e g s).controlTable.Wf := by
  obtain ⟨hklen, helen, htie, hcounts, hrange⟩ := h
  exact ⟨hklen, (List.length_modify ..).trans helen, htie, hcounts, forall_mem_modify hrange hg e⟩

theorem wf_setCarry {c : Nat} {n : Int} (hlo : -127 ≤ n) (hhi : n ≤ 127) (h : s.controlTable.Wf) :
    (setCarry c n s).controlTable.Wf := by
  unfold setCarry
  split
  · exact wf_modEnc (fun _ hx => ⟨hx.1, hx.2.1, hlo, hhi⟩) h
  · exact h

theorem wf_foldl {α : Type} {g : State → α → State} (hg : ∀ (s : State) (x : α), s.controlTable.Wf → (g s x).controlTable.Wf)
    (l : List α) (h : s.controlTable.Wf) : (l.foldl g s).controlTable.Wf := by
  induction l generalizing s with
  | nil => exact h
  | cons x l ih => exact ih (hg s x h)

/-! ## Turns of the controls (R113 to R124) -/

theorem wf_notifyPress (h : s.controlTable.Wf) : (notifyPress k s).controlTable.Wf :=
  wf_modKey (fun _ _ => Nat.min_le_left ..) h

theorem wf_notifyDetent {steps : Int} (h : s.controlTable.Wf) : (notifyDetent e steps s).controlTable.Wf :=
  wf_modEnc (fun _ hx =>
    have hlimit := limit_bounds (lo := -127) (hi := 127) (by decide)
    ⟨hlimit.1, hlimit.2, hx.2.2⟩) h

theorem wf_adjusts (h : s.Adjusts t) (hs : s.controlTable.Wf) : t.controlTable.Wf := wf_zeroed h.2 hs

theorem wf_press (h : s.controlTable.Wf) : (press k s).controlTable.Wf := by
  obtain hp | hp := press_cases k s
  · rw [hp]; exact wf_notifyPress h
  · exact wf_adjusts hp h

/-- A scan of a key moves no count (R113). -/
theorem debounce_count (raw : Bool) (x : Key) : (debounce raw x).1.count = x.count := by
  unfold debounce
  split
  · rfl
  · split <;> rfl

theorem wf_scanKey {raw : Bool} (h : s.controlTable.Wf) : (scanKey raw k s).controlTable.Wf := by
  have hcount : (s.panel.keys.getD k Key.reset).count ≤ 15 := by
    obtain ⟨-, -, -, hcounts, -⟩ := h
    rw [List.getD_eq_getElem?_getD]
    cases hk : s.panel.keys[k]? with
    | none => exact Nat.zero_le _
    | some x => exact hcounts x (List.mem_iff_getElem?.2 ⟨k, hk⟩)
  have hscan := wf_modKey (k := k) (fun _ _ => (debounce_count raw _).trans_le hcount) h
  unfold scanKey
  dsimp only
  split
  · exact wf_press hscan
  · exact hscan

theorem wf_detent {sg : Int} (h : s.controlTable.Wf) : (detent e sg s).controlTable.Wf := by
  have hu := wf_modEnc (e := e) (g := fun x => { x with since := some 0 }) (fun _ hx => hx) h
  obtain ⟨steps, hd⟩ | hd | ⟨n, hlo, hhi, hd⟩ := detent_cases e sg (s := s) rfl
  · rw [hd]; exact wf_notifyDetent hu
  · exact wf_adjusts hd hu
  · rw [hd]; exact wf_setCarry hlo hhi hu

/-- A sample of an encoder moves neither its pending detents nor its carry (R114). -/
theorem sampleEncoder_kept (pair : Bool × Bool) (x : Enc) :
    (sampleEncoder pair x).1.pending = x.pending ∧ (sampleEncoder pair x).1.carry = x.carry := by
  unfold sampleEncoder
  dsimp only
  split
  · exact ⟨rfl, rfl⟩
  · split
    · exact ⟨rfl, rfl⟩
    · split <;> exact ⟨rfl, rfl⟩

theorem wf_stepEncoder {pair : Bool × Bool} (h : s.controlTable.Wf) : (stepEncoder pair e s).controlTable.Wf := by
  have hx : (s.panel.encs.getD e Enc.reset).Wf := by
    obtain ⟨-, -, -, -, hrange⟩ := h
    rw [List.getD_eq_getElem?_getD]
    cases he : s.panel.encs[e]? with
    | none => exact ⟨by decide, by decide, by decide, by decide⟩
    | some x => exact hrange x (List.mem_iff_getElem?.2 ⟨e, he⟩)
  have hsample : (modEnc e (fun _ => (sampleEncoder pair (s.panel.encs.getD e Enc.reset)).1) s).controlTable.Wf := by
    obtain ⟨hpending, hcarry⟩ := sampleEncoder_kept pair (s.panel.encs.getD e Enc.reset)
    refine wf_modEnc (fun _ _ => ?_) h
    rw [Enc.Wf, hpending, hcarry]
    exact hx
  unfold stepEncoder
  dsimp only
  split
  · exact hsample
  · exact wf_detent hsample

theorem wf_retryCarry (h : s.controlTable.Wf) : (retryCarry e s).controlTable.Wf := by
  obtain hr | ⟨n, hlo, hhi, hr⟩ := retryCarry_cases e s
  · exact wf_adjusts hr h
  · rw [hr]; exact wf_setCarry hlo hhi h

/-! ## Outcomes and replies -/

/-- Whatever comes next has its table in range. -/
def OutWf (o : Out) : Prop := ∀ t, o = .next t → t.controlTable.Wf

/-- The reply leaves the table in range, and ties a whole snapshot to the response, if any (R117). -/
def Reply.Wf (r : Reply) : Prop := r.st.controlTable.Wf ∧ tieKept r.tie = true

theorem outWf_next (h : t.controlTable.Wf) : OutWf (.next t) := fun _ hu => by cases hu; exact h

theorem outWf_awake (hs : s.controlTable.Wf) (ht : t.controlTable.Wf) : OutWf (awake s t) := by
  unfold awake
  split <;> exact outWf_next ‹_›

theorem wf_refuse {st : Status} (h : s.controlTable.Wf) : (refuse st s).Wf := ⟨h, rfl⟩
theorem wf_accept {data : List Byte} (h : s.controlTable.Wf) : (accept data s).Wf := ⟨h, rfl⟩
theorem wf_respond {r : Reply} (h : r.Wf) : (respond r).controlTable.Wf := wf_withTie h.1 h.2

theorem outWf_takeCommand {i : Instr} {body : State → Reply} (h : s.controlTable.Wf) (hbody : (body s).Wf) :
    OutWf (takeCommand i body s) := by
  obtain hc | ⟨-, hc⟩ | ⟨-, -, hc⟩ := takeCommand_cases (i := i) (body := body) (s := s) <;> rw [hc]
  · exact outWf_next h
  · exact outWf_next (wf_respond (wf_refuse h))
  · exact outWf_next (wf_respond hbody)

/-! ## Commands of the link -/

theorem wf_numericWrite {f : FieldId} {sp : FieldSpec} {v : Int} (h : s.controlTable.Wf) : (numericWrite f sp v s).Wf := by
  unfold numericWrite
  dsimp only
  split
  · exact wf_refuse h
  · split
    · exact wf_refuse h
    · next t ht => exact ⟨wf_zeroed (zeroed_storeWrite ht) h, rfl⟩

theorem outWf_read (handle : BitVec 16) (field option : Byte) (h : s.controlTable.Wf) :
    OutWf (execRead handle field option s) := by
  refine outWf_takeCommand h ?_
  split
  · exact wf_refuse h
  · split
    · exact wf_refuse h
    · exact wf_accept h

theorem outWf_write (handle : BitVec 16) (field : Byte) (value : BitVec 64) (h : s.controlTable.Wf) :
    OutWf (execWrite handle field value s) := by
  refine outWf_takeCommand h ?_
  split
  · exact wf_refuse h
  · exact wf_numericWrite h

theorem outWf_writeText (handle : BitVec 16) (field : Byte) (text : List Byte) (h : s.controlTable.Wf) :
    OutWf (execWriteText handle field text s) := by
  refine outWf_takeCommand h ?_
  split
  · exact wf_refuse h
  · split
    · exact wf_refuse h
    · split
      · exact wf_refuse h
      · split
        · exact wf_refuse h
        · next t ht => exact ⟨wf_zeroed (zeroed_storeWrite ht) h, rfl⟩

theorem outWf_create (kind objectKind : Byte) (h : s.controlTable.Wf) : OutWf (execCreate kind objectKind s) := by
  refine outWf_takeCommand h ?_
  split
  · exact wf_refuse h
  · split
    · exact wf_refuse h
    · split
      · exact wf_refuse h
      · exact wf_accept (by simpa using h)

theorem outWf_retire (handle : BitVec 16) (h : s.controlTable.Wf) : OutWf (execRetire handle s) := by
  refine outWf_takeCommand h ?_
  dsimp only
  split
  · exact wf_refuse h
  · split
    · exact wf_refuse h
    · split
      · exact wf_refuse h
      · exact wf_accept (wf_zeroed (zeroed_trans (zeroed_retireRec _ _) zeroed_examine) h)

theorem outWf_groupOpen (g : Byte) (h : s.controlTable.Wf) : OutWf (execGroupOpen g s) := by
  refine outWf_takeCommand h ?_
  split
  · exact wf_refuse h
  · split
    · exact wf_refuse h
    · exact wf_accept h

theorem outWf_groupLaunch (g : Byte) (h : s.controlTable.Wf) : OutWf (execGroupLaunch g s) := by
  refine outWf_takeCommand h ?_
  split
  · exact wf_refuse h
  · split
    · exact wf_refuse h
    · unfold launchGroup
      dsimp only
      split
      · exact wf_accept h
      · split
        · exact wf_refuse h
        · exact wf_accept (wf_zeroed (zeroed_joinQueue (s := setGroup _ _ s) _ _) h)

theorem outWf_groupDiscard (g : Byte) (h : s.controlTable.Wf) : OutWf (execGroupDiscard g s) := by
  refine outWf_takeCommand h ?_
  split
  · exact wf_refuse h
  · split
    · exact wf_accept h
    · exact wf_refuse h
    · exact wf_accept h

theorem outWf_force (h : s.controlTable.Wf) : OutWf (execForce s) := by
  refine outWf_takeCommand h ?_
  split
  · next t ht => exact wf_accept (controlTable_takeForce ht ▸ h)
  · exact wf_refuse h

theorem outWf_columns (ch : Byte) (first count : BitVec 16) (h : s.controlTable.Wf) :
    OutWf (execColumns ch first count s) := by
  refine outWf_takeCommand h ?_
  split
  · exact wf_refuse h
  · split
    · exact wf_refuse h
    · exact ⟨h, rfl⟩

/-- PANEL_READ ties to its response a snapshot as long as the table (R117). -/
theorem outWf_panelRead (h : s.controlTable.Wf) : OutWf (execPanelRead s) := by
  obtain ⟨hklen, helen, -⟩ := id h
  have hsnap : tieKept (.panel (panelSnap s.panel)) = true := by
    have hk : s.panel.keys.length = 48 := hklen
    have he : s.panel.encs.length = 12 := helen
    simp [tieKept, panelSnap, hk, he]
  exact outWf_takeCommand h ⟨h, hsnap⟩

theorem outWf_run (h : s.controlTable.Wf) : OutWf (execRun s) := by
  refine outWf_takeCommand h ?_
  exact wf_accept (by rwa [controlTable_takeRun])

theorem outWf_stop (h : s.controlTable.Wf) : OutWf (execStop s) := by
  refine outWf_takeCommand h ?_
  exact wf_accept (wf_zeroed zeroed_takeStop h)

theorem outWf_single (h : s.controlTable.Wf) : OutWf (execSingle s) := by
  refine outWf_takeCommand h ?_
  exact wf_accept (wf_zeroed zeroed_takeSingle h)

theorem outWf_clearStats (h : s.controlTable.Wf) : OutWf (execClearStats s) := by
  refine outWf_takeCommand h ?_
  exact wf_accept (by rwa [controlTable_clearAllStats])

theorem outWf_reset (h : s.controlTable.Wf) : OutWf (execReset s) := by
  refine outWf_takeCommand h ?_
  exact ⟨h, rfl⟩

theorem outWf_groupStatus (h : s.controlTable.Wf) : OutWf (execGroupStatus s) := by
  refine outWf_takeCommand h ?_
  exact wf_accept h

theorem outWf_noticeClear (sources : BitVec 24) (fails : Byte) (h : s.controlTable.Wf) : OutWf (execNoticeClear sources fails s) := by
  refine outWf_takeCommand h ?_
  exact wf_accept h

theorem outWf_save (slot : Byte) (calEn : Bool) (h : s.controlTable.Wf) : OutWf (execSave slot calEn s) := by
  refine outWf_takeCommand h ?_
  split
  · exact wf_refuse h
  · exact wf_accept h

theorem outWf_erase (slot : Byte) (calEn : Bool) (h : s.controlTable.Wf) : OutWf (execErase slot calEn s) := by
  refine outWf_takeCommand h ?_
  split
  · exact wf_refuse h
  · exact wf_accept h

/-! ## Frames -/

theorem outWf_csNFall (h : s.controlTable.Wf) : OutWf (execCsNFall s) := by
  refine outWf_next ?_
  split
  · exact h
  · split
    · exact wf_withTie (tie := .none) h rfl
    · exact h

theorem outWf_commandByte (byte : Byte) (h : s.controlTable.Wf) : OutWf (execCommandByte byte s) := by
  refine outWf_awake h ?_
  split
  · split <;> exact h
  · exact h

theorem outWf_parameterByte (byte : Byte) (h : s.controlTable.Wf) : OutWf (execParameterByte byte s) := by
  refine outWf_awake h ?_
  split
  · split
    · exact h
    · split <;> exact h
  · exact h

theorem outWf_unknownCommand (byte : Byte) (h : s.controlTable.Wf) : OutWf (execUnknownCommand byte s) := by
  refine outWf_awake h ?_
  split
  · exact wf_respond (wf_refuse h)
  · exact h

/-- The elements of two lists combined come from the first. -/
theorem forall_mem_zipWith {α β γ : Type} {g : α → β → γ} {p : γ → Prop} {l : List α} {m : List β}
    (h : ∀ x y, x ∈ l → p (g x y)) : ∀ z ∈ l.zipWith g m, p z := by
  intro z hz
  rw [← List.map_uncurry_zip_eq_zipWith, List.mem_map] at hz
  obtain ⟨⟨x, y⟩, hx, rfl⟩ := hz
  exact h x y (List.of_mem_zip hx).1

/-- A subtraction by a whole snapshot keeps every key and encoder (R117). -/
theorem wf_panelSubtract {snap : PanelSnap} (hc : snap.counts.length = 48) (hp : snap.pending.length = 12)
    (h : s.controlTable.Wf) : (panelSubtract snap s).controlTable.Wf := by
  obtain ⟨hklen, helen, htie, hcounts, hrange⟩ := h
  have hk : s.panel.keys.length = 48 := hklen
  have he : s.panel.encs.length = 12 := helen
  have hkeys : ∀ x ∈ s.panel.keys.zipWith (fun x (n : Nat) => { x with count := x.count - n }) snap.counts,
      x.count ≤ 15 := by
    exact forall_mem_zipWith fun y n hy => (Nat.sub_le _ _).trans (hcounts y hy)
  have hencs : ∀ x ∈ s.panel.encs.zipWith (fun x (d : Int) => { x with pending := limit (-127) 127 (x.pending - d) })
      snap.pending, x.Wf := by
    refine forall_mem_zipWith fun y d hy => ?_
    obtain ⟨-, -, hcarry⟩ := hrange y hy
    exact ⟨(limit_bounds (by decide)).1, (limit_bounds (by decide)).2, hcarry⟩
  have hwf : ControlTable.Wf {
      keys := s.panel.keys.zipWith (fun x (n : Nat) => { x with count := x.count - n }) snap.counts
      encs := s.panel.encs.zipWith (fun x (d : Int) => { x with pending := limit (-127) 127 (x.pending - d) }) snap.pending
      tie := s.link.tie } := ⟨by simp [hk, hc], by simp [he, hp], htie, hkeys, hencs⟩
  unfold panelSubtract
  dsimp only
  split <;> split <;> exact hwf

theorem outWf_responseEnd (h : s.controlTable.Wf) : OutWf (execResponseEnd s) := by
  obtain ⟨-, -, htie, -⟩ := id h
  refine outWf_awake h ?_
  split
  · dsimp only
    split
    · exact wf_withTie (tie := .none) h rfl
    · next snap hsnap =>
      have hsnapKept : tieKept s.link.tie = true := htie
      rw [hsnap] at hsnapKept
      simp only [tieKept, Bool.and_eq_true, beq_iff_eq] at hsnapKept
      exact wf_panelSubtract hsnapKept.1 hsnapKept.2 (wf_withTie (tie := .none) h rfl)
    · exact h
  · exact h

/-- A part in reset has its table at the reset values (R113, R114, R116). -/
theorem wf_inReset (cause : Cause) (flash : Memory) (lamps : List Bool) (cs : Bool) (n : Nat) (q : List Instr) :
    (State.inReset cause flash lamps cs n q).controlTable.Wf := by
  refine ⟨List.length_replicate .., List.length_replicate .., rfl, fun x hx => ?_, fun x hx => ?_⟩
  · rw [List.eq_of_mem_replicate hx]; decide
  · rw [List.eq_of_mem_replicate hx]; exact ⟨by decide, by decide, by decide, by decide⟩

theorem wf_enterReset (cause : Cause) (s : State) : (enterReset cause s).controlTable.Wf := wf_inReset ..

theorem wf_endResponse (h : s.controlTable.Wf) : (endResponse s).controlTable.Wf := by
  unfold endResponse
  split
  · exact wf_withTie (tie := .none) h rfl
  · exact wf_withTie (tie := .none) h rfl
  · exact wf_enterReset _ _
  · exact h

theorem outWf_csNRise (clocked : Bool) (h : s.controlTable.Wf) : OutWf (execCsNRise clocked s) := by
  refine outWf_next ?_
  split
  · exact h
  · split
    · exact (controlTable_raiseIf clocked .frameError).symm ▸ h
    · exact h
    · exact wf_endResponse (s := setParser .idle (setCsLow false s)) h
    · exact wf_endResponse (s := setParser .idle (setCsLow false s)) h
    · exact h

/-! ## The setup unit -/

@[simp] theorem controlTable_endOp (r : SetupResult) : (endOp r s).controlTable = s.controlTable := rfl
@[simp] theorem controlTable_beginRecall (slot : Nat) : (beginRecall slot s).controlTable = s.controlTable := by
  unfold beginRecall; dsimp only; split <;> rfl
@[simp] theorem controlTable_failedAttempt : (failedAttempt s).controlTable = s.controlTable := by
  unfold failedAttempt; split <;> rfl
@[simp] theorem controlTable_entryDone : (entryDone s).controlTable = s.controlTable := by
  unfold entryDone; dsimp only; split <;> rfl
@[simp] theorem controlTable_firstStepMayBegin : (firstStepMayBegin s).controlTable = s.controlTable := by
  rw [firstStepMayBegin_eq]; split <;> rfl
@[simp] theorem controlTable_emptyGroup3 : (emptyGroup3 s).controlTable = s.controlTable := rfl
@[simp] theorem controlTable_startRecord (r : SetupResult) (c : Counts) :
    (startRecord r c s).controlTable = s.controlTable := rfl

@[simp] theorem controlTable_startSetup : (startSetup s).controlTable = s.controlTable := by
  unfold startSetup; split <;> simp

@[simp] theorem controlTable_startCalDone (r : StartResult) : (startCalDone r s).controlTable = s.controlTable := by
  simp [startCalDone]

@[simp] theorem controlTable_startCalibration : (startCalibration s).controlTable = s.controlTable := by
  unfold startCalibration; split <;> simp

@[simp] theorem controlTable_endRecall (r : SetupResult) : (endRecall r s).controlTable = s.controlTable := by
  unfold endRecall
  split
  · split <;> simp
  · simp

@[simp] theorem controlTable_setDirState (slot : Nat) (st : DirState) :
    (setDirState slot st s).controlTable = s.controlTable := rfl

@[simp] theorem controlTable_failHeader : (failHeader s).controlTable = s.controlTable := by
  unfold failHeader
  dsimp only
  rw [controlTable_endRecall]
  split <;> rfl

theorem zeroed_launch3 : s.controlTable.Zeroed (launch3 s).controlTable := by
  unfold launch3
  dsimp only
  split
  · simp
  · split
    · exact zeroed_refl _
    · refine zeroed_trans ?_ (zeroed_joinQueue _ _)
      simp

theorem zeroed_calibrationWrite (es : List (FieldId × Int)) :
    s.controlTable.Zeroed (calibrationWrite es s).controlTable := zeroed_foldl (fun _ _ => zeroed_configWrite _ _) es s

theorem zeroed_endReading : s.controlTable.Zeroed (endReading s).controlTable := by
  unfold endReading
  split
  · rw [controlTable_endRecall]
    exact zeroed_calibrationWrite _
  · exact zeroed_launch3

@[simp] theorem controlTable_takeEntry (f : FieldId) (v : Int) : (takeEntry f v s).controlTable = s.controlTable := by
  unfold takeEntry; dsimp only; split <;> rfl

@[simp] theorem controlTable_modCounts (g : Counts → Counts) : (modCounts g s).controlTable = s.controlTable := rfl

@[simp] theorem controlTable_standingEntry (data : List Byte) : (standingEntry data s).controlTable = s.controlTable := by
  unfold standingEntry
  dsimp only
  split
  · rfl
  · split <;> split <;> simp

@[simp] theorem controlTable_readEntry (flips : Flips) : (readEntry flips s).controlTable = s.controlTable := by
  unfold readEntry; dsimp only; split <;> simp

@[simp] theorem controlTable_stopFlash : (stopFlash s).controlTable = s.controlTable := rfl

@[simp] theorem controlTable_cutTidy : (cutTidy s).controlTable = s.controlTable := by
  unfold cutTidy
  split
  · rfl
  · rfl
  · rfl
  · rfl
  · split <;> rfl
  · split <;> rfl
  · split <;> rfl
  · split <;> rfl
  · rfl

@[simp] theorem controlTable_cutOff (r : SetupResult) : (cutOff r s).controlTable = s.controlTable := by simp [cutOff]

theorem outWf_recall (slot : Byte) (h : s.controlTable.Wf) : OutWf (execRecall slot s) := by
  refine outWf_takeCommand h ?_
  split
  · exact wf_refuse h
  · exact wf_accept (by rwa [controlTable_beginRecall])

theorem outWf_setupStatus (h : s.controlTable.Wf) : OutWf (execSetupStatus s) := by
  refine outWf_takeCommand h ?_
  exact wf_accept (by rwa [controlTable_firstStepMayBegin])

theorem outWf_abort (h : s.controlTable.Wf) : OutWf (execAbort s) := by
  refine outWf_takeCommand h ?_
  split
  · exact wf_refuse h
  · exact wf_accept (by rwa [controlTable_cutOff])

theorem outWf_supplyFall (h : s.controlTable.Wf) : OutWf (execSupplyFall s) := by
  refine outWf_awake h ?_
  split
  · exact h
  · dsimp only
    split
    · exact (controlTable_cutOff _).symm ▸ h
    · exact h

theorem outWf_pumpCheck (ok : Bool) (h : s.controlTable.Wf) : OutWf (execPumpCheck ok s) := by
  refine outWf_awake h ?_
  split
  · split <;> exact h
  · exact h

theorem outWf_voidMark (h : s.controlTable.Wf) : OutWf (execVoidMark s) := by
  refine outWf_awake h ?_
  split <;> exact h

theorem outWf_wipe (h : s.controlTable.Wf) : OutWf (execWipe s) := by
  refine outWf_awake h ?_
  split
  · dsimp only
    split <;> exact h
  · exact h

theorem outWf_entryProgram (stuck : Flips) (h : s.controlTable.Wf) : OutWf (execEntryProgram stuck s) := by
  refine outWf_awake h ?_
  split
  · split
    · exact h
    · dsimp only
      split
      · rw [controlTable_entryDone]; exact h
      · rw [controlTable_failedAttempt]; exact h
  · exact h

theorem outWf_headerProgram (stuck : Flips) (h : s.controlTable.Wf) : OutWf (execHeaderProgram stuck s) := by
  refine outWf_awake h ?_
  split
  · dsimp only
    split
    · exact h
    · rw [controlTable_failedAttempt]; exact h
  · exact h

theorem outWf_seal (h : s.controlTable.Wf) : OutWf (execSeal s) := by
  refine outWf_awake h ?_
  split <;> exact h

theorem outWf_headerReread (flips : Flips) (h : s.controlTable.Wf) : OutWf (execHeaderReread flips s) := by
  refine outWf_awake h ?_
  split
  · dsimp only
    split
    · rwa [controlTable_failHeader]
    · split
      · split
        · exact wf_zeroed zeroed_endReading h
        · exact h
      · rwa [controlTable_failHeader]
  · exact h

theorem outWf_entryRead (flips : Flips) (h : s.controlTable.Wf) : OutWf (execEntryRead flips s) := by
  have hread : (readEntry flips s).controlTable.Wf := (controlTable_readEntry flips).symm ▸ h
  refine outWf_awake h ?_
  split
  · dsimp only
    split
    · exact wf_zeroed zeroed_endReading hread
    · exact hread
  · exact h

theorem outWf_group3LaunchRetry (h : s.controlTable.Wf) : OutWf (execGroup3LaunchRetry s) := by
  refine outWf_awake h ?_
  split
  · exact wf_zeroed zeroed_launch3 h
  · exact h

/-! ## Reset and start-up -/

@[simp] theorem controlTable_startFrontEnd : (startFrontEnd s).controlTable = s.controlTable := by
  have hput (c : Nat) (u : State) : (fePut c (u.path.image.getD c FeSettings.reset) u).controlTable = u.controlTable := rfl
  rw [startFrontEnd, controlTable_settleRequest, controlTable_feStart]
  exact controlTable_forChannels _ hput s

@[simp] theorem controlTable_scan (flips : Flips) : (scan flips s).controlTable = s.controlTable := rfl

@[simp] theorem controlTable_judgeSupply (vsense : Nat) : (judgeSupply vsense s).controlTable = s.controlTable := by
  rw [judgeSupply_eq]; rfl

@[simp] theorem controlTable_release (vsense : Nat) (flips : Flips) :
    (release vsense flips s).controlTable = s.controlTable := by
  unfold release
  dsimp only
  rw [controlTable_startCalibration, controlTable_scan, controlTable_levelRecompute, controlTable_startFrontEnd,
    controlTable_judgeSupply]
  rfl

theorem outWf_resetRelease (vsense : Nat) (flips : Flips) (h : s.controlTable.Wf) :
    OutWf (execResetRelease vsense flips s) := by
  refine outWf_next ?_
  split
  · rwa [controlTable_release]
  · exact h

theorem outWf_startupCompletion (h : s.controlTable.Wf) : OutWf (execStartupCompletion s) := by
  refine outWf_awake h ?_
  split
  · rw [controlTable_takeRun]
    exact h
  · exact h

/-! ## The sample path and the timers -/

theorem zeroed_closePeriod : s.controlTable.Zeroed (closePeriod s).controlTable := by
  have hclose (u : State) (hu : u.controlTable = s.controlTable) :
      s.controlTable.Zeroed (if u.comb.cap.n ≤ u.comb.place then columnComplete u else u).controlTable := by
    rw [← hu]
    split
    · exact zeroed_columnComplete
    · exact zeroed_refl _
  refine hclose _ ?_
  rfl

@[simp] theorem controlTable_lockWord (p : Nat) (framed : Bool) : (lockWord p framed s).1.controlTable = s.controlTable := by
  unfold lockWord
  split
  · split <;> rfl
  · split
    · dsimp only
      split <;> rfl
    · rfl

@[simp] theorem controlTable_compareSample (item : Option Sample) :
    (compareSample item s).controlTable = s.controlTable := by
  unfold compareSample
  split
  · rfl
  · split
    · rfl
    · dsimp only
      split <;> rfl

theorem zeroed_takeItem (p : Nat) (item : Option Sample) : s.controlTable.Zeroed (takeItem p item s).controlTable := by
  have htake (u : State) (hu : u.controlTable = s.controlTable) (b : Bool) :
      s.controlTable.Zeroed (if b = true then closePeriod u else u).controlTable := by
    rw [← hu]
    split
    · exact zeroed_closePeriod
    · exact zeroed_refl _
  unfold takeItem
  refine htake _ ?_ _
  rfl

/-- A sample word may end a sweep, and the sweep end apply changes (R46, R77). -/
theorem zeroed_sampleWord (p : Nat) (framed : Bool) (r : Nat) :
    s.controlTable.Zeroed (sampleWord p framed r s).controlTable := by
  have hopen (b : Bool) : s.controlTable.Zeroed (if b = true then closePeriod s else s).controlTable := by
    split
    · exact zeroed_closePeriod
    · exact zeroed_refl _
  have hcompare (b : Prop) [Decidable b] (item : Option Sample) (u : State) :
      (if b then compareSample item u else u).controlTable = u.controlTable := by split <;> simp
  have hitem (b : Bool) (item : Option Sample) (u : State) :
      u.controlTable.Zeroed (if b = true then takeItem p item u else u).controlTable := by
    split
    · exact zeroed_takeItem _ _
    · exact zeroed_refl _
  refine zeroed_trans ?_ (hitem _ _ _)
  rw [hcompare, controlTable_lockWord]
  exact hopen _

theorem outWf_feFrameLatch (h : s.controlTable.Wf) : OutWf (execFeFrameLatch s) := by
  refine outWf_awake h ?_
  split
  · exact h
  · rw [controlTable_feStart]
    exact h

theorem outWf_settleExpiry (h : s.controlTable.Wf) : OutWf (execSettleExpiry s) := by
  refine outWf_awake h ?_
  split
  · exact h
  · dsimp only
    split
    · rw [controlTable_captureStart]; exact h
    · exact h

theorem outWf_holdoffExpiry (h : s.controlTable.Wf) : OutWf (execHoldoffExpiry s) := by
  refine outWf_awake h ?_
  split
  · exact h
  · dsimp only
    split
    · rw [controlTable_captureStart]; exact h
    · exact h

theorem outWf_autoTimerExpiry (h : s.controlTable.Wf) : OutWf (execAutoTimerExpiry s) := by
  refine outWf_awake h ?_
  split
  · exact h
  · dsimp only
    split <;> exact h

theorem outWf_passCompletion (h : s.controlTable.Wf) : OutWf (execPassCompletion s) := by
  refine outWf_awake h ?_
  split
  · exact h
  · next p _ =>
    have hmembers : (completeMembers p.exclude p.members (s, false)).1.controlTable = s.controlTable :=
      rest_of_unmeasured State.controlTable (unmeasured_completeMembers p.exclude p.members (s, false))
    have hstop : (if (completeMembers p.exclude p.members (s, false)).2 = true then
        takeStop (completeMembers p.exclude p.members (s, false)).1
        else (completeMembers p.exclude p.members (s, false)).1).controlTable.Wf := by
      split
      · exact wf_zeroed zeroed_takeStop (hmembers ▸ h)
      · exact hmembers ▸ h
    unfold passFinish
    dsimp only
    rw [controlTable_raise, controlTable_withMeas,
      controlTable_foldl (fun s ch => releaseLend .measurement ch s) (fun _ _ => rfl)]
    exact hstop

/-! ## The renderer -/

theorem outWf_frameStart (h : s.controlTable.Wf) : OutWf (execFrameStart s) := by
  refine outWf_awake h ?_
  split
  · exact h
  · dsimp only
    split
    · exact h
    · have hlends (u : State) : (frameLends u).controlTable = u.controlTable := by simp [frameLends]
      rw [hlends]
      exact h

theorem outWf_line (y : Fin 600) (h : s.controlTable.Wf) : OutWf (execLine y s) := by
  refine outWf_awake h ?_
  split
  · exact h
  · split <;> exact h

theorem outWf_frameEnd (h : s.controlTable.Wf) : OutWf (execFrameEnd s) := by
  refine outWf_awake h ?_
  split
  · exact h
  · split
    · exact h
    · dsimp only
      rw [controlTable_withRend, controlTable_setVal, controlTable_raiseIf, controlTable_setVal,
        controlTable_forChannels _ fun _ _ => controlTable_releaseLend _ _]
      exact h

/-! ## Every command -/

/-- Every command keeps the control state table in range (R112, R116, R117). -/
theorem outWf_exec (h : s.controlTable.Wf) : ∀ i : Instr, OutWf (exec i s)
  | .nop => outWf_takeCommand h (wf_accept h)
  | .identify => outWf_takeCommand h (wf_accept h)
  | .read handle field option => outWf_read handle field option h
  | .write handle field value => outWf_write handle field value h
  | .writeText handle field text => outWf_writeText handle field text h
  | .create kind objectKind => outWf_create kind objectKind h
  | .retire handle => outWf_retire handle h
  | .groupOpen group => outWf_groupOpen group h
  | .groupLaunch group => outWf_groupLaunch group h
  | .groupDiscard group => outWf_groupDiscard group h
  | .groupStatus => outWf_groupStatus h
  | .run => outWf_run h
  | .stop => outWf_stop h
  | .single => outWf_single h
  | .force => outWf_force h
  | .clearStats => outWf_clearStats h
  | .columns channel first count => outWf_columns channel first count h
  | .panelRead => outWf_panelRead h
  | .noticeRead => outWf_takeCommand h (wf_accept h)
  | .noticeClear sources fails => outWf_noticeClear sources fails h
  | .save slot calEn => outWf_save slot calEn h
  | .erase slot calEn => outWf_erase slot calEn h
  | .recallSetup slot => outWf_recall slot h
  | .abort => outWf_abort h
  | .setupStatus => outWf_setupStatus h
  | .reset => outWf_reset h
  | .unknownCommand byte => outWf_unknownCommand byte h
  | .csNFall => outWf_csNFall h
  | .responseEnd => outWf_responseEnd h
  | .csNRise clocked => outWf_csNRise clocked h
  | .powerOn => outWf_next (wf_enterReset .power s)
  | .resetN => outWf_next (wf_enterReset .pin s)
  | .supplyReset => outWf_next (wf_enterReset .supply s)
  | .resetRelease vsense flips => outWf_resetRelease vsense flips h
  | .startupCompletion => outWf_startupCompletion h
  | .supplyFall => outWf_supplyFall h
  | .supplyRise => outWf_awake h h
  | .sampleWord port framed code => outWf_awake h (wf_zeroed (zeroed_sampleWord ..) h)
  | .feFrameLatch => outWf_feFrameLatch h
  | .settleExpiry => outWf_settleExpiry h
  | .holdoffExpiry => outWf_holdoffExpiry h
  | .autoTimerExpiry => outWf_autoTimerExpiry h
  | .passCompletion => outWf_passCompletion h
  | .keyScan raw => outWf_awake h (wf_foldl (fun _ _ => wf_scanKey) _ h)
  | .encoderSample pairs => outWf_awake h (wf_foldl (fun _ _ => wf_stepEncoder) _ h)
  | .carryRetry => by
    refine outWf_awake h ?_
    split
    · exact wf_foldl (fun _ _ => wf_retryCarry) _ h
    · exact h
  | .lampRefresh => outWf_awake h h
  | .blinkToggle => outWf_awake h h
  | .frameStart => outWf_frameStart h
  | .line y => outWf_line y h
  | .frameEnd => outWf_frameEnd h
  | .pumpCheck ok => outWf_pumpCheck ok h
  | .voidMark => outWf_voidMark h
  | .wipe => outWf_wipe h
  | .entryProgram stuck => outWf_entryProgram stuck h
  | .headerProgram stuck => outWf_headerProgram stuck h
  | .seal => outWf_seal h
  | .headerReread flips => outWf_headerReread flips h
  | .entryRead flips => outWf_entryRead flips h
  | .group3LaunchRetry => outWf_group3LaunchRetry h
  | .commandByte byte => outWf_commandByte byte h
  | .parameterByte byte => outWf_parameterByte byte h

end Sys2Proof.Machine

/-! ## The statement -/

open Sys2Proof Sys2Proof.Machine

/-- Settles O58: a step runs one command, or none, and every command keeps the table in range. -/
theorem stepKeepsPanelTable : Obligations.StepKeepsPanelTable := by
  intro s t hs hstep
  have hwf := panelKept_iff.1 hs
  refine panelKept_iff.2 ?_
  unfold step at hstep
  split at hstep
  · cases hstep
    exact hwf
  · next c rest _ => exact outWf_exec (s := { s with pending := rest }) hwf c t hstep
end

section
/-! SUPPORT. PANEL_READ: its snapshot, and the subtraction at the end of its response (R117, R190). -/

namespace Sys2Proof.Machine

variable {s : State} {snap : PanelSnap}

/-- To clear a source clears its flag and no other (R186). -/
theorem noticed_clearFlag (m n : Source) : (clearFlag n s).noticed m = (s.noticed m && !decide (m = n)) := by
  have hbit : (~~~BitVec.ofNat 19 (2 ^ sourceNo n)).getLsbD (sourceNo m) = !decide (m = n) := by
    rw [BitVec.getLsbD_not, BitVec.getLsbD_ofNat, Nat.testBit_two_pow, decide_eq_true (sourceNo_lt m), Bool.true_and,
      Bool.true_and]
    exact congrArg _ (decide_eq_decide.2 ⟨fun h => (sourceNo_inj h).symm, fun h => congrArg sourceNo h.symm⟩)
  rw [State.noticed, clearFlag_notices, BitVec.getLsbD_and, hbit]
  rfl

theorem exec_panelRead (h : s.takes .panelRead = true) :
    exec .panelRead s = .next (s.answer .ok (panelBytes s.panel) (.panel (panelSnap s.panel))) :=
  (takeCommand_takes h : execPanelRead s = _)

theorem panelBytes_length (p : Panel) : (panelBytes p).length = 31 + 2 * p.encs.length := by
  simp only [panelBytes, List.length_append, List.length_map, List.length_range, List.length_singleton]
  omega

/-- Nothing remains that PANEL_INPUT stands for (R117). -/
def Panel.quiet (p : Panel) : Bool := (p.keys.all fun x => x.count == 0) && p.encs.all fun x => x.pending == 0

/-- The panel after the subtraction: levels, carries and all else stay (R117). -/
def Panel.minus (p : Panel) (snap : PanelSnap) : Panel :=
  { p with
    keys := p.keys.zipWith (fun x (n : Nat) => { x with count := x.count - n }) snap.counts
    encs := p.encs.zipWith (fun x (d : Int) => { x with pending := limit (-127) 127 (x.pending - d) }) snap.pending
    mask := p.mask &&& ~~~ snap.mask }

/-- A subtraction moves the panel and the pending flags alone. -/
theorem panelSubtract_frame (snap : PanelSnap) (s : State) : ∃ flags,
    panelSubtract snap s = { s with panel := s.panel.minus snap, notices := { s.notices with flags := flags } } := by
  unfold panelSubtract
  dsimp only
  split <;> split <;> exact ⟨_, rfl⟩

/-- It clears PANEL_INPUT and PANEL_CHANGED where nothing remains that they stand for (R117). -/
theorem noticed_panelSubtract (m : Source) : (panelSubtract snap s).noticed m =
    (s.noticed m && !(decide (m = .panelInput) && (s.panel.minus snap).quiet)
      && !(decide (m = .panelChanged) && decide ((s.panel.minus snap).mask = 0))) := by
  have hif (b : Bool) (n : Source) (u : State) :
      (if b = true then clearFlag n u else u).noticed m = (u.noticed m && !(decide (m = n) && b)) := by
    cases b
    · simp
    · simp [noticed_clearFlag]
  have hmask := hif (decide ((s.panel.minus snap).mask = 0)) .panelChanged
  simp only [decide_eq_true_eq] at hmask
  refine (hmask _).trans ?_
  exact congrArg (· && _) (hif _ .panelInput _)

theorem quiet_iff {p : Panel} :
    p.quiet = true ↔ (∀ x, x ∈ p.keys → x.count = 0) ∧ ∀ x, x ∈ p.encs → x.pending = 0 := by
  simp [Panel.quiet]

theorem keys_minus {p : Panel} {k n : Nat} {x : Key} (hx : p.keys[k]? = some x) (hn : snap.counts[k]? = some n) :
    (p.minus snap).keys[k]? = some { x with count := x.count - n } := by
  simp [Panel.minus, List.getElem?_zipWith, hx, hn]

theorem encs_minus {p : Panel} {e : Nat} {x : Enc} {d : Int} (hx : p.encs[e]? = some x) (hd : snap.pending[e]? = some d) :
    (p.minus snap).encs[e]? = some { x with pending := limit (-127) 127 (x.pending - d) } := by
  simp [Panel.minus, List.getElem?_zipWith, hx, hd]

/-- The end of PANEL_READ's response makes the subtraction (R117, R179). -/
theorem exec_responseEnd_panel (hh : s.held = false) (hp : s.link.parser = .response) (ht : s.link.tie = .panel snap) :
    exec .responseEnd s =
      .next (panelSubtract snap { s with link := { s.link with parser := .spent, tie := .none } }) := by
  refine (awake_running hh).trans ?_
  rw [if_pos hp]
  dsimp only
  rw [ht]
  rfl

end Sys2Proof.Machine

/-! ## The statement -/

open Sys2Proof Sys2Proof.Machine

/-- Settles O30: the response's end subtracts element by element, and each notice is cleared by what then remains. -/
theorem panelReadSubtractsAtEnd : Obligations.PanelReadSubtractsAtEnd := by
  refine ⟨fun s h => ⟨exec_panelRead h, panelBytes_length _⟩, fun s snap hh hp ht => ?_⟩
  obtain ⟨flags, hframe⟩ :=
    panelSubtract_frame snap { s with link := { s.link with parser := .spent, tie := .none } }
  have hnoticed (m : Source) :=
    noticed_panelSubtract (snap := snap) (s := { s with link := { s.link with parser := .spent, tie := .none } }) m
  refine ⟨_, exec_responseEnd_panel hh hp ht, ?_⟩
  have hpanel := congrArg State.panel hframe
  dsimp only at hpanel
  rw [hpanel]
  refine ⟨by rw [hframe], rfl, fun k x n => keys_minus, fun e x d => encs_minus, fun hkeys hencs => ?_, fun hleft => ?_,
    fun hmask => ?_, fun hmask => ?_, fun n hinput hchanged => ?_, ?_⟩
  · rw [hnoticed, quiet_iff.2 ⟨hkeys, hencs⟩]
    simp
  · have hquiet : (s.panel.minus snap).quiet = false := by
      rw [Bool.eq_false_iff, ne_eq, quiet_iff]
      rintro ⟨hkeys, hencs⟩
      obtain ⟨x, hx, hne⟩ | ⟨x, hx, hne⟩ := hleft
      · exact hne (hkeys x hx)
      · exact hne (hencs x hx)
    rw [hnoticed, hquiet]
    simp [State.noticed]
  · rw [hnoticed, decide_eq_true hmask]
    simp
  · rw [hnoticed, decide_eq_false hmask]
    simp [State.noticed]
  · rw [hnoticed, decide_eq_false hinput, decide_eq_false hchanged]
    simp [State.noticed]
  · rw [hframe]
    exact ⟨rfl, rfl, rfl, rfl, rfl, rfl, rfl, rfl, rfl, rfl, rfl⟩
end

section
/-! SUPPORT. Carry retries (R123), the lamps (R129, R130) and the blink clock (R129). -/

namespace Sys2Proof.Machine

variable {s t u : State} {e : Nat} {x : Enc}

/-! ## Carry retries -/

theorem setCarry_encoder (e : Nat) (n : Int) : setCarry (48 + e) n s = modEnc e (fun x => { x with carry := n }) s := by
  rw [setCarry, if_pos (Nat.le_add_right ..), Nat.add_sub_cancel_left]

/-- The state whose debt of a retry is taken (log 18). -/
def State.retried (s : State) : State := { s with panel := { s.panel with retryDue := false } }

theorem exec_carryRetry_due (hh : s.held = false) (hr : s.panel.retryDue = true) :
    exec .carryRetry s = .next ((List.range 12).foldl (fun s e => retryCarry e s) s.retried) :=
  (awake_running hh).trans (congrArg _ (if_pos hr))

theorem exec_carryRetry_idle (hh : s.held = false) (hr : s.panel.retryDue = false) : exec .carryRetry s = .next s :=
  (awake_running hh).trans (congrArg _ (if_neg (by rw [hr]; decide)))

theorem carry_getD (h : ∀ x, s.panel.encs[e]? = some x → x.carry = 0) : (s.panel.encs.getD e Enc.reset).carry = 0 := by
  rw [List.getD_eq_getElem?_getD]
  cases he : s.panel.encs[e]? with
  | none => rfl
  | some x => exact h x he

/-- An encoder that holds no carry has nothing to retry (R123). -/
theorem retryCarry_none (h : ∀ x, s.panel.encs[e]? = some x → x.carry = 0) : retryCarry e s = s := if_pos (carry_getD h)

theorem retryCarry_adjust (he : s.panel.encs[e]? = some x) (hx : x.carry ≠ 0) (hk : s.actingKind (48 + e) = kindAdjust) :
    retryCarry e s = adjust e 0 s := by
  rw [retryCarry, getD_of_getElem? he, if_neg hx, if_pos hk]

/-- A retry under another kind leaves no carry, whether one was held or not (R123). -/
theorem retryCarry_other (hk : s.actingKind (48 + e) ≠ kindAdjust) : retryCarry e s = modEnc e Enc.uncarried s := by
  unfold retryCarry
  split
  · next h0 =>
    refine (modEnc_fixed fun x hx => ?_).symm
    rw [getD_of_getElem? hx] at h0
    rw [Enc.uncarried, ← h0]
  · rw [setCarry_encoder]
    rfl

theorem foldl_retryCarry_none (h : ∀ x, x ∈ s.panel.encs → x.carry = 0) (l : List Nat) :
    l.foldl (fun s e => retryCarry e s) s = s := by
  induction l with
  | nil => rfl
  | cons e l ih =>
    rw [List.foldl_cons, retryCarry_none fun x hx => h x (List.mem_iff_getElem?.2 ⟨e, hx⟩), ih]

/-- Every element updated in its turn, as far as the turns go. -/
theorem getElem?_foldl_modify {α : Type} (g : Nat → α → α) (n : Nat) (l : List α) (i : Nat) :
    ((List.range n).foldl (fun l e => l.modify e (g e)) l)[i]? = l[i]?.map fun x => if i < n then g i x else x := by
  induction n with
  | zero => simp
  | succ n ih =>
    rw [List.range_succ, List.foldl_append, List.foldl_cons, List.foldl_nil, List.getElem?_modify, ih]
    obtain hlt | rfl | hgt := lt_trichotomy i n
    · simp [hlt, hlt.ne', Nat.lt_succ_of_lt hlt]
    · simp
    · simp [hgt.ne, hgt.not_gt, show ¬ i < n + 1 by omega]

theorem foldl_modify_length {α : Type} (g : Nat → α → α) (is : List Nat) (l : List α) :
    (is.foldl (fun l e => l.modify e (g e)) l).length = l.length := by
  induction is generalizing l with
  | nil => rfl
  | cons i is ih => exact (ih _).trans (List.length_modify ..)

theorem foldl_range_modify {α : Type} (g : α → α) (l : List α) :
    (List.range l.length).foldl (fun l e => l.modify e g) l = l.map g := by
  apply List.ext_getElem?
  intro i
  rw [getElem?_foldl_modify, List.getElem?_map]
  cases hi : l[i]? with
  | none => rfl
  | some x => simp [(List.getElem?_eq_some_iff.1 hi).1]

theorem foldl_modEnc (g : Nat → Enc → Enc) (l : List Nat) (s : State) : l.foldl (fun s e => modEnc e (g e) s) s =
    { s with panel := { s.panel with encs := l.foldl (fun es e => es.modify e (g e)) s.panel.encs } } := by
  induction l generalizing s with
  | nil => rfl
  | cons e l ih => exact ih (modEnc e (g e) s)

/-- With no ADJUST acting, the retries clear every carry (R123). -/
theorem foldl_retryCarry_other (hk : ∀ e, e < 12 → s.actingKind (48 + e) ≠ kindAdjust) (hlen : s.panel.encs.length = 12) :
    (List.range 12).foldl (fun s e => retryCarry e s) s =
      { s with panel := { s.panel with encs := s.panel.encs.map Enc.uncarried } } := by
  have hturns (l : List Nat) (hl : ∀ e ∈ l, e < 12) (u : State) (hu : ∀ e, e < 12 → u.actingKind (48 + e) ≠ kindAdjust) :
      l.foldl (fun s e => retryCarry e s) u = l.foldl (fun s e => modEnc e Enc.uncarried s) u := by
    induction l generalizing u with
    | nil => rfl
    | cons e l ih =>
      rw [List.foldl_cons, List.foldl_cons, retryCarry_other (hu e (hl e List.mem_cons_self))]
      exact ih (fun i hi => hl i (List.mem_cons_of_mem _ hi)) _ hu
  rw [hturns _ (fun e => List.mem_range.1) s hk, foldl_modEnc fun _ => Enc.uncarried, ← hlen, foldl_range_modify]

/-- Every encoder but one holds no carry. -/
def State.carriesAlone (s : State) (e : Nat) : Prop := ∀ (j : Nat) (y : Enc), j ≠ e → s.panel.encs[j]? = some y → y.carry = 0

theorem carriesAlone_zeroed (hz : s.controlTable.Zeroed t.controlTable) (h : s.carriesAlone e) : t.carriesAlone e := by
  intro j y hj hy
  obtain ⟨-, -, hencs⟩ := hz
  obtain hz | hz := hencs j <;> rw [show t.controlTable.encs[j]? = some y from hy] at hz
  · exact h j y hj hz.symm
  · obtain ⟨x, -, rfl⟩ := Option.map_eq_some_iff.1 hz.symm
    rfl

theorem carriesAlone_setCarry (n : Int) (h : s.carriesAlone e) : (setCarry (48 + e) n s).carriesAlone e := by
  intro j y hj hy
  rw [setCarry_encoder, encs_modEnc] at hy
  simp only [if_neg hj.symm, Option.map_id'] at hy
  exact h j y hj hy

theorem carriesAlone_retryCarry (h : s.carriesAlone e) : (retryCarry e s).carriesAlone e := by
  obtain hr | ⟨n, -, -, hr⟩ := retryCarry_cases e s
  · exact carriesAlone_zeroed hr.2 h
  · rw [hr]
    exact carriesAlone_setCarry n h

/-- The only encoder that holds a carry is the only one that retries (log 14). -/
theorem foldl_retryCarry_alone (he : e < 12) (h : s.carriesAlone e) :
    (List.range 12).foldl (fun s e => retryCarry e s) s = retryCarry e s :=
  foldl_range_only (fun u => u.carriesAlone e) he (fun _ _ hu _ hj => retryCarry_none fun x hx => hu _ x hj hx) h
    (carriesAlone_retryCarry h)

/-! ## Lamps -/

/-- A source is pending by its flag, MEAS_LIMIT by the FAIL flags (R186). -/
theorem getLsbD_pendingSources (n : Notices) {i : Nat} (hi : i < 19) :
    (pendingSources n).getLsbD i = if i = 5 then decide (n.fails ≠ 0) else n.flags.getLsbD i := by
  have hbit : (32 : BitVec 19).getLsbD i = decide (i = 5) := by
    interval_cases i <;> rfl
  have hfails : (if n.fails = 0 then 0 else 32 : BitVec 19).getLsbD i = (decide (n.fails ≠ 0) && decide (i = 5)) := by
    split
    · next h => simp [h]
    · next h => rw [hbit, decide_eq_true h, Bool.true_and]
  rw [pendingSources, BitVec.getLsbD_or, BitVec.getLsbD_and, BitVec.getLsbD_not, hfails, hbit, decide_eq_true hi]
  by_cases h5 : i = 5 <;> simp [h5]

/-- The field that a lamp shows (R129). -/
theorem lampField_eq_some {i : Nat} {v : Int} : s.lampField i = some v
    ↔ ∃ f sp, s.namesField (s.get (Fld.laField i)) = some (f, sp) ∧ s.get f = v := by
  simp [State.lampField]

theorem lampField_nonzero {i : Nat} : ((s.lampField i).map (· != 0)).getD false = true
    ↔ ∃ f sp, s.namesField (s.get (Fld.laField i)) = some (f, sp) ∧ s.get f ≠ 0 := by
  unfold State.lampField
  cases s.namesField (s.get (Fld.laField i)) <;> simp [Prod.ext_iff]

/-- A lamp's condition source by source (R129). -/
theorem lampCondition_source {i : Nat} {src v : Int} (hsrc : src = s.get (Fld.laSource i)) (hv : v = s.get (Fld.laValue i)) :
    (src = 0 → s.lampCondition i = false) ∧ (src = 1 → s.lampCondition i = true)
    ∧ (src = 2 → s.lampCondition i = (s.lampField i == some v))
    ∧ (src = 3 → s.lampCondition i = ((s.lampField i).map (· != 0)).getD false)
    ∧ (src = 4 → s.lampCondition i = (s.sweep.acq != .stopped))
    ∧ (src = 5 → s.lampCondition i = (s.sweep.acq == .arming || s.sweep.acq == .waiting))
    ∧ (src = 6 → s.lampCondition i = (s.get Fld.trLastKind == 1))
    ∧ (src = 7 → s.lampCondition i =
        (decide (0 ≤ v ∧ v ≤ 18) && (pendingSources s.notices).getLsbD v.toNat)) := by
  simp only [State.lampCondition, ← hsrc, ← hv]
  refine ⟨?_, ?_, ?_, ?_, ?_, ?_, ?_, ?_⟩
  case refine_4 =>
    rintro rfl
    cases s.lampField i <;> rfl
  all_goals
    rintro rfl
    rfl

/-- A notice lamp shows whether its source is pending (R129, R186). -/
theorem noticeLamp_iff {v : Int} : (decide (0 ≤ v ∧ v ≤ 18) && (pendingSources s.notices).getLsbD v.toNat) = true
    ↔ 0 ≤ v ∧ v ≤ 18 ∧ if v = 5 then s.notices.fails ≠ 0 else s.notices.flags.getLsbD v.toNat = true := by
  rw [Bool.and_eq_true, decide_eq_true_eq, and_assoc]
  refine and_congr_right fun hlo => and_congr_right fun hhi => ?_
  have h5 : v.toNat = 5 ↔ v = 5 := by omega
  rw [getLsbD_pendingSources _ (by omega)]
  simp only [h5]
  split
  · rw [decide_eq_true_eq]
  · rfl

theorem exec_lampRefresh (hh : s.held = false) : exec .lampRefresh s =
    .next { s with panel := { s.panel with lamps := (List.range 32).map s.lampLit } } := awake_running hh

theorem exec_blinkToggle (hh : s.held = false) : exec .blinkToggle s =
    .next { s with panel := { s.panel with blinkOn := !s.panel.blinkOn } } := awake_running hh

/-- A lamp is lit where its condition holds and it does not blink, or the blink clock is on (R129). -/
theorem lampLit_eq (i : Nat) :
    s.lampLit i = (s.lampCondition i && (decide (s.get (Fld.laBlink i) = 0) || s.panel.blinkOn)) := by
  simp [State.lampLit, isOn]

end Sys2Proof.Machine

/-! ## The statement -/

open Sys2Proof Sys2Proof.Machine

/-- Settles O44: a retry is each encoder's turn at its carry, a lamp its source's condition under the blink clock. -/
theorem panelPeriodicEvents : Obligations.PanelPeriodicEvents := by
  refine ⟨fun s => exec_carryRetry_idle, fun s hh hr hcarry => ?_, fun s hh hr hkind hkept => ?_, ?_,
    fun s => exec_carryRetry_due, fun s hh => ⟨_, exec_lampRefresh hh, by simp, fun i hi => ?_⟩, fun s i src v hsrc hv => ?_,
    fun s => exec_blinkToggle⟩
  · rw [exec_carryRetry_due hh hr, foldl_retryCarry_none (s := s.retried) hcarry]
    rfl
  · obtain ⟨-, hlen, -⟩ := panelKept_iff.1 hkept
    rw [exec_carryRetry_due hh hr, foldl_retryCarry_other (s := s.retried) hkind hlen]
    rfl
  · rintro s u e x hh hr he hx hne hothers hkind rfl
    refine ⟨?_, fun f sp lo hi n v hname hty hn hv => ?_⟩
    · rw [exec_carryRetry_due hh hr, foldl_retryCarry_alone (s := s.retried) he hothers,
        retryCarry_adjust (s := s.retried) hx hne hkind]
      rfl
    · refine adjust_numeric (s := s.retried) hname hty ?_ hv
      rw [hn, State.carried, getD_of_getElem? (l := s.retried.panel.encs) hx, Int.add_zero]
  · rw [List.getElem?_map, List.getElem?_range hi, Option.map_some, lampLit_eq]
  · obtain ⟨hoff, hon, hequals, hnonzero, hrunning, harmed, htriggered, hnotice⟩ := lampCondition_source hsrc hv
    refine ⟨hoff, hon, fun h => ?_, fun h => ?_, fun h => ?_, fun h => ?_, fun h => ?_, fun h => ?_⟩
    · rw [hequals h, beq_iff_eq, lampField_eq_some]
    · rw [hnonzero h, lampField_nonzero]
    · rw [hrunning h, bne_iff_ne]
    · rw [harmed h, Bool.or_eq_true, beq_iff_eq, beq_iff_eq]
    · rw [htriggered h, beq_iff_eq]
    · rw [hnotice h, noticeLamp_iff]
end

section
/-! SUPPORT. Bindings (R118 to R124): the kind a control acts as, what a TOGGLE or CYCLE submits, and what no turn of a
control reaches. -/

namespace Sys2Proof.Machine

variable {s t u : State} {f : FieldId} {sp : FieldSpec} {c e j k : Nat} {x : Enc}

/-! ## The kind a control acts as (R120, R127) -/

theorem actingKind_none (h : s.get (Fld.biKind c) = 0) : s.actingKind c = 0 := if_pos h

theorem isOn_iff (v : Int) : isOn v = true ↔ v ≠ 0 := by simp [isOn]

/-- During the start-up load, under the lock and under NOTIFY a control is NOTIFY (R120, R121, R127). -/
theorem actingKind_notify (h0 : s.get (Fld.biKind c) ≠ 0) (h : s.setup.starting = true ∨ s.get (Fld.biKind c) = 1
    ∨ (s.get Fld.paLock ≠ 0 ∧ s.get (Fld.biLockExempt c) = 0)) : s.actingKind c = 1 := by
  unfold State.actingKind
  dsimp only
  rw [if_neg h0]
  obtain hstart | hkind | ⟨hlock, hexempt⟩ := h
  · rw [if_pos hstart]
  · rw [hkind, ite_self, ite_self]
  · have hlocked : (isOn (s.get Fld.paLock) && !isOn (s.get (Fld.biLockExempt c))) = true := by
      rw [hexempt, (isOn_iff _).2 hlock]; rfl
    rw [if_pos hlocked, ite_self]

/-- Otherwise it acts as the kind it is bound to (R120). -/
theorem actingKind_acts (hs : s.setup.starting = false) (hl : s.get Fld.paLock = 0 ∨ s.get (Fld.biLockExempt c) ≠ 0) :
    s.actingKind c = s.get (Fld.biKind c) := by
  have hfree : ¬ (isOn (s.get Fld.paLock) && !isOn (s.get (Fld.biLockExempt c))) = true := by
    obtain hlock | hexempt := hl
    · rw [hlock]; exact Bool.false_ne_true
    · rw [(isOn_iff _).2 hexempt, Bool.not_true, Bool.and_false]; exact Bool.false_ne_true
  unfold State.actingKind
  dsimp only
  rw [hs, if_neg hfree, if_neg Bool.false_ne_true]
  split
  · next h0 => exact h0.symm
  · rfl

/-! ## TOGGLE and CYCLE (R124) -/

theorem stepTarget_eq (hname : s.namesField (s.get (Fld.biTarget c)) = some (f, sp)) (toggle : Bool) (d : Int) :
    stepTarget c toggle d s = (submit f sp (steppedValue toggle sp.ty d (s.eff f)) s).map (markChanged f) := by
  rw [stepTarget, hname]

theorem steppedValue_toggle (ty : FType) (d v : Int) : steppedValue true ty d v = if v = 0 then 1 else 0 := by
  unfold steppedValue isOn ofBool
  split <;> simp_all

theorem steppedValue_cycle {ty : FType} {m : Nat} (h : ty = .enum m ∨ (ty = .onOff ∧ m = 2)) (d v : Int) :
    steppedValue false ty d v = (v + d) % m := by
  obtain rfl | ⟨rfl, rfl⟩ := h <;> rfl

/-! ## What no turn reaches -/

/-- What changes never reach, but for the controls and the changed mask: no turn of a control reaches it. -/
def State.offTable (s : State) : Shell := { s.shell with keys := [], mask := 0, encs := [] }

/-- What a control's turn leaves of an encoder. -/
def State.coreAt (s : State) (e : Nat) : Option EncCore := s.panel.encs[e]?.map Enc.core

theorem coreAt_of_shell (h : t.shell.encs = s.shell.encs) (e : Nat) : t.coreAt e = s.coreAt e := by
  have hmap : (t.panel.encs.map Enc.core)[e]? = (s.panel.encs.map Enc.core)[e]? := congrArg (·[e]?) h
  rwa [List.getElem?_map, List.getElem?_map] at hmap

theorem offTable_adjusts (h : s.Adjusts t) : t.offTable = s.offTable := by rw [State.offTable, h.1]; rfl

theorem of_offTable (h : t.offTable = s.offTable) : t.setup = s.setup ∧ t.link = s.link ∧ t.rend = s.rend
    ∧ t.held = s.held ∧ t.cause = s.cause ∧ t.pending = s.pending ∧ t.panel.lamps = s.panel.lamps
    ∧ t.panel.blinkOn = s.panel.blinkOn :=
  ⟨(congrArg Shell.setup h :), (congrArg Shell.link h :), (congrArg Shell.rend h :), (congrArg Shell.held h :),
    (congrArg Shell.cause h :), (congrArg Shell.waiting h :), (congrArg Shell.lamps h :), (congrArg Shell.blinkOn h :)⟩

theorem keys_adjusts (h : s.Adjusts t) : t.panel.keys = s.panel.keys := (congrArg Shell.keys h.1 :)
theorem cores_adjusts (h : s.Adjusts t) : t.shell.encs = s.shell.encs := (congrArg Shell.encs h.1 :)

theorem coreAt_setCarry (n : Int) (j : Nat) : (setCarry c n s).coreAt j = s.coreAt j :=
  coreAt_of_shell (congrArg Shell.encs (shell_setCarry c n)) j

theorem coreAt_modEnc_other (g : Enc → Enc) (h : j ≠ e) : (modEnc e g s).coreAt j = s.coreAt j := by
  unfold State.coreAt
  rw [encs_modEnc]
  simp [h.symm]

theorem coreAt_eq_some {y : EncCore} : s.coreAt e = some y ↔ ∃ x, s.panel.encs[e]? = some x ∧ x.core = y :=
  Option.map_eq_some_iff

theorem encs_modEnc_same (g : Enc → Enc) (h : s.panel.encs[e]? = some x) : (modEnc e g s).panel.encs[e]? = some (g x) := by
  rw [encs_modEnc, h, Option.map_some, if_pos rfl]

theorem modEnc_modEnc (g h : Enc → Enc) : modEnc e g (modEnc e h s) = modEnc e (fun x => g (h x)) s :=
  congrArg (fun es => ({ s with panel := { s.panel with encs := es } } : State)) (List.modify_modify_eq ..)

theorem modKey_modKey (g h : Key → Key) : modKey k g (modKey k h s) = modKey k (fun x => g (h x)) s :=
  congrArg (fun ks => ({ s with panel := { s.panel with keys := ks } } : State)) (List.modify_modify_eq ..)

end Sys2Proof.Machine
end

section
/-! SUPPORT. Encoder samples (R114) and detents (R115, R120 to R125). -/

namespace Sys2Proof.Machine

variable {s t u : State} {f : FieldId} {sp : FieldSpec} {e j : Nat} {x : Enc} {pair : Bool × Bool} {n : Option Nat}
  {sg k p : Int}

/-! ## Samples (R114) -/

/-- The interval since the last detent after one more sample (R115, log 15). -/
def Enc.aged (x : Enc) : Option Nat := x.since.map fun n => Nat.min 200 (n + 1)

theorem sampleEncoder_first (h : x.last = none) :
    sampleEncoder pair x = ({ x with last := some pair, since := x.aged }, 0) := by
  rw [sampleEncoder, h]; rfl

theorem sampleEncoder_same (h : x.last = some pair) : sampleEncoder pair x = ({ x with since := x.aged }, 0) := by
  rw [sampleEncoder, h]
  exact if_pos rfl

theorem sampleEncoder_moved {old : Bool × Bool} (h : x.last = some old) (hne : old ≠ pair) (hp : pair ≠ (true, true)) :
    sampleEncoder pair x = ({ x with last := some pair, phase := phaseAfter x.phase old pair, since := x.aged }, 0) := by
  rw [sampleEncoder, h]
  exact (if_neg hne.symm).trans (if_neg hp)

theorem sampleEncoder_rest {old : Bool × Bool} (h : x.last = some old) (hne : old ≠ (true, true))
    (hp : p = phaseAfter x.phase old (true, true)) : sampleEncoder (true, true) x =
      ({ x with last := some (true, true), phase := 0, since := x.aged }, if p = 4 then 1 else if p = -4 then -1 else 0) := by
  subst hp
  rw [sampleEncoder, h]
  exact (if_neg hne.symm).trans (if_pos rfl)

/-- A sample moves last and phase as R114 says, whatever detent it makes. -/
theorem sampleEncoder_core (pair : Bool × Bool) (x : Enc) : (sampleEncoder pair x).1.last = some pair
    ∧ (x.last = none ∨ x.last = some pair → (sampleEncoder pair x).1.phase = x.phase ∧ (sampleEncoder pair x).2 = 0)
    ∧ ∀ old, x.last = some old → old ≠ pair → (sampleEncoder pair x).1.phase =
        if pair = (true, true) then 0 else phaseAfter x.phase old pair := by
  cases hlast : x.last with
  | none =>
    rw [sampleEncoder_first hlast]
    exact ⟨rfl, fun _ => ⟨rfl, rfl⟩, nofun⟩
  | some old =>
    by_cases hsame : old = pair
    · subst hsame
      rw [sampleEncoder_same hlast]
      exact ⟨hlast, fun _ => ⟨rfl, rfl⟩, fun _ h hne => absurd (Option.some.inj h).symm hne⟩
    · have hmoved : some old = none ∨ some old = some pair → False := by
        rintro (h | h)
        · cases h
        · exact hsame (Option.some.inj h)
      by_cases hrest : pair = (true, true)
      · subst hrest
        rw [sampleEncoder_rest hlast hsame rfl]
        exact ⟨rfl, fun h => (hmoved h).elim, fun _ _ _ => (if_pos rfl).symm⟩
      · rw [sampleEncoder_moved hlast hsame hrest]
        refine ⟨rfl, fun h => (hmoved h).elim, fun o ho _ => ?_⟩
        rw [if_neg hrest, Option.some.inj ho]

/-- One encoder's turn at a sample: its update, then the detent it makes, if any (R114). -/
theorem stepEncoder_eq (hx : s.panel.encs[e]? = some x) : stepEncoder pair e s =
    if (sampleEncoder pair x).2 = 0 then modEnc e (fun _ => (sampleEncoder pair x).1) s
    else detent e (sampleEncoder pair x).2 (modEnc e (fun _ => (sampleEncoder pair x).1) s) := by
  rw [stepEncoder, getD_of_getElem? hx]

/-- A turn that makes no detent. -/
theorem stepEncoder_quiet {y : Enc} {g : Enc → Enc} (hx : s.panel.encs[e]? = some x)
    (hy : sampleEncoder pair x = (y, 0)) (hg : g x = y) : stepEncoder pair e s = modEnc e g s := by
  rw [stepEncoder_eq hx, hy, if_pos rfl]
  exact modEnc_congr fun z hz => by rw [← Option.some.inj (hx.symm.trans hz), hg]

/-- The three kinds of turn (R114). -/
theorem stepEncoder_cases (hx : s.panel.encs[e]? = some x) (hn : n = x.aged) :
    (x.last = none → stepEncoder pair e s = modEnc e (fun x => { x with last := some pair, since := n }) s)
    ∧ (x.last = some pair → stepEncoder pair e s = modEnc e (fun x => { x with since := n }) s)
    ∧ (∀ old p, x.last = some old → old ≠ pair → p = phaseAfter x.phase old pair →
      (pair ≠ (true, true) →
        stepEncoder pair e s = modEnc e (fun x => { x with last := some pair, phase := p, since := n }) s)
      ∧ (pair = (true, true) → p ≠ 4 → p ≠ -4 →
        stepEncoder pair e s = modEnc e (fun x => { x with last := some pair, phase := 0, since := n }) s)
      ∧ (pair = (true, true) → p = 4 ∨ p = -4 → stepEncoder pair e s =
        detent e (if p = 4 then 1 else -1) (modEnc e (fun x => { x with last := some pair, phase := 0, since := n }) s))) := by
  subst hn
  refine ⟨fun h => stepEncoder_quiet hx (sampleEncoder_first h) rfl,
    fun h => stepEncoder_quiet hx (sampleEncoder_same h) rfl, fun old p h hne hp => ⟨fun hrest => ?_, ?_, ?_⟩⟩
  · subst hp
    exact stepEncoder_quiet hx (sampleEncoder_moved h hne hrest) rfl
  · rintro rfl h4 h4'
    exact stepEncoder_quiet hx ((sampleEncoder_rest h hne hp).trans (by rw [if_neg h4, if_neg h4'])) rfl
  · rintro rfl h4
    have hsign : (if p = 4 then 1 else if p = -4 then -1 else 0 : Int) = if p = 4 then 1 else -1 := by
      obtain rfl | rfl := h4 <;> rfl
    have hne0 : (if p = 4 then 1 else -1 : Int) ≠ 0 := by split <;> decide
    rw [stepEncoder_eq hx, sampleEncoder_rest h hne hp, hsign]
    dsimp only
    rw [if_neg hne0]
    exact congrArg (detent e _) (modEnc_congr fun z hz => by rw [← Option.some.inj (hx.symm.trans hz)])

/-! ## Detents (R115, R120 to R124) -/

/-- The multiplier of the interval under ACCEL (R115). -/
theorem multiplier_eq {accel : Int} (h1 : accel = 0 ∨ x.since = none ∨ (∃ n, x.since = some n ∧ 200 ≤ n) → k = 1)
    (h2 : ∀ n, accel ≠ 0 → x.since = some n → (n < 80 → k = 5) ∧ (80 ≤ n → n < 200 → k = 2)) :
    k = multiplier (isOn accel) x.since := by
  unfold multiplier
  split
  · next hon =>
    rw [isOn_iff] at hon
    split
    · next hsince => exact h1 (.inr (.inl hsince))
    · next n hsince =>
      obtain ⟨hfast, hslow⟩ := h2 n hon hsince
      split
      · exact hfast ‹_›
      · split
        · exact hslow (by omega) ‹_›
        · exact h1 (.inr (.inr ⟨n, hsince, by omega⟩))
  · next hoff =>
    rw [isOn_iff, not_not] at hoff
    exact h1 (.inl hoff)

/-- A detent handed to its binding by the kind the encoder acts as (R120). -/
theorem detent_eq (hx : s.panel.encs[e]? = some x) (hk : k = multiplier (isOn (s.get (Fld.biAccel (48 + e)))) x.since)
    (hu : u = modEnc e (fun x => { x with since := some 0 }) s) : detent e sg s =
      if s.actingKind (48 + e) = 1 then notifyDetent e (sg * k) u
      else if s.actingKind (48 + e) = kindAdjust then adjust e (sg * k) u
      else if s.actingKind (48 + e) = kindToggle then (stepTarget (48 + e) true sg u).getD (notifyDetent e (sg * k) u)
      else if s.actingKind (48 + e) = kindCycle then (stepTarget (48 + e) false sg u).getD (notifyDetent e (sg * k) u)
      else u := by
  subst hk hu
  rw [detent, getD_of_getElem? hx]
  rfl

/-- An ADJUST is by the carry and the multiplied steps (R122, R123). -/
theorem detent_adjusts {lo hi n v : Int} (hx : s.panel.encs[e]? = some x)
    (hk : k = multiplier (isOn (s.get (Fld.biAccel (48 + e)))) x.since)
    (hu : u = modEnc e (fun x => { x with since := some 0 }) s) (hkind : s.actingKind (48 + e) = kindAdjust)
    (hname : s.namesField (s.get (Fld.biTarget (48 + e))) = some (f, sp)) (hty : sp.ty = .numeric lo hi)
    (hn : n = limit (-127) 127 (x.carry + sg * k)) (hv : v = s.adjusted (48 + e) f lo hi n) :
    (v = s.eff f → detent e sg s = setCarry (48 + e) 0 u)
    ∧ (∀ t, v ≠ s.eff f → submit f sp v u = some t → detent e sg s = markChanged f (setCarry (48 + e) 0 t))
    ∧ (v ≠ s.eff f → submit f sp v u = none → detent e sg s = setCarry (48 + e) n u) := by
  have hadjust : detent e sg s = adjust e (sg * k) u := by rw [detent_eq hx hk hu, hkind]; rfl
  have hux : u.panel.encs[e]? = some { x with since := some 0 } := by rw [hu]; exact encs_modEnc_same _ hx
  have hcarried : n = u.carried e (sg * k) := by rw [hn, State.carried, getD_of_getElem? hux]
  have hadjusted : v = u.adjusted (48 + e) f lo hi n := by rw [hv, hu, adjusted_modEnc]
  have hnamed : u.namesField (u.get (Fld.biTarget (48 + e))) = some (f, sp) := by
    rw [hu, namesField_modEnc, get_modEnc, hname]
  have heff : u.eff f = s.eff f := by rw [hu, eff_modEnc]
  rw [hadjust, ← heff]
  exact adjust_numeric hnamed hty hcarried hadjusted

/-- A TOGGLE or CYCLE submits its value; a refused one counts as NOTIFY (R124). -/
theorem detent_steps {w : Int} (hx : s.panel.encs[e]? = some x)
    (hk : k = multiplier (isOn (s.get (Fld.biAccel (48 + e)))) x.since)
    (hu : u = modEnc e (fun x => { x with since := some 0 }) s)
    (hname : s.namesField (s.get (Fld.biTarget (48 + e))) = some (f, sp))
    (hw : (s.actingKind (48 + e) = kindToggle ∧ w = if s.eff f = 0 then 1 else 0)
      ∨ (s.actingKind (48 + e) = kindCycle
        ∧ ∃ m : Nat, (sp.ty = .enum m ∨ (sp.ty = .onOff ∧ m = 2)) ∧ w = (s.eff f + sg) % m)) :
    (∀ t, submit f sp w u = some t → detent e sg s = markChanged f t)
    ∧ (submit f sp w u = none → detent e sg s = notifyDetent e (sg * k) u) := by
  have hnamed : u.namesField (u.get (Fld.biTarget (48 + e))) = some (f, sp) := by
    rw [hu, namesField_modEnc, get_modEnc, hname]
  have heff : s.eff f = u.eff f := by rw [hu, eff_modEnc]
  have hresult : detent e sg s = ((submit f sp w u).map (markChanged f)).getD (notifyDetent e (sg * k) u) := by
    rw [detent_eq hx hk hu]
    obtain ⟨hkind, rfl⟩ | ⟨hkind, m, hty, rfl⟩ := hw
    · rw [← steppedValue_toggle sp.ty sg, heff, ← stepTarget_eq hnamed, hkind]
      rfl
    · rw [← steppedValue_cycle hty, heff, ← stepTarget_eq hnamed, hkind]
      rfl
  rw [hresult]
  exact ⟨fun t ht => by rw [ht]; rfl, fun ht => by rw [ht]; rfl⟩

/-- The value of an ADJUST of a target with its own range and no step scaling (R122). -/
theorem adjusted_plain {c : Nat} {lo hi steps v : Int} (hv : v = s.adjusted c f lo hi steps)
    (hrange : s.adjustRange f lo hi = (lo, hi)) (hf : f ≠ Fld.trHoldoff) (hscaled : s.get (Fld.biScaled c) = 0) :
    (s.get (Fld.biWrap c) = 0 → v = limit lo hi (s.eff f + steps * s.get (Fld.biStep c)))
    ∧ (s.get (Fld.biWrap c) ≠ 0 → v = lo + (s.eff f + steps * s.get (Fld.biStep c) - lo) % (hi - lo + 1)) := by
  have hstep : s.stepSize c f = s.get (Fld.biStep c) := by
    rw [State.stepSize, hscaled]
    rfl
  rw [State.adjusted, hrange, if_neg hf, hstep] at hv
  subst hv
  exact ⟨fun h => if_neg (by rw [isOn_iff]; exact not_not.2 h), fun h => if_pos ((isOn_iff _).2 h)⟩

/-! ## What one encoder's turn leaves -/

/-- A detent leaves what no turn reaches, the keys, the other encoders, and its own pair and phase. -/
theorem detent_frame (e : Nat) (sg : Int) (s : State) : (detent e sg s).offTable = s.offTable
    ∧ (detent e sg s).panel.keys = s.panel.keys ∧ (∀ j, j ≠ e → (detent e sg s).coreAt j = s.coreAt j)
    ∧ ∀ x, s.panel.encs[e]? = some x →
        ∃ y, (detent e sg s).panel.encs[e]? = some y ∧ y.last = x.last ∧ y.phase = x.phase := by
  have hown {t : State} {g : Enc → Enc} (ht : t.coreAt e = (modEnc e g s).coreAt e)
      (hg : ∀ x, (g x).last = x.last ∧ (g x).phase = x.phase) (x : Enc) (hx : s.panel.encs[e]? = some x) :
      ∃ y, t.panel.encs[e]? = some y ∧ y.last = x.last ∧ y.phase = x.phase := by
    obtain ⟨y, hy, hcore⟩ := coreAt_eq_some.1 (ht.trans (coreAt_eq_some.2 ⟨_, encs_modEnc_same g hx, rfl⟩))
    exact ⟨y, hy, (congrArg EncCore.last hcore).trans (hg x).1, (congrArg EncCore.phase hcore).trans (hg x).2⟩
  obtain ⟨steps, hd⟩ | hd | ⟨n, -, -, hd⟩ := detent_cases e sg (s := s) rfl
  · rw [hd, notifyDetent, modEnc_modEnc]
    exact ⟨rfl, rfl, fun j hj => coreAt_modEnc_other _ hj, hown
      (g := fun x => { x with since := some 0, pending := limit (-127) 127 (x.pending + steps) }) rfl fun _ => ⟨rfl, rfl⟩⟩
  · have hcore (j : Nat) := coreAt_of_shell (cores_adjusts hd) j
    exact ⟨(offTable_adjusts hd).trans rfl, (keys_adjusts hd).trans rfl, fun j hj => (hcore j).trans (coreAt_modEnc_other _ hj),
      hown (hcore e) fun _ => ⟨rfl, rfl⟩⟩
  · rw [hd]
    exact ⟨congrArg (fun z : Shell => { z with keys := [], mask := 0, encs := [] }) (shell_setCarry (48 + e) n),
      (shell_keys (shell_setCarry (48 + e) n)).trans rfl, fun j hj => (coreAt_setCarry n j).trans (coreAt_modEnc_other _ hj),
      hown (coreAt_setCarry n e) fun _ => ⟨rfl, rfl⟩⟩

/-- A turn is the encoder's update, with a detent or without. -/
theorem stepEncoder_turn (pair : Bool × Bool) (e : Nat) (s : State) : ∃ u, u = modEnc e
      (fun _ => (sampleEncoder pair (s.panel.encs.getD e Enc.reset)).1) s
    ∧ (stepEncoder pair e s = u ∧ (sampleEncoder pair (s.panel.encs.getD e Enc.reset)).2 = 0
      ∨ (sampleEncoder pair (s.panel.encs.getD e Enc.reset)).2 ≠ 0 ∧ ∃ sg, stepEncoder pair e s = detent e sg u) := by
  refine ⟨_, rfl, ?_⟩
  unfold stepEncoder
  dsimp only
  split
  · next h => exact .inl ⟨rfl, h⟩
  · next h => exact .inr ⟨h, _, rfl⟩

theorem stepEncoder_frame (pair : Bool × Bool) (e : Nat) (s : State) : (stepEncoder pair e s).offTable = s.offTable
    ∧ (stepEncoder pair e s).panel.keys = s.panel.keys ∧ ∀ j, j ≠ e → (stepEncoder pair e s).coreAt j = s.coreAt j := by
  obtain ⟨u, rfl, ⟨ht, -⟩ | ⟨-, sg, ht⟩⟩ := stepEncoder_turn pair e s <;> rw [ht]
  · exact ⟨rfl, rfl, fun j hj => coreAt_modEnc_other _ hj⟩
  · obtain ⟨hoff, hkeys, hcore, -⟩ := detent_frame e sg
      (modEnc e (fun _ => (sampleEncoder pair (s.panel.encs.getD e Enc.reset)).1) s)
    exact ⟨hoff, hkeys, fun j hj => (hcore j hj).trans (coreAt_modEnc_other _ hj)⟩

/-- An encoder after its own turn: the pair and the phase sampled, and the pending detents where the turn made none (R114). -/
theorem stepEncoder_own (hx : s.panel.encs[e]? = some x) : ∃ y, (stepEncoder pair e s).panel.encs[e]? = some y
    ∧ y.last = (sampleEncoder pair x).1.last ∧ y.phase = (sampleEncoder pair x).1.phase
    ∧ ((sampleEncoder pair x).2 = 0 → y.pending = x.pending) := by
  obtain ⟨u, hu, hturn⟩ := stepEncoder_turn pair e s
  rw [getD_of_getElem? hx] at hu hturn
  have hsampled : u.panel.encs[e]? = some (sampleEncoder pair x).1 := by rw [hu]; exact encs_modEnc_same _ hx
  obtain ⟨ht, -⟩ | ⟨hne, sg, ht⟩ := hturn <;> rw [ht]
  · exact ⟨_, hsampled, rfl, rfl, fun _ => (sampleEncoder_kept pair x).1⟩
  · obtain ⟨-, -, -, hown⟩ := detent_frame e sg u
    obtain ⟨y, hy, hlast, hphase⟩ := hown _ hsampled
    exact ⟨y, hy, hlast, hphase, fun h => absurd h hne⟩

theorem exec_encoderSample (pairs : BitVec 24) (hh : s.held = false) : exec (.encoderSample pairs) s =
    .next ((List.range 12).foldl (fun s e => stepEncoder (pairs.getLsbD (2 * e + 1), pairs.getLsbD (2 * e)) e s) s) :=
  awake_running hh

end Sys2Proof.Machine

/-! ## The statement -/

open Sys2Proof Sys2Proof.Machine

/-- Settles O43: a sample is each encoder's turn in order, a turn moves its own encoder alone, and a detent goes by the
kind its encoder acts as. -/
theorem encoderSampleDecodes : Obligations.EncoderSampleDecodes := by
  refine ⟨fun s pairs hh => ?_, fun s pair e x n hx hn => stepEncoder_cases hx hn,
    fun s u e sg k x hx hsg h1 h2 hu => ?_⟩
  · have hoff := foldl_keeps State.offTable _ (fun s e =>
      (stepEncoder_frame (pairs.getLsbD (2 * e + 1), pairs.getLsbD (2 * e)) e s).1) (List.range 12) s
    have hkeys := foldl_keeps (fun s : State => s.panel.keys) _ (fun s e =>
      (stepEncoder_frame (pairs.getLsbD (2 * e + 1), pairs.getLsbD (2 * e)) e s).2.1) (List.range 12) s
    obtain ⟨hsetup, hlink, hrend, hheld, hcause, hpending, hlamps, hblink⟩ := of_offTable hoff
    refine ⟨_, exec_encoderSample pairs hh, hsetup, hlink, hrend, hheld.trans hh, hcause, hpending, hlamps, hblink, hkeys,
      rfl, fun e x he hx => ?_⟩
    obtain ⟨u, hu, hturn⟩ := foldl_range_at (fun e (s : State) => s.coreAt e)
      (g := fun s e => stepEncoder (pairs.getLsbD (2 * e + 1), pairs.getLsbD (2 * e)) e s)
      (fun u i j hij => (stepEncoder_frame _ j u).2.2 i hij) he s
    obtain ⟨x', hx', hcore⟩ := coreAt_eq_some.1 (hu.trans (coreAt_eq_some.2 ⟨x, hx, rfl⟩))
    obtain ⟨y', hy', hlast, hphase, hpending⟩ :=
      stepEncoder_own (pair := (pairs.getLsbD (2 * e + 1), pairs.getLsbD (2 * e))) hx'
    obtain ⟨y, hy, hcore'⟩ := coreAt_eq_some.1 (hturn.trans (coreAt_eq_some.2 ⟨y', hy', rfl⟩))
    obtain ⟨hsampled, hquiet, hmoved⟩ := sampleEncoder_core (pairs.getLsbD (2 * e + 1), pairs.getLsbD (2 * e)) x'
    have hxlast : x'.last = x.last := (congrArg EncCore.last hcore :)
    have hxphase : x'.phase = x.phase := (congrArg EncCore.phase hcore :)
    have hxpending : x'.pending = x.pending := (congrArg EncCore.pending hcore :)
    have hylast : y.last = some (pairs.getLsbD (2 * e + 1), pairs.getLsbD (2 * e)) :=
      (congrArg EncCore.last hcore' :).trans (hlast.trans hsampled)
    have hyphase : y.phase = y'.phase := (congrArg EncCore.phase hcore' :)
    refine ⟨y, hy, hylast, fun h => ?_, fun old hold hne => ?_⟩
    · rw [hylast, ← hxlast] at h
      obtain ⟨hsame, hno⟩ := hquiet h
      exact ⟨by rw [hyphase, hphase, hsame, hxphase],
        (congrArg EncCore.pending hcore' :).trans ((hpending hno).trans hxpending)⟩
    · rw [hylast, hold] at hne
      rw [hyphase, hphase, hmoved old (hxlast.trans hold) (fun h => hne (congrArg some h)), hxphase, hylast]
      simp only [Option.some.injEq]
  · have hk := multiplier_eq h1 h2
    refine ⟨fun h0 => ?_, fun h0 hnotify => ?_, fun hs hl => ⟨fun f sp lo hi n v hkind hname hty hn hv => ?_,
      fun f sp w hname hw => ?_⟩⟩
    · rw [detent_eq hx hk hu, actingKind_none h0]
      rfl
    · rw [detent_eq hx hk hu, actingKind_notify h0 hnotify, if_pos rfl, hu, notifyDetent, modEnc_modEnc]
    · obtain ⟨hsame, htaken, hrefused⟩ :=
        detent_adjusts hx hk hu ((actingKind_acts hs hl).trans hkind) hname hty hn hv
      exact ⟨hsame, htaken, hrefused, adjusted_plain hv⟩
    · exact detent_steps hx hk hu hname
        (hw.imp (And.imp_left (actingKind_acts hs hl).trans) (And.imp_left (actingKind_acts hs hl).trans))
end

section
/-! SUPPORT. What the panel submits (R10, R21, R118, R123, R127): CONFIG targets live, the others through the store. -/

namespace Sys2Proof.Machine

variable {s t : State} {f : FieldId} {sp : FieldSpec} {v w : Int} {c : Change} {pre post : List Change}

/-! ## CONFIG targets -/

theorem submit_store (h : sp.cls ≠ .config) (v : Int) : submit f sp v s = panelAdjust f v s := if_neg h

theorem submit_refused {e : Status} (h : sp.cls = .config) (hc : s.writeCheck .live f sp v = some e) :
    submit f sp v s = none := by
  rw [submit, if_pos h, hc]

theorem submit_live (h : sp.cls = .config) (hc : s.writeCheck .live f sp v = none)
    (hw : w = (s.storedValue .live f sp v).1) : submit f sp v s = some (configWrite f w s) := by
  rw [submit, if_pos h, hc, hw]

/-- A CONFIG write with nothing that follows from it (R10). -/
theorem configWrite_plain (hb : f.kind ≠ .binding) (hp : f.kind ≠ .panel ∨ s.get f ≠ 0 ∨ w ≠ 1) :
    configWrite f w s = setVal f w s := by
  unfold configWrite
  dsimp only
  split
  · exact absurd ‹_› hb
  · next hk =>
    have hlock : (decide (s.get f = 0) && decide (w = 1)) = false := by
      obtain h | h | h := hp
      · exact absurd hk h
      · rw [decide_eq_false h, Bool.false_and]
      · rw [decide_eq_false h, Bool.and_false]
    rw [hlock, foldIf_false]
  · rfl

/-- A write to an encoder's binding clears its carry (R118). -/
theorem configWrite_binding (hb : f.kind = .binding) : configWrite f w s = setCarry f.inst 0 (setVal f w s) := by
  rw [configWrite, hb]

/-- LOCK from off to on clears carries (R127). -/
theorem configWrite_lock (hp : f.kind = .panel) (h0 : s.get f = 0) (hw : w = 1) :
    configWrite f w s = lockCarries (setVal f w s) := by
  rw [configWrite, hp, h0, hw]
  rfl

/-- What the lock leaves of one encoder: its carry only where it is exempt (R127). -/
def State.locked (s : State) (e : Nat) (x : Enc) : Enc :=
  { x with carry := if s.get (Fld.biLockExempt (48 + e)) = 0 then 0 else x.carry }

theorem lockCarries_eq (s : State) : lockCarries s = { s with panel := { s.panel with
    encs := (List.range 12).foldl (fun es e => es.modify e (s.locked e)) s.panel.encs } } := by
  have hturn (u : State) (e : Nat) (hu : ∀ g, u.get g = s.get g) :
      foldIf (!isOn (u.get (Fld.biLockExempt (48 + e)))) (setCarry (48 + e) 0) u = modEnc e (s.locked e) u := by
    rw [hu]
    by_cases h : s.get (Fld.biLockExempt (48 + e)) = 0
    · rw [h]
      refine (setCarry_encoder e 0).trans ?_
      exact modEnc_congr fun x _ => by rw [State.locked, if_pos h]
    · rw [(isOn_iff _).2 h]
      exact (modEnc_fixed fun x _ => by rw [State.locked, if_neg h]).symm
  have hturns (l : List Nat) (u : State) (hu : ∀ g, u.get g = s.get g) :
      l.foldl (fun u e => foldIf (!isOn (u.get (Fld.biLockExempt (48 + e)))) (setCarry (48 + e) 0) u) u
        = l.foldl (fun u e => modEnc e (s.locked e) u) u := by
    induction l generalizing u with
    | nil => rfl
    | cons e l ih =>
      rw [List.foldl_cons, List.foldl_cons, hturn u e hu]
      exact ih _ fun g => (get_modEnc _ _).trans (hu g)
  rw [lockCarries, hturns _ s fun _ => rfl, foldl_modEnc]

/-! ## The store (R21) -/

theorem newestHolding_eq (hf : f ∈ c.fields) (hpost : ∀ d, d ∈ post → f ∉ d.fields) :
    newestHolding f (pre ++ c :: post) = some c := by
  have hnone : post.reverse.find? (fun d => d.fields.contains f) = none := by
    rw [List.find?_eq_none]
    intro d hd
    rw [List.contains_iff_mem]
    exact hpost d (List.mem_reverse.1 hd)
  rw [newestHolding, List.reverse_append, List.reverse_cons, List.append_assoc, List.find?_append, hnone]
  simp [hf]

theorem newestHolding_none {q : List Change} (h : ∀ d, d ∈ q → f ∉ d.fields) : newestHolding f q = none := by
  rw [newestHolding, List.find?_eq_none]
  intro d hd
  rw [List.contains_iff_mem]
  exact h d (List.mem_reverse.1 hd)

/-- The newest holder's entry is replaced in place (R21). -/
theorem coalesce_eq (v : Val) (hf : f ∈ c.fields) (hpost : ∀ d, d ∈ post → f ∉ d.fields) :
    coalesce f v (pre ++ c :: post) = pre ++ { c with entries := replaceEntry f v c.entries } :: post := by
  induction pre with
  | nil =>
    refine if_neg ?_
    rw [List.any_eq_true]
    rintro ⟨d, hd, hfd⟩
    exact hpost d hd (List.contains_iff_mem.1 hfd)
  | cons b pre ih =>
    refine (if_pos ?_).trans (congrArg (b :: ·) ih)
    rw [List.any_eq_true]
    exact ⟨c, by simp, List.contains_iff_mem.2 hf⟩

theorem panelAdjust_coalesces (hq : s.store.queue = pre ++ c :: post) (hf : f ∈ c.fields)
    (hpost : ∀ d, d ∈ post → f ∉ d.fields) (ho : c.origin = .panel) : panelAdjust f v s =
      some (setQueue (pre ++ { c with entries := replaceEntry f (.int v) c.entries } :: post) s) := by
  rw [panelAdjust, hq, newestHolding_eq hf hpost]
  dsimp only
  rw [if_pos ho, coalesce_eq (.int v) hf hpost]

/-- Where no panel change is the newest holder, a change of its own joins, if it has room (R21). -/
theorem panelAdjust_joins (h : (∀ d, d ∈ s.store.queue → f ∉ d.fields)
    ∨ ∃ (pre post : List Change) (c : Change), s.store.queue = pre ++ c :: post ∧ f ∈ c.fields
      ∧ (∀ d, d ∈ post → f ∉ d.fields) ∧ c.origin ≠ .panel) : panelAdjust f v s =
    if s.store.queue.length < 16 ∧ 0 < s.poolFree then some (joinQueue .panel [{ id := f, val := .int v }] s) else none := by
  obtain h | ⟨pre, post, c, hq, hf, hpost, ho⟩ := h
  · rw [panelAdjust, newestHolding_none h]
  · have hholder : newestHolding f s.store.queue = some c := hq ▸ newestHolding_eq hf hpost
    rw [panelAdjust, hholder]
    exact if_neg ho

/-- A change of one entry has its field's class (R20). -/
theorem cls_single (o : Origin) (x : Val) (r : Bool) :
    (({ origin := o, entries := [{ id := f, val := x }], released := r } : Change).cls) =
      if classOf f = .restart then .restart else if classOf f = .sweep then .sweep else .view := by
  simp [Change.cls, anyClass]

theorem joinQueue_restart (o : Origin) (x : Val) (h : classOf f = .restart) : joinQueue o [{ id := f, val := x }] s =
    restartEvent (setQueue (s.store.queue ++ [{ origin := o, entries := [{ id := f, val := x }], released := false }]) s) := by
  rw [joinQueue, cls_single, h]
  rfl

theorem joinQueue_sweep (o : Origin) (x : Val) (h : classOf f = .sweep) : joinQueue o [{ id := f, val := x }] s =
    examine (setQueue (s.store.queue ++ [{
      origin := o, entries := [{ id := f, val := x }], released := decide (s.sweep.acq ≠ .capturing) }]) s) := by
  rw [joinQueue, cls_single, h]
  rfl

theorem joinQueue_view (o : Origin) (x : Val) (h : classOf f = .view) : joinQueue o [{ id := f, val := x }] s =
    examine (setQueue (s.store.queue ++ [{ origin := o, entries := [{ id := f, val := x }], released := true }]) s) := by
  rw [joinQueue, cls_single, h]
  rfl

end Sys2Proof.Machine
end

section
/-! SUPPORT. Key scans (R113) and presses (R120 to R126). -/

namespace Sys2Proof.Machine

variable {s t u : State} {f : FieldId} {sp : FieldSpec} {k j : Nat} {x y : Key} {raw : Bool}

/-! ## Debouncing (R113) -/

theorem debounce_agrees (h : raw = x.pressed) : debounce raw x = ({ x with agree := 0 }, false) := if_pos h

theorem debounce_counts (h : raw ≠ x.pressed) (ha : x.agree < 2) :
    debounce raw x = ({ x with agree := x.agree + 1 }, false) := (if_neg h).trans (if_pos (Nat.succ_lt_succ ha))

theorem debounce_turns (h : raw ≠ x.pressed) (ha : 2 ≤ x.agree) :
    debounce raw x = ({ x with pressed := raw, agree := 0 }, raw) :=
  (if_neg h).trans (if_neg (Nat.not_lt.2 (Nat.succ_le_succ ha)))

/-- One key's turn at a scan: its update, then its press, if it makes one (R113). -/
theorem scanKey_eq {r : Key × Bool} (hx : s.panel.keys[k]? = some x) (hr : debounce raw x = r) {g : Key → Key}
    (hg : g x = r.1) : scanKey raw k s = if r.2 = true then press k (modKey k g s) else modKey k g s := by
  subst hr
  have hmod : modKey k (fun _ => (debounce raw x).1) s = modKey k g s :=
    modKey_congr fun z hz => by rw [← Option.some.inj (hx.symm.trans hz), hg]
  rw [scanKey, getD_of_getElem? hx, hmod]

/-- The rows of R113. -/
theorem scanKey_cases (hx : s.panel.keys[k]? = some x) :
    (raw = x.pressed → scanKey raw k s = modKey k (fun x => { x with agree := 0 }) s)
    ∧ (raw ≠ x.pressed → x.agree < 2 → scanKey raw k s = modKey k (fun x => { x with agree := x.agree + 1 }) s)
    ∧ (raw ≠ x.pressed → 2 ≤ x.agree → raw = false →
      scanKey raw k s = modKey k (fun x => { x with pressed := false, agree := 0 }) s)
    ∧ (raw ≠ x.pressed → 2 ≤ x.agree → raw = true →
      scanKey raw k s = press k (modKey k (fun x => { x with pressed := true, agree := 0 }) s)) := by
  refine ⟨fun h => scanKey_eq hx (debounce_agrees h) rfl, fun h ha => scanKey_eq hx (debounce_counts h ha) rfl, ?_, ?_⟩
  · rintro h ha rfl
    exact scanKey_eq hx (debounce_turns h ha) rfl
  · rintro h ha rfl
    exact scanKey_eq hx (debounce_turns h ha) rfl

/-! ## What one key's turn leaves -/

theorem keys_modKey_other (g : Key → Key) (h : j ≠ k) : (modKey k g s).panel.keys[j]? = s.panel.keys[j]? := by
  rw [keys_modKey]
  simp [h.symm]

theorem keys_modKey_same (g : Key → Key) (h : s.panel.keys[k]? = some x) :
    (modKey k g s).panel.keys[k]? = some (g x) := by
  rw [keys_modKey, h, Option.map_some, if_pos rfl]

/-- A press leaves what no turn reaches, the encoders but for their carries, and every key but for its own count. -/
theorem press_frame (k : Nat) (s : State) : (press k s).offTable = s.offTable ∧ (press k s).shell.encs = s.shell.encs
    ∧ (∀ j, j ≠ k → (press k s).panel.keys[j]? = s.panel.keys[j]?)
    ∧ ∀ x, s.panel.keys[k]? = some x → (press k s).panel.keys[k]? = some x
        ∨ (press k s).panel.keys[k]? = some { x with count := Nat.min 15 (x.count + 1) } := by
  obtain h | h := press_cases k s
  · rw [h]
    exact ⟨rfl, rfl, fun j hj => keys_modKey_other _ hj, fun x hx => .inr (keys_modKey_same _ hx)⟩
  · have hkeys := keys_adjusts h
    exact ⟨offTable_adjusts h, cores_adjusts h, fun j _ => by rw [hkeys], fun x hx => .inl (by rw [hkeys, hx])⟩

theorem scanKey_frame (raw : Bool) (k : Nat) (s : State) : (scanKey raw k s).offTable = s.offTable
    ∧ (scanKey raw k s).shell.encs = s.shell.encs
    ∧ ∀ j, j ≠ k → (scanKey raw k s).panel.keys[j]? = s.panel.keys[j]? := by
  unfold scanKey
  dsimp only
  split
  · obtain ⟨hoff, hencs, hkeys, -⟩ := press_frame k (modKey k (fun _ => (debounce raw (s.panel.keys.getD k Key.reset)).1) s)
    exact ⟨hoff, hencs, fun j hj => (hkeys j hj).trans (keys_modKey_other _ hj)⟩
  · exact ⟨rfl, rfl, fun j hj => keys_modKey_other _ hj⟩

/-- A key after its own turn: debounced, and counted where its press was for the host (R113, R121). -/
theorem scanKey_own (hx : s.panel.keys[k]? = some x) : ∃ y, (scanKey raw k s).panel.keys[k]? = some y
    ∧ y.pressed = (debounce raw x).1.pressed ∧ y.agree = (debounce raw x).1.agree
    ∧ (y.count = x.count ∨ (debounce raw x).2 = true ∧ y.count = Nat.min 15 (x.count + 1)) := by
  have hscanned := keys_modKey_same (fun _ => (debounce raw x).1) hx
  rw [scanKey_eq hx rfl (g := fun _ => (debounce raw x).1) rfl]
  split
  · next hpressed =>
    obtain ⟨-, -, -, hown⟩ := press_frame k (modKey k (fun _ => (debounce raw x).1) s)
    obtain hy | hy := hown _ hscanned
    · exact ⟨_, hy, rfl, rfl, .inl (debounce_count raw x)⟩
    · exact ⟨_, hy, rfl, rfl, .inr ⟨hpressed, by rw [debounce_count]⟩⟩
  · exact ⟨_, hscanned, rfl, rfl, .inl (debounce_count raw x)⟩

/-- A key whose level holds has nothing to do. -/
theorem scanKey_settled (h : ∀ y, s.panel.keys[k]? = some y → raw = y.pressed ∧ y.agree = 0) : scanKey raw k s = s := by
  cases hk : s.panel.keys[k]? with
  | some y =>
    obtain ⟨hraw, hagree⟩ := h y hk
    rw [(scanKey_cases hk).1 hraw]
    exact modKey_fixed fun z hz => by rw [← hagree, Option.some.inj (hk.symm.trans hz)]
  | none =>
    have hquiet : (debounce raw Key.reset).2 = false := by cases raw <;> rfl
    have hreset : s.panel.keys.getD k Key.reset = Key.reset := by rw [List.getD_eq_getElem?_getD, hk]; rfl
    rw [scanKey, hreset, hquiet, if_neg Bool.false_ne_true]
    exact modKey_fixed fun z hz => by rw [hk] at hz; cases hz

theorem exec_keyScan (raw : BitVec 48) (hh : s.held = false) : exec (.keyScan raw) s =
    .next ((List.range 48).foldl (fun s k => scanKey (raw.getLsbD k) k s) s) := awake_running hh

/-- A scan that completes one key's press, every other key at its level, is that press (log 14). -/
theorem exec_keyScan_press {raw : BitVec 48} (hh : s.held = false) (hk : k < 48) (hx : s.panel.keys[k]? = some x)
    (hup : x.pressed = false) (hagree : x.agree = 2) (hraw : raw.getLsbD k = true)
    (hothers : ∀ j y, j < 48 → j ≠ k → s.panel.keys[j]? = some y → raw.getLsbD j = y.pressed ∧ y.agree = 0)
    (hu : u = modKey k (fun x => { x with pressed := true, agree := 0 }) s) :
    exec (.keyScan raw) s = .next (press k u) := by
  have hpress : scanKey (raw.getLsbD k) k s = press k u := by
    rw [hu]
    obtain ⟨-, -, -, hturns⟩ := scanKey_cases (raw := raw.getLsbD k) hx
    exact hturns (by rw [hraw, hup]; decide) hagree.ge hraw
  rw [exec_keyScan raw hh, ← hpress]
  refine congrArg _ (foldl_range_only (fun t : State => ∀ j y, j < 48 → j ≠ k → t.panel.keys[j]? = some y →
    raw.getLsbD j = y.pressed ∧ y.agree = 0) hk (fun t j ht hj hjk => scanKey_settled fun y => ht j y hj hjk) hothers ?_)
  intro j y hj hjk hy
  obtain ⟨-, -, hkeys⟩ := scanKey_frame (raw.getLsbD k) k s
  exact hothers j y hj hjk (hkeys j hjk ▸ hy)

/-! ## Actions (R126) -/

theorem takeForce_getD (s : State) : (takeForce s).getD s =
    if s.sweep.acq = .waiting then triggerEvent .forced s
    else if s.sweep.acq = .arming then { s with sweep := { s.sweep with force := true } } else s := by
  unfold takeForce
  cases s.sweep.acq <;> rfl

theorem level50_noBank (h : s.shownBank s.source = none) : level50 s = s := by rw [level50, h]

/-- LEVEL50 submits the level at the middle of the shown bank's range (R126). -/
theorem level50_eq {b : Bank} {v : Int} (h : s.shownBank s.source = some b)
    (hv : v = levelOfCode (((b.header.sweepMin + b.header.sweepMax) / 2 : Nat) : Int) (s.get (Fld.chScaleUv s.source))
      (s.get (Fld.chOffsetUv s.source))) : level50 s =
    if b.header.validCount = 0 then s
    else ((panelAdjust Fld.trLevelUv v s).map (markChanged Fld.trLevelUv)).getD s := by
  subst hv
  rw [level50, h]
  dsimp only
  congr 1
  cases panelAdjust Fld.trLevelUv _ s <;> rfl

/-! ## A press by the kind its key acts as (R120, R121, R124, R126) -/

theorem press_none (h : s.actingKind k = 0) : press k s = s := by rw [press, h]; rfl
theorem press_notify (h : s.actingKind k = 1) : press k s = notifyPress k s := by rw [press, h]; rfl
theorem press_action (h : s.actingKind k = kindAction) : press k s = panelAction (s.get (Fld.biAction k)) s := by
  rw [press, h]; rfl

/-- A TOGGLE or CYCLE submits its value; a refused one counts as NOTIFY (R124). -/
theorem press_steps {w : Int} (hname : s.namesField (s.get (Fld.biTarget k)) = some (f, sp))
    (hw : (s.actingKind k = kindToggle ∧ w = if s.eff f = 0 then 1 else 0)
      ∨ (s.actingKind k = kindCycle ∧ ∃ n : Nat, (sp.ty = .enum n ∨ (sp.ty = .onOff ∧ n = 2)) ∧ w = (s.eff f + 1) % n)) :
    (∀ t, submit f sp w s = some t → press k s = markChanged f t)
    ∧ (submit f sp w s = none → press k s = notifyPress k s) := by
  have hpress : press k s = ((submit f sp w s).map (markChanged f)).getD (notifyPress k s) := by
    obtain ⟨hkind, rfl⟩ | ⟨hkind, n, hty, rfl⟩ := hw
    · rw [← steppedValue_toggle sp.ty 1, ← stepTarget_eq hname, press, hkind]
      rfl
    · rw [← steppedValue_cycle hty, ← stepTarget_eq hname, press, hkind]
      rfl
  rw [hpress]
  exact ⟨fun t ht => by rw [ht]; rfl, fun ht => by rw [ht]; rfl⟩

/-- What encoders keep, read as restKept reads it. -/
theorem encs_tuple (h : t.shell.encs = s.shell.encs) : (t.panel.encs.map fun e => (e.last, e.phase, e.since, e.pending))
    = (s.panel.encs.map fun e => (e.last, e.phase, e.since, e.pending)) := by
  have htuple := congrArg (List.map fun c : EncCore => (c.last, c.phase, c.since, c.pending)) h
  simp only [State.shell, List.map_map] at htuple
  exact htuple

/-! ## The rules of what is submitted -/

/-- What a panel adjustment does, by the newest holder and the field's class (R21). -/
theorem panelAdjust_rules (f : FieldId) (v : Int) (s : State) (q : List Change) (hq : q = s.store.queue) :
    (∀ (pre post : List Change) (c new : Change), q = pre ++ c :: post → f ∈ c.fields → (∀ d, d ∈ post → f ∉ d.fields) →
      c.origin = .panel →
      new = { c with entries := c.entries.map fun e => if e.id = f then { e with val := .int v } else e } →
      panelAdjust f v s = some (setQueue (pre ++ new :: post) s))
    ∧ ((∀ d, d ∈ q → f ∉ d.fields)
        ∨ (∃ (pre post : List Change) (c : Change), q = pre ++ c :: post ∧ f ∈ c.fields ∧ (∀ d, d ∈ post → f ∉ d.fields)
            ∧ c.origin ≠ .panel) →
      (16 ≤ q.length ∨ s.poolFree = 0 → panelAdjust f v s = none)
      ∧ ∀ new : Change, q.length < 16 → 0 < s.poolFree →
        new = { origin := .panel, entries := [{ id := f, val := .int v }], released := false } →
        (classOf f = .view → panelAdjust f v s = some (examine (setQueue (q ++ [{ new with released := true }]) s)))
        ∧ (classOf f = .sweep → panelAdjust f v s =
            some (examine (setQueue (q ++ [{ new with released := decide (s.sweep.acq ≠ .capturing) }]) s)))
        ∧ (classOf f = .restart → panelAdjust f v s = some (restartEvent (setQueue (q ++ [new]) s)))) := by
  subst hq
  refine ⟨?_, fun hjoin => ?_⟩
  · rintro pre post c new hq hf hpost ho rfl
    exact panelAdjust_coalesces hq hf hpost ho
  · rw [panelAdjust_joins hjoin]
    refine ⟨fun hfull => if_neg (by omega), ?_⟩
    rintro new hlen hfree rfl
    rw [if_pos ⟨hlen, hfree⟩]
    exact ⟨fun h => congrArg some (joinQueue_view _ _ h), fun h => congrArg some (joinQueue_sweep _ _ h),
      fun h => congrArg some (joinQueue_restart _ _ h)⟩

/-- What a submitted value does to a CONFIG target (R10, R118, R127). -/
theorem submit_rules (f : FieldId) (sp : FieldSpec) (v w : Int) (s : State) :
    (sp.cls ≠ .config → submit f sp v s = panelAdjust f v s)
    ∧ (sp.cls = .config → ∀ e, s.writeCheck .live f sp v = some e → submit f sp v s = none)
    ∧ (sp.cls = .config → s.writeCheck .live f sp v = none → w = (s.storedValue .live f sp v).1 →
      (f.kind ≠ .binding → f.kind ≠ .panel ∨ s.get f ≠ 0 ∨ w ≠ 1 → submit f sp v s = some (setVal f w s))
      ∧ (f.kind = .binding → submit f sp v s = some (setCarry f.inst 0 (setVal f w s)))
      ∧ (f.kind = .panel → s.get f = 0 → w = 1 → ∃ es : List Enc,
        submit f sp v s = some { setVal f w s with panel := { s.panel with encs := es } } ∧ es.length = s.panel.encs.length
        ∧ ∀ (e : Nat) (x : Enc), s.panel.encs[e]? = some x →
          es[e]? = some { x with carry := if e < 12 ∧ s.get (Fld.biLockExempt (48 + e)) = 0 then 0 else x.carry })) := by
  refine ⟨fun h => submit_store h v, fun h e => submit_refused h, fun h hc hw => ?_⟩
  rw [submit_live h hc hw]
  refine ⟨fun hb hp => by rw [configWrite_plain hb hp], fun hb => by rw [configWrite_binding hb], fun hp h0 h1 => ?_⟩
  refine ⟨_, by rw [configWrite_lock hp h0 h1, lockCarries_eq]; rfl, ?_, fun e x hx => ?_⟩
  · exact foldl_modify_length _ _ _
  · have hexempt : (setVal f w s).get (Fld.biLockExempt (48 + e)) = s.get (Fld.biLockExempt (48 + e)) :=
      get_setVal_other fun h => by rw [← h] at hp; cases hp
    have hx' : (setVal f w s).panel.encs[e]? = some x := hx
    rw [getElem?_foldl_modify, hx', Option.map_some, State.locked, hexempt]
    by_cases he : e < 12
    · simp [he]
    · simp [he]

end Sys2Proof.Machine

/-! ## The statement -/

open Sys2Proof Sys2Proof.Machine

/-- Settles O42: what is submitted goes live or to the store, a scan is each key's turn in order, and a press goes by the
kind its key acts as. -/
theorem keyScanDebounces : Obligations.KeyScanDebounces := by
  refine ⟨submit_rules, panelAdjust_rules, fun s raw => exec_keyScan raw, fun s raw k x => scanKey_cases,
    fun s raw hh => ?_, fun s u raw k x hh hk hx hup hagree hraw hothers hu => ?_⟩
  · have hoff := foldl_keeps State.offTable _ (fun s k => (scanKey_frame (raw.getLsbD k) k s).1) (List.range 48) s
    have hencs := foldl_keeps (fun s : State => s.shell.encs) _ (fun s k => (scanKey_frame (raw.getLsbD k) k s).2.1)
      (List.range 48) s
    obtain ⟨hsetup, hlink, hrend, hheld, hcause, hpending, hlamps, hblink⟩ := of_offTable hoff
    refine ⟨_, exec_keyScan raw hh, hsetup, hlink, hrend, hheld.trans hh, hcause, hpending, hlamps, hblink,
      encs_tuple hencs, fun k x hk hx => ?_⟩
    obtain ⟨u, hxu, hturn⟩ := foldl_range_at (fun k (s : State) => s.panel.keys[k]?)
      (g := fun s k => scanKey (raw.getLsbD k) k s) (fun u i j hij => (scanKey_frame _ j u).2.2 i hij) hk s
    obtain ⟨y, hy, hpressed, hagree, hcount⟩ := scanKey_own (raw := raw.getLsbD k) (hxu.trans hx)
    refine ⟨y, hturn.trans hy, fun h => ?_, fun h ha => ?_, fun h ha => ?_⟩
    · rw [debounce_agrees h] at hpressed hagree hcount
      exact ⟨hpressed, hagree, hcount.resolve_right fun hc => Bool.false_ne_true hc.1⟩
    · rw [debounce_counts h (by omega)] at hpressed hagree hcount
      exact ⟨hpressed, hagree, hcount.resolve_right fun hc => Bool.false_ne_true hc.1⟩
    · rw [debounce_turns h ha] at hpressed hagree hcount
      exact ⟨hpressed, hagree, hcount.imp_right And.right⟩
  · rw [exec_keyScan_press hh hk hx hup hagree hraw hothers hu]
    have hsame : u.actingKind k = s.actingKind k := by rw [hu, actingKind_modKey]
    refine ⟨fun h0 => ?_, fun h0 hnotify => ?_, fun hs hl => ?_⟩
    · rw [press_none (hsame.trans (actingKind_none h0))]
    · rw [press_notify (hsame.trans (actingKind_notify h0 hnotify)), hu, notifyPress, modKey_modKey]
    · have hacts : u.actingKind k = s.get (Fld.biKind k) := hsame.trans (actingKind_acts hs hl)
      subst hu
      refine ⟨fun f sp hkind hname => ?_, fun f sp n hkind hname hty => ?_, fun hkind => ?_⟩
      · obtain ⟨htaken, hrefused⟩ := press_steps (s := modKey k (fun x => { x with pressed := true, agree := 0 }) s) hname
          (.inl ⟨hacts.trans hkind, rfl⟩)
        exact ⟨fun t ht => congrArg _ (htaken t ht), fun ht => congrArg _ (hrefused ht)⟩
      · obtain ⟨htaken, hrefused⟩ := press_steps (s := modKey k (fun x => { x with pressed := true, agree := 0 }) s) hname
          (.inr ⟨hacts.trans hkind, n, hty, rfl⟩)
        exact ⟨fun t ht => congrArg _ (htaken t ht), fun ht => congrArg _ (hrefused ht)⟩
      · rw [press_action (hacts.trans hkind), get_modKey]
        refine ⟨fun ha => ?_, fun ha => ?_, fun ha => ?_, fun ha hb => ?_, fun b v ha hb hv => ?_, fun ha => ?_, fun ha => ?_⟩
        all_goals rw [ha]
        · rfl
        · rfl
        · exact congrArg _ (takeForce_getD _)
        · exact congrArg _ (level50_noBank hb)
        · have hlevel : panelAction 3 (modKey k (fun x => { x with pressed := true, agree := 0 }) s) = _ := level50_eq hb hv
          rw [hlevel]
          refine ⟨fun h => ?_, fun t h0 ht => ?_⟩
          · obtain h | h := h
            · rw [if_pos h]
            · rw [h]
              exact congrArg _ (ite_self _)
          · rw [if_neg h0, ht]
            rfl
        · rfl
        · rfl
end

section
/-! SUPPORT. A frame's start and end: what is latched (R134, R138), the lends of the displayed channels (R136), and the
counts and releases of the end (R137). -/

namespace Sys2Proof.Machine

variable {s : State} {ch : Nat}

/-! ## What moves the banks alone -/

/-- Channels' turns that each move the banks alone move the banks alone. -/
theorem forChannels_banks {g : Nat → State → State} (h : ∀ c u, g c u = { u with comb := (g c u).comb }) (s : State) :
    forChannels g s = { s with comb := (forChannels g s).comb } :=
  congrArg (fun u : State => { u with comb := (forChannels g s).comb })
    (forChannels_keeps (fun u : State => { u with comb := s.comb }) (fun c u => by rw [h c u]) s)

theorem frameLends_banks (s : State) : frameLends s = { s with comb := (frameLends s).comb } :=
  forChannels_banks (fun c u => by cases isOn (s.get (Fld.chDisplay c)) <;> rfl) s

theorem lentBank_modBanks_other {c : Nat} (who : Lender) (g : List Bank → List Bank) (h : c ≠ ch) :
    (modBanks c g s).lentBank who ch = s.lentBank who ch :=
  congrArg (List.find? fun b : Bank => b.lends.has who) (chan_modBanks_other g h)

/-! ## The latch (R134, R138) -/

theorem blankFrame_iff (s : State) : s.blankFrame = true ↔ s.setup.starting = true ∨ s.get Fld.diEnable = 0 := by
  simp [State.blankFrame]

theorem latchFrame_palette {i : Nat} (h : i < 32) : (latchFrame s).palette[i]? = some (latchPalette s i) := by
  rw [latchFrame, List.getElem?_map, List.getElem?_range h]
  rfl

theorem latchFrame_chans (h : ch < 4) : (latchFrame s).chans[ch]? = some (latchChannel s ch) := by
  have hrange : (List.range 4)[ch]? = some ch := List.getElem?_range h
  exact (List.getElem?_map ..).trans (congrArg (Option.map _) hrange)

theorem latchFrame_objects (s : State) :
    (latchFrame s).objects = if s.blankFrame then [] else frameList s (latchFrame s).cursors := rfl

/-! ## The lends (R136) -/

/-- A frame start lends a displayed channel's shown bank to the renderer (R62, R136). -/
theorem lentBank_frameLends (hch : ch < 4) (hd : s.get (Fld.chDisplay ch) ≠ 0) :
    ((frameLends s).lentBank .renderer ch).map Bank.content = s.shownContent ch := by
  refine forChannels_turn (P := fun u => u.shownContent ch = s.shownContent ch)
    (Q := fun u => (u.lentBank .renderer ch).map Bank.content = s.shownContent ch) hch
    (fun c u hc hu => ?_) (fun u hu => ?_) (fun c u hc hu => ?_) rfl
  · cases isOn (s.get (Fld.chDisplay c)) with
    | false => exact hu
    | true => exact (shownContent_requestLend .renderer c ch).trans hu
  · rw [(isOn_iff _).2 hd]
    exact (lentBank_requestLend .renderer ch u).trans hu
  · cases isOn (s.get (Fld.chDisplay c)) with
    | false => exact hu
    | true =>
      rw [foldIf_true, requestLend, lentBank_modBanks_other _ _ hc]
      exact hu

/-! ## FRAME_START -/

/-- The state with its frame latched, before the lends (R134). -/
def State.frameLatched (s : State) : State :=
  { s with rend := { s.rend with frame := some (latchFrame s), nextLine := 0 } }

/-- The banks after a frame start: a blank frame lends none (R136, R138). -/
def State.frameComb (s : State) : Comb := if s.blankFrame then s.comb else (frameLends s.frameLatched).comb

theorem frameComb_blank (h : s.blankFrame = true) : s.frameComb = s.comb := if_pos h

theorem lentBank_frameComb (hb : s.blankFrame = false) (hch : ch < 4) (hd : s.get (Fld.chDisplay ch) ≠ 0) :
    (({ s.frameLatched with comb := s.frameComb } : State).lentBank .renderer ch).map Bank.content = s.shownContent ch := by
  have hlent := lentBank_frameLends (s := s.frameLatched) hch hd
  rw [frameLends_banks] at hlent
  rw [State.frameComb, hb]
  exact hlent

theorem exec_frameStart (hh : s.held = false) (hf : s.rend.frame = none) :
    exec .frameStart s = .next { s.frameLatched with comb := s.frameComb } := by
  rw [exec, execFrameStart, awake_running hh, hf, State.frameComb]
  cases s.blankFrame with
  | true => rfl
  | false => exact congrArg _ (frameLends_banks s.frameLatched)

end Sys2Proof.Machine

/-! ## The statement -/

open Sys2Proof Sys2Proof.Machine

/-- Settles O45: a frame start latches the display state and moves nothing else but the lends of the channels displayed. -/
theorem frameStartLatches : Obligations.FrameStartLatches := by
  intro s hh hf
  have hobjects := latchFrame_objects s
  refine ⟨_, latchFrame s, exec_frameStart hh hf, rfl, blankFrame_iff s, rfl, rfl, rfl,
    fun i => latchFrame_palette, fun c => latchFrame_chans, rfl,
    fun hb => hobjects.trans (if_neg (Bool.eq_false_iff.1 hb)), fun hb => ⟨hobjects.trans (if_pos hb), frameComb_blank hb⟩,
    rfl, rfl, rfl, rfl, rfl, rfl, rfl, rfl, rfl, rfl, fun hb ch hch hd hnone => ?_, fun hb ch b hch hd hshown => ?_⟩
  · have hlent := lentBank_frameComb hb hch hd
    rw [State.shownContent, hnone] at hlent
    exact Option.map_eq_none_iff.1 hlent
  · have hlent := lentBank_frameComb hb hch hd
    rw [State.shownContent, hshown] at hlent
    obtain ⟨b', hb', hcontent⟩ := Option.map_eq_some_iff.1 hlent
    exact ⟨b', hb', (congrArg Bank.cols hcontent :), (congrArg Bank.header hcontent :), (congrArg Bank.origin hcontent :)⟩
end

section
/-! SUPPORT. The lines of a frame (R131, R139, R149) and its end (R137). -/

namespace Sys2Proof.Machine

variable {s : State} {ch : Nat} {f : Frame} {y : Fin 600}

/-! ## LINE (R131, R149) -/

theorem exec_line_next (hh : s.held = false) (hf : s.rend.frame = some f) (hy : y.val = s.rend.nextLine) :
    exec (.line y) s = .next { s with rend := { s.rend with
      line := linePixels s y.val, nextLine := y.val + 1,
      drops := s.rend.drops + ((f.objects.filter fun o => o.onLine y).length - 24) } } := by
  have hdrops : lineDrops s y.val = (f.objects.filter fun o => o.onLine y).length - 24 := by rw [lineDrops, hf]; rfl
  simp only [exec, execLine, awake_running hh, hf, if_pos hy, hdrops]

theorem exec_line_outOfTurn (hh : s.held = false) (hf : s.rend.frame = some f) (hy : y.val ≠ s.rend.nextLine) :
    exec (.line y) s = .next s := by
  simp only [exec, execLine, awake_running hh, hf, if_neg hy]

theorem exec_line_between (hh : s.held = false) (hf : s.rend.frame = none) :
    exec (.line y) s = .next { s with rend := { s.rend with line := List.replicate 1024 black } } := by
  simp only [exec, execLine, awake_running hh, hf, linePixels]

theorem linePixels_blank {n : Nat} (hf : s.rend.frame = some f) (hb : f.blank = true) :
    linePixels s n = List.replicate 1024 black := by
  simp only [linePixels, hf, hb, if_true]

theorem linePixels_composed {n : Nat} (hf : s.rend.frame = some f) (hb : f.blank = false) :
    linePixels s n = (List.range 1024).map fun x => pixel s f ((candidates f n).take 24) x n := by
  simp only [linePixels, hf, hb, Bool.false_eq_true, if_false]

theorem length_linePixels (s : State) (n : Nat) : (linePixels s n).length = 1024 := by
  unfold linePixels
  split
  · exact List.length_replicate
  · split
    · exact List.length_replicate
    · exact (List.length_map _).trans List.length_range

/-! ## FRAME_END (R137) -/

/-- The two counts of a frame end (R137). -/
def frameWrites (s : State) : List (FieldId × Int) :=
  [(Fld.diOverflow, (Nat.min s.rend.drops 65535 : Nat)),
    (Fld.diFrameCount, (s.get Fld.diFrameCount + 1) % 4294967296)]

theorem nodup_frameWrites (s : State) : ((frameWrites s).map Prod.fst).Nodup :=
  (by decide : [Fld.diOverflow, Fld.diFrameCount].Nodup)

/-- The state after a frame end: the two counts, and the banks, the notices and the renderer besides (R137). -/
def State.frameEnded (s : State) : State :=
  { setVals (frameWrites s) s with
    comb := (forChannels (releaseLend .renderer) s).comb
    notices := (raiseIf (decide (0 < s.rend.drops)) .displayOverflow s).notices
    rend := { s.rend with frame := none, nextLine := 0, drops := 0 } }

theorem recordsKept_frameEnded (s : State) : s.recordsKept s.frameEnded :=
  (recordsKept_of_unmeasured (unmeasured_setVals (frameWrites s) s) :)

theorem exec_frameEnd (hh : s.held = false) (hf : s.rend.frame = some f) (hl : 600 ≤ s.rend.nextLine) :
    exec .frameEnd s = .next s.frameEnded := by
  have hcount : (setVal Fld.diOverflow (Nat.min s.rend.drops 65535 : Nat) s).get Fld.diFrameCount = s.get Fld.diFrameCount :=
    get_setVal_other (by decide)
  rw [exec, execFrameEnd, awake_running hh, hf]
  dsimp only
  rw [if_neg (not_lt.2 hl), forChannels_banks (g := releaseLend .renderer) (fun _ _ => rfl) s, State.frameEnded, frameWrites, ← hcount]
  cases decide (0 < s.rend.drops) <;> rfl

theorem exec_frameEnd_early (hh : s.held = false) (hl : s.rend.nextLine < 600) : exec .frameEnd s = .next s := by
  rw [exec, execFrameEnd, awake_running hh]
  split
  · rfl
  · rw [if_pos hl]

theorem lentBank_release_all (who : Lender) (hch : ch < 4) : (forChannels (releaseLend who) s).lentBank who ch = none :=
  lentBank_releaseEach (l := [0, 1, 2, 3]) (List.mem_range (n := 4).2 hch)

end Sys2Proof.Machine

/-! ## The statement -/

open Sys2Proof Sys2Proof.Machine

/-- Settles O46: a line in turn is its pixels and its drops and nothing else, and the frame end's writes are its two counts. -/
theorem linesAndFrameEnd : Obligations.LinesAndFrameEnd := by
  refine ⟨fun s y f hh hf hy => ⟨linePixels s y, exec_line_next hh hf hy, length_linePixels s y, linePixels_blank hf,
    fun hb x hx => ?_⟩, fun s y hh hf hy => ?_, fun s y => exec_line_between, fun s => exec_frameEnd_early,
    fun s f hh ht hf hl => ⟨_, exec_frameEnd hh hf hl, rfl, ?_, ?_, ?_, ?_, ?_, rfl, rfl, rfl, rfl, rfl, rfl, rfl, rfl, ?_⟩⟩
  · rw [linePixels_composed hf hb, List.getElem?_map, List.getElem?_range hx]
    rfl
  · obtain ⟨f, hf⟩ := Option.ne_none_iff_exists'.1 hf
    exact exec_line_outOfTurn hh hf hy
  · exact get_setVals ht (by decide) (.head _) (nodup_frameWrites s)
  · exact get_setVals ht (by decide) (.tail _ (.head _)) (nodup_frameWrites s)
  · exact fun g ho hc => get_setVals_other (by simp [frameWrites, ho, hc])
  · simp [State.frameEnded, raiseIf]
  · exact fun ch => lentBank_release_all .renderer
  · exact recordsKept_frameEnded s
end

section
/-! SUPPORT. The frame list in draw order (R135), the arbiter's first test (R139), and a marker's ink (R147). -/

namespace Sys2Proof.Machine

variable {s : State} {curs : List CurLatch} {o x : FrameObj} {l : List FrameObj} {c : Contender} {cs : List Contender}
  {i n : Nat}

/-! ## Draw order (R135) -/

theorem drawnBefore_trans {a b c : FrameObj} (h : drawnBefore a b) (h' : drawnBefore b c) : drawnBefore a c := by
  unfold drawnBefore at *
  omega

/-- Two objects of different instances are drawn one before the other. -/
theorem drawnBefore_of_not (h : ¬ drawnBefore o x) (hne : x.inst ≠ o.inst) : drawnBefore x o := by
  unfold drawnBefore at *
  omega

theorem insertObject_before (h : drawnBefore o x) (l : List FrameObj) : insertObject o (x :: l) = o :: x :: l := if_pos h

theorem insertObject_after (h : ¬ drawnBefore o x) (l : List FrameObj) :
    insertObject o (x :: l) = x :: insertObject o l := if_neg h

theorem insertObject_perm (o : FrameObj) (l : List FrameObj) : (insertObject o l).Perm (o :: l) := by
  induction l with
  | nil => rfl
  | cons x l ih =>
    by_cases h : drawnBefore o x
    · rw [insertObject_before h]
    · rw [insertObject_after h]
      exact (ih.cons x).trans (.swap o x l)

theorem insertObject_pairwise (hl : l.Pairwise drawnBefore) (hne : ∀ x ∈ l, x.inst ≠ o.inst) :
    (insertObject o l).Pairwise drawnBefore := by
  induction l with
  | nil => exact List.pairwise_singleton _ o
  | cons x l ih =>
    obtain ⟨hx, hl'⟩ := List.pairwise_cons.1 hl
    obtain ⟨hxo, hlo⟩ := List.forall_mem_cons.1 hne
    by_cases h : drawnBefore o x
    · rw [insertObject_before h]
      exact .cons (List.forall_mem_cons.2 ⟨h, fun y hy => drawnBefore_trans h (hx y hy)⟩) hl
    · rw [insertObject_after h]
      refine .cons (fun y hy => ?_) (ih hl' hlo)
      obtain rfl | hy := List.mem_cons.1 ((insertObject_perm o l).mem_iff.1 hy)
      · exact drawnBefore_of_not h hxo
      · exact hx y hy

theorem foldr_insertObject_perm (l : List FrameObj) : (l.foldr insertObject []).Perm l := by
  induction l with
  | nil => rfl
  | cons o l ih => exact (insertObject_perm o _).trans (ih.cons o)

/-- Objects of different instances inserted in turn stand in draw order. -/
theorem foldr_insertObject_pairwise (h : (l.map (·.inst)).Nodup) : (l.foldr insertObject []).Pairwise drawnBefore := by
  induction l with
  | nil => exact .nil
  | cons o l ih =>
    obtain ⟨ho, hl⟩ := List.nodup_cons.1 h
    refine insertObject_pairwise (ih hl) fun x hx hxo => ho ?_
    exact List.mem_map.2 ⟨x, (foldr_insertObject_perm l).mem_iff.1 hx, hxo⟩

/-! ## The frame list (R135) -/

/-- The live visible objects, ascending. -/
def State.visibleObjects (s : State) : List Nat := (s.liveOf .object).filter fun i => isOn (s.get (Fld.obVisible i))

theorem mem_visibleObjects : i ∈ s.visibleObjects ↔ i < 64 ∧ s.isLive .object i = true ∧ s.get (Fld.obVisible i) ≠ 0 := by
  rw [State.visibleObjects, List.mem_filter, State.liveOf, List.mem_filter, List.mem_range, isOn_iff, and_assoc]
  rfl

theorem frameList_eq (s : State) (curs : List CurLatch) :
    frameList s curs = (s.visibleObjects.map (latchObject s curs)).foldr insertObject [] := rfl

theorem insts_latchObject (s : State) (curs : List CurLatch) (l : List Nat) :
    (l.map (latchObject s curs)).map (·.inst) = l := by
  rw [List.map_map]
  exact List.map_id l

theorem frameList_pairwise (s : State) (curs : List CurLatch) : (frameList s curs).Pairwise drawnBefore := by
  rw [frameList_eq]
  refine foldr_insertObject_pairwise ?_
  rw [insts_latchObject]
  exact (List.nodup_range.filter _).filter _

theorem frameList_insts (s : State) (curs : List CurLatch) :
    ((frameList s curs).map (·.inst)).Perm s.visibleObjects := by
  rw [frameList_eq]
  exact ((foldr_insertObject_perm _).map _).trans (.of_eq (insts_latchObject s curs _))

/-! ## The arbiter's first test (R139) -/

theorem winner_eq_none : winner cs = none ↔ cs = [] := by
  cases cs with
  | nil => exact iff_of_true rfl rfl
  | cons c cs =>
    refine iff_of_false (fun h => ?_) (List.cons_ne_nil c cs)
    unfold winner at h
    split at h
    · cases h
    · split at h <;> cases h

/-- The winner is a contender, and none is on a higher layer. -/
theorem winner_highest (h : winner cs = some c) : c ∈ cs ∧ ∀ d, d ∈ cs → d.layer ≤ c.layer := by
  induction cs generalizing c with
  | nil => cases h
  | cons x cs ih =>
    unfold winner at h
    split at h
    · next hnone =>
      cases h
      rw [winner_eq_none.1 hnone]
      exact ⟨.head _, List.forall_mem_singleton.2 le_rfl⟩
    · next d hd =>
      obtain ⟨hmem, hle⟩ := ih hd
      split at h
      · next hlt =>
        cases h
        exact ⟨.tail _ hmem, List.forall_mem_cons.2 ⟨hlt.le, hle⟩⟩
      · next hlt =>
        cases h
        exact ⟨.head _, List.forall_mem_cons.2 ⟨le_rfl, fun e he => (hle e he).trans (not_lt.1 hlt)⟩⟩

/-! ## A marker's ink (R147) -/

theorem markerReach_le (g axis : Nat) : markerReach g axis ≤ 7 := Nat.min_le_left _ _

/-- The place that has ink on a side lies within the extent. -/
theorem markerTouch_mem (g side : Nat) (hn : n ≤ 7) : 7 - n ≤ markerTouch g side n ∧ markerTouch g side n ≤ 7 + n := by
  have h : Config.markerTouch g side % (2 * n + 1) < 2 * n + 1 := Nat.mod_lt _ (Nat.zero_lt_succ _)
  unfold markerTouch
  omega

/-- Ink lies within the extent, on each of its sides, and at the centre of a shape that covers it. -/
theorem markerInk_iff (g x y : Nat) : markerInk g x y = true ↔
    (7 - markerReach g 0 ≤ x ∧ x ≤ 7 + markerReach g 0 ∧ 7 - markerReach g 1 ≤ y ∧ y ≤ 7 + markerReach g 1)
    ∧ (Config.markerInk g x y = true ∨ (coversCentre g = true ∧ x = 7 ∧ y = 7)
      ∨ (x = 7 - markerReach g 0 ∧ y = markerTouch g 0 (markerReach g 1))
      ∨ (x = 7 + markerReach g 0 ∧ y = markerTouch g 1 (markerReach g 1))
      ∨ (y = 7 - markerReach g 1 ∧ x = markerTouch g 2 (markerReach g 0))
      ∨ (y = 7 + markerReach g 1 ∧ x = markerTouch g 3 (markerReach g 0))) := by
  simp only [markerInk, Bool.and_eq_true, Bool.or_eq_true, decide_eq_true_eq, beq_iff_eq, or_assoc, and_assoc]

/-- A shape has ink on each side of its extent. -/
theorem markerInk_sides (g : Nat) :
    markerInk g (7 - markerReach g 0) (markerTouch g 0 (markerReach g 1)) = true
    ∧ markerInk g (7 + markerReach g 0) (markerTouch g 1 (markerReach g 1)) = true
    ∧ markerInk g (markerTouch g 2 (markerReach g 0)) (7 - markerReach g 1) = true
    ∧ markerInk g (markerTouch g 3 (markerReach g 0)) (7 + markerReach g 1) = true := by
  have hleft := markerTouch_mem g 0 (markerReach_le g 1)
  have hright := markerTouch_mem g 1 (markerReach_le g 1)
  have htop := markerTouch_mem g 2 (markerReach_le g 0)
  have hbottom := markerTouch_mem g 3 (markerReach_le g 0)
  simp only [markerInk_iff]
  refine ⟨⟨by omega, ?_⟩, ⟨by omega, ?_⟩, ⟨by omega, ?_⟩, by omega, ?_⟩
  all_goals simp

theorem markerInk_centre {g : Nat} (h : coversCentre g = true) : markerInk g 7 7 = true :=
  (markerInk_iff g 7 7).2 ⟨by omega, .inr (.inl ⟨h, rfl, rfl⟩)⟩

/-- A marker's ink is its shape's, whose extent lies within the cell (R146). -/
theorem ink_marker (h : o.field 0 = 5) (x y : Nat) : o.ink x y = markerInk (o.field 9).toNat x y := by
  have hink : o.ink x y = (decide (x < 16 ∧ y < 16) && markerInk (o.field 9).toNat x y) := by simp [FrameObj.ink, h]
  have hcell : markerInk (o.field 9).toNat x y = true → x < 16 ∧ y < 16 := fun hi => by
    obtain ⟨hextent, -⟩ := (markerInk_iff _ x y).1 hi
    have hw := markerReach_le (o.field 9).toNat 0
    have hh := markerReach_le (o.field 9).toNat 1
    omega
  rw [hink]
  exact Bool.and_eq_right_iff_imp.2 fun hi => decide_eq_true (hcell hi)

theorem coversCentre_shape {v : Int} (h : v = 0 ∨ v = 1 ∨ v = 3 ∨ v = 11) : coversCentre v.toNat = true := by
  obtain rfl | rfl | rfl | rfl := h <;> decide

end Sys2Proof.Machine

/-! ## The statement -/

open Sys2Proof Sys2Proof.Machine

/-- Settles O47: insertion keeps the frame list in draw order, the winner is a highest contender, and a marker's extent
reaches as far to either side of its centre. -/
theorem drawOrderAndWinner : Obligations.DrawOrderAndWinner := by
  refine ⟨fun s curs => ⟨frameList_pairwise s curs, fun i => ?_⟩, fun cs c => winner_highest, fun cs => winner_eq_none,
    fun o ho => ?_⟩
  · rw [← mem_visibleObjects, ← (frameList_insts s curs).mem_iff, List.mem_map]
  · obtain ⟨hleft, hright, htop, hbottom⟩ := markerInk_sides (o.field 9).toNat
    simp only [ink_marker ho]
    exact ⟨_, _, markerReach_le _ 0, markerReach_le _ 1, fun x y hi => ((markerInk_iff _ x y).1 hi).1,
      ⟨_, hleft⟩, ⟨_, hright⟩, ⟨_, htop⟩, ⟨_, hbottom⟩, fun h => markerInk_centre (coversCentre_shape h)⟩
end

section
/-! SUPPORT. Four significant digits: the decimal digits of a magnitude and its half-up quotient (R159). -/

namespace Sys2Proof.Machine

variable {n k : Nat}

/-! ## Decimal digits (R159 step 2) -/

/-- A fuel that bounds the digits after the first counts all of them. -/
theorem digitsFrom_eq_log : ∀ {fuel n : Nat}, n < 10 ^ (fuel + 1) → digitsFrom fuel n = Nat.log 10 n + 1
  | 0, n, h => by rw [digitsFrom, Nat.log_of_lt (by simpa using h)]
  | fuel + 1, n, h => by
    rw [digitsFrom]
    split
    next hone => rw [Nat.log_of_lt hone]
    next hmore =>
      have hrest : n / 10 < 10 ^ (fuel + 1) := Nat.div_lt_of_lt_mul (by rwa [pow_succ'] at h)
      rw [digitsFrom_eq_log hrest, Nat.log_of_one_lt_of_le (by decide) (Nat.le_of_not_lt hmore)]

theorem digitCount_eq_log (n : Nat) : digitCount n = Nat.log 10 n + 1 :=
  digitsFrom_eq_log ((Nat.lt_pow_self (by decide)).trans (Nat.pow_lt_pow_succ (by decide)))

theorem lt_ten_pow_digitCount (n : Nat) : n < 10 ^ digitCount n := by
  rw [digitCount_eq_log]
  exact Nat.lt_pow_succ_log_self (by decide) n

theorem ten_pow_le_of_digitCount (h : 0 < n) (hg : digitCount n = k + 1) : 10 ^ k ≤ n := by
  rw [digitCount_eq_log, Nat.add_right_cancel_iff] at hg
  exact hg ▸ Nat.pow_log_le_self 10 h.ne'

/-! ## The half-up quotient (R159 step 3) -/

/-- n in units of u, a half rounded up. -/
def halfUp (n u : Nat) : Nat := (2 * n + u) / (2 * u)

theorem halfUp_within {u : Nat} (hu : 0 < u) :
    2 * n < (2 * halfUp n u + 1) * u ∧ (2 * halfUp n u - 1) * u ≤ 2 * n := by
  have hle : halfUp n u * (2 * u) ≤ 2 * n + u := Nat.div_mul_le_self ..
  have hlt : 2 * n + u < (halfUp n u + 1) * (2 * u) := Nat.lt_mul_of_div_lt (Nat.lt_succ_self _) (by omega)
  rw [Nat.sub_mul, Nat.sub_le_iff_le_add]
  constructor <;> linarith

/-- The quotient can round up to a fifth digit, which step 4 then removes. -/
theorem halfUp_range (hlow : 10 ^ (k + 3) ≤ n) (hhigh : n < 10 ^ (k + 4)) :
    1000 ≤ halfUp n (10 ^ k) ∧ halfUp n (10 ^ k) ≤ 10000 := by
  have hu : 0 < 10 ^ k := by positivity
  rw [pow_add] at hlow hhigh
  exact ⟨(Nat.le_div_iff_mul_le (by omega)).2 (by omega), Nat.le_of_lt_succ ((Nat.div_lt_iff_lt_mul (by omega)).2 (by omega))⟩

/-! ## Four digits and the power of the last (R159 steps 3 and 4) -/

/-- A value of fewer than four digits, filled with zeros, has four. -/
theorem filled_range (h : 0 < n) (hg : digitCount n = k + 1) (hk : k < 3) :
    1000 ≤ n * 10 ^ (3 - k) ∧ n * 10 ^ (3 - k) < 10000 := by
  have hlow := Nat.mul_le_mul_right (10 ^ (3 - k)) (ten_pow_le_of_digitCount h hg)
  have hhigh := Nat.mul_lt_mul_of_pos_right (hg ▸ lt_ten_pow_digitCount n) (by positivity : 0 < 10 ^ (3 - k))
  rw [← pow_add, show k + (3 - k) = 3 by omega] at hlow
  rw [← pow_add, show k + 1 + (3 - k) = 4 by omega] at hhigh
  exact ⟨hlow, hhigh⟩

theorem fourDigits_of_short (h : 0 < n) (hg : digitCount n = k + 1) (hk : k < 3) :
    fourDigits n = (n * 10 ^ (3 - k), (k : Int) - 3) := by
  have hfull : n * 10 ^ (3 - k) ≠ 10000 := (filled_range h hg hk).2.ne
  have hexp : 4 - (k + 1) = 3 - k := by omega
  have hpow : ((k + 1 : Nat) : Int) - 4 = k - 3 := by omega
  simp only [fourDigits, hg, if_neg (by omega : ¬ 4 ≤ k + 1), hexp, hpow, if_neg hfull]

theorem fourDigits_of_long (hg : digitCount n = k + 4) :
    fourDigits n = if halfUp n (10 ^ k) = 10000 then (1000, (k : Int) + 1) else (halfUp n (10 ^ k), (k : Int)) := by
  have hpow : ((k + 4 : Nat) : Int) - 4 = k := by omega
  simp only [fourDigits, hg, if_pos (Nat.le_add_left 4 k), Nat.add_sub_cancel, hpow]
  rfl

end Sys2Proof.Machine

/-! ## The statement -/

open Sys2Proof Sys2Proof.Machine

/-- Settles O48: a short value is filled with zeros, a long one is its half-up quotient, and a quotient of 10000 is 1000 at the
next power. -/
theorem fourSignificantDigits : Obligations.FourSignificantDigits := by
  intro n h
  obtain ⟨g, hg⟩ : ∃ g, digitCount n = g + 1 := ⟨_, digitCount_eq_log n⟩
  obtain hshort | ⟨k, rfl⟩ := (Nat.lt_or_ge g 3).imp_right Nat.exists_eq_add_of_le'
  · obtain ⟨hlow, hhigh⟩ := filled_range h hg hshort
    have hexp : (-((g : Int) - 3)).toNat = 3 - g := by omega
    rw [fourDigits_of_short h hg hshort]
    exact ⟨hlow, Nat.le_of_lt_succ hhigh, fun _ => by rw [hexp], fun hs => absurd hs (by simp only; omega)⟩
  · obtain ⟨hlow, hhigh⟩ := halfUp_range (ten_pow_le_of_digitCount h hg) (hg ▸ lt_ten_pow_digitCount n)
    obtain ⟨hbelow, habove⟩ := halfUp_within (n := n) (by positivity : 0 < 10 ^ k)
    rw [fourDigits_of_long hg]
    split
    next hcarry =>
      have hnext : ((k : Int) + 1).toNat = k + 1 := by omega
      rw [hcarry] at hbelow habove
      simp only [hnext, pow_succ]
      omega
    next hkeep =>
      exact ⟨hlow, by simp only; omega, fun hs => absurd hs (by simp only; omega),
        fun _ => by simpa only [Int.toNat_natCast] using ⟨hbelow, habove⟩⟩
end

section
/-! SUPPORT. The flash canonical and the directory whole (R161, R163) under every command. -/

namespace Sys2Proof.Machine

variable {s t u : State}

/-! ## The setup unit whole -/

/-- The flash in its canonical form, a directory of 16 entries, and the operation's slot one of them (R161, R163). -/
structure Setup.Whole (u : Setup) : Prop where
  flash : Memory.wf u.flash = true
  dir   : u.dir.length = 16
  slot  : u.slot < 16

theorem flashKept_iff : s.flashKept = true ↔ s.setup.Whole := by
  simp only [State.flashKept, Bool.and_eq_true, beq_iff_eq, decide_eq_true_eq]
  exact ⟨fun ⟨⟨hflash, hdir⟩, hslot⟩ => ⟨hflash, hdir, hslot⟩, fun h => ⟨⟨h.flash, h.dir⟩, h.slot⟩⟩

/-- An activity that changes never reach leaves the setup unit as it was. -/
theorem whole_shell (ht : t.shell = s.shell) (h : s.setup.Whole) : t.setup.Whole := shell_setup ht ▸ h

/-- Whatever comes next has its setup unit whole. -/
def OutWhole (o : Out) : Prop := ∀ t, o = .next t → t.setup.Whole

theorem outWhole_next (h : t.setup.Whole) : OutWhole (.next t) := fun _ hu => by cases hu; exact h

theorem outWhole_awake (hs : s.setup.Whole) (ht : t.setup.Whole) : OutWhole (awake s t) := by
  unfold awake
  split <;> exact outWhole_next ‹_›

/-- What a link command leaves is what its own answer leaves (R181). -/
theorem outWhole_takeCommand {i : Instr} {body : State → Reply} (h : s.setup.Whole) (hbody : (body s).st.setup.Whole) :
    OutWhole (takeCommand i body s) := by
  obtain hc | ⟨-, hc⟩ | ⟨-, -, hc⟩ := takeCommand_cases (i := i) (body := body) (s := s) <;> rw [hc]
  · exact outWhole_next h
  · exact outWhole_next h
  · exact outWhole_next hbody

/-! ## Commands of the other blocks -/

theorem outWhole_read (handle : BitVec 16) (field option : Byte) (h : s.setup.Whole) :
    OutWhole (execRead handle field option s) := by
  refine outWhole_takeCommand h ?_
  split
  · exact h
  · split <;> exact h

theorem whole_numericWrite {f : FieldId} {sp : FieldSpec} {v : Int} (h : s.setup.Whole) :
    (numericWrite f sp v s).st.setup.Whole := by
  unfold numericWrite
  dsimp only
  split
  · exact h
  · split
    · exact h
    · next t ht => exact whole_shell (shell_storeWrite ht) h

theorem outWhole_write (handle : BitVec 16) (field : Byte) (value : BitVec 64) (h : s.setup.Whole) :
    OutWhole (execWrite handle field value s) := by
  refine outWhole_takeCommand h ?_
  split
  · exact h
  · exact whole_numericWrite h

theorem outWhole_writeText (handle : BitVec 16) (field : Byte) (text : List Byte) (h : s.setup.Whole) :
    OutWhole (execWriteText handle field text s) := by
  refine outWhole_takeCommand h ?_
  split
  · exact h
  · split
    · exact h
    · split
      · exact h
      · split
        · exact h
        · next t ht => exact whole_shell (shell_storeWrite ht) h

theorem outWhole_create (kind objectKind : Byte) (h : s.setup.Whole) : OutWhole (execCreate kind objectKind s) := by
  refine outWhole_takeCommand h ?_
  split
  · exact h
  · split
    · exact h
    · split
      · exact h
      · exact whole_shell (by simp [accept]) h

theorem outWhole_retire (handle : BitVec 16) (h : s.setup.Whole) : OutWhole (execRetire handle s) := by
  refine outWhole_takeCommand h ?_
  dsimp only
  split
  · exact h
  · split
    · exact h
    · split
      · exact h
      · exact whole_shell (shell_examine.trans (shell_retireRec _ _)) h

theorem outWhole_groupOpen (g : Byte) (h : s.setup.Whole) : OutWhole (execGroupOpen g s) := by
  refine outWhole_takeCommand h ?_
  split
  · exact h
  · split <;> exact h

theorem outWhole_groupLaunch (g : Byte) (h : s.setup.Whole) : OutWhole (execGroupLaunch g s) := by
  refine outWhole_takeCommand h ?_
  split
  · exact h
  · split
    · exact h
    · unfold launchGroup
      dsimp only
      split
      · exact h
      · split
        · exact h
        · exact whole_shell (shell_joinQueue (s := setGroup _ _ s) _ _) h

theorem outWhole_groupDiscard (g : Byte) (h : s.setup.Whole) : OutWhole (execGroupDiscard g s) := by
  refine outWhole_takeCommand h ?_
  split
  · exact h
  · split <;> exact h

theorem outWhole_force (h : s.setup.Whole) : OutWhole (execForce s) := by
  refine outWhole_takeCommand h ?_
  split
  · next t ht => exact whole_shell (shell_takeForce ht) h
  · exact h

theorem outWhole_columns (ch : Byte) (first count : BitVec 16) (h : s.setup.Whole) :
    OutWhole (execColumns ch first count s) := by
  refine outWhole_takeCommand h ?_
  split
  · exact h
  · split <;> exact h

theorem outWhole_csNFall (h : s.setup.Whole) : OutWhole (execCsNFall s) := by
  refine outWhole_next ?_
  split
  · exact h
  · split <;> exact h

theorem outWhole_commandByte (byte : Byte) (h : s.setup.Whole) : OutWhole (execCommandByte byte s) := by
  refine outWhole_awake h ?_
  split
  · split <;> exact h
  · exact h

theorem outWhole_parameterByte (byte : Byte) (h : s.setup.Whole) : OutWhole (execParameterByte byte s) := by
  refine outWhole_awake h ?_
  split
  · split
    · exact h
    · split <;> exact h
  · exact h

theorem outWhole_unknownCommand (byte : Byte) (h : s.setup.Whole) : OutWhole (execUnknownCommand byte s) := by
  refine outWhole_awake h ?_
  split <;> exact h

theorem panelSubtract_setup (snap : PanelSnap) : (panelSubtract snap s).setup = s.setup := by
  unfold panelSubtract
  dsimp only
  split <;> split <;> rfl

theorem outWhole_responseEnd (h : s.setup.Whole) : OutWhole (execResponseEnd s) := by
  refine outWhole_awake h ?_
  split
  · dsimp only
    split
    · exact h
    · rw [panelSubtract_setup]; exact h
    · exact h
  · exact h

/-! ## The sample path, the timers and the controls -/

theorem closePeriod_setup : (closePeriod s).setup = s.setup := by
  unfold closePeriod
  dsimp only
  split
  · exact shell_setup shell_columnComplete
  · rfl

theorem lockWord_setup (p : Nat) (framed : Bool) : (lockWord p framed s).1.setup = s.setup := by
  unfold lockWord
  split
  · split <;> rfl
  · split
    · dsimp only
      split <;> rfl
    · rfl

theorem compareSample_setup (item : Option Sample) : (compareSample item s).setup = s.setup := by
  unfold compareSample
  split
  · rfl
  · split
    · rfl
    · dsimp only
      split <;> rfl

theorem takeItem_setup (p : Nat) (item : Option Sample) : (takeItem p item s).setup = s.setup := by
  unfold takeItem
  dsimp only
  split
  · exact closePeriod_setup
  · rfl

theorem sampleWord_setup (p : Nat) (framed : Bool) (r : Nat) : (sampleWord p framed r s).setup = s.setup := by
  have hopen (b : Bool) : (if b = true then closePeriod s else s).setup = s.setup := by
    split
    · exact closePeriod_setup
    · rfl
  have hcompare (b : Prop) [Decidable b] (item : Option Sample) (u : State) :
      (if b then compareSample item u else u).setup = u.setup := by
    split
    · exact compareSample_setup item
    · rfl
  have hitem (b : Bool) (item : Option Sample) (u : State) : (if b = true then takeItem p item u else u).setup = u.setup := by
    split
    · exact takeItem_setup p item
    · rfl
  exact (hitem _ _ _).trans ((hcompare _ _ _).trans ((lockWord_setup _ _).trans (hopen _)))

theorem outWhole_feFrameLatch (h : s.setup.Whole) : OutWhole (execFeFrameLatch s) := by
  refine outWhole_awake h ?_
  split
  · exact h
  · rw [feStart_eq]; exact h

theorem outWhole_settleExpiry (h : s.setup.Whole) : OutWhole (execSettleExpiry s) := by
  refine outWhole_awake h ?_
  split
  · exact h
  · dsimp only
    split
    · rw [shell_setup shell_captureStart]; exact h
    · exact h

theorem outWhole_holdoffExpiry (h : s.setup.Whole) : OutWhole (execHoldoffExpiry s) := by
  refine outWhole_awake h ?_
  split
  · exact h
  · dsimp only
    split
    · rw [shell_setup shell_captureStart]; exact h
    · exact h

theorem outWhole_autoTimerExpiry (h : s.setup.Whole) : OutWhole (execAutoTimerExpiry s) := by
  refine outWhole_awake h ?_
  split
  · exact h
  · dsimp only
    split <;> exact h

theorem outWhole_passCompletion (h : s.setup.Whole) : OutWhole (execPassCompletion s) := by
  refine outWhole_awake h ?_
  split
  · exact h
  · exact whole_shell ((shell_passFinish _ _ _).trans (shell_of_unmeasured (unmeasured_completeMembers _ _ (s, false)))) h

/-- No turn of a key or an encoder reaches the setup unit. -/
theorem whole_turns {α : Type} {g : State → α → State} (hg : ∀ s x, (g s x).offTable = s.offTable) (l : List α)
    (h : s.setup.Whole) : (l.foldl g s).setup.Whole :=
  (of_offTable (foldl_keeps State.offTable g hg l s)).1 ▸ h

theorem retryCarry_offTable (e : Nat) : (retryCarry e s).offTable = s.offTable := by
  obtain hr | ⟨n, -, -, hr⟩ := retryCarry_cases e s
  · exact offTable_adjusts hr
  · rw [hr, State.offTable, shell_setCarry]; rfl

theorem outWhole_carryRetry (h : s.setup.Whole) : OutWhole (execCarryRetry s) := by
  refine outWhole_awake h ?_
  split
  · exact whole_turns (fun _ e => retryCarry_offTable e) _ h
  · exact h

/-! ## The renderer -/

theorem outWhole_frameStart (h : s.setup.Whole) : OutWhole (execFrameStart s) := by
  refine outWhole_awake h ?_
  split
  · exact h
  · dsimp only
    split
    · exact h
    · have hlends (u : State) : (frameLends u).shell = u.shell := by simp [frameLends]
      rw [shell_setup (hlends _)]
      exact h

theorem outWhole_line (y : Fin 600) (h : s.setup.Whole) : OutWhole (execLine y s) := by
  refine outWhole_awake h ?_
  split
  · exact h
  · split <;> exact h

theorem outWhole_frameEnd (h : s.setup.Whole) : OutWhole (execFrameEnd s) := by
  refine outWhole_awake h ?_
  split
  · exact h
  · split
    · exact h
    · dsimp only
      rw [setVal_setup, shell_setup (shell_raiseIf _ _), setVal_setup,
        shell_setup (shell_forChannels _ (fun _ _ => shell_releaseLend _ _) _)]
      exact h

/-! ## The setup unit -/

theorem whole_setFlash {m : Memory} (hm : Memory.wf m = true) (h : s.setup.Whole) : (setFlash m s).setup.Whole :=
  ⟨hm, h.dir, h.slot⟩

theorem whole_setDir (slot : Nat) (e : DirEntry) (h : s.setup.Whole) : (setDir slot e s).setup.Whole :=
  ⟨h.flash, (List.length_set ..).trans h.dir, h.slot⟩

theorem whole_setDirState (slot : Nat) (st : DirState) (h : s.setup.Whole) : (setDirState slot st s).setup.Whole :=
  ⟨h.flash, (List.length_modify ..).trans h.dir, h.slot⟩

theorem whole_endOp (r : SetupResult) (h : s.setup.Whole) : (endOp r s).setup.Whole := ⟨h.flash, h.dir, h.slot⟩

theorem whole_beginOp (op : SetupOp) {slot : Nat} (p : Phase) (hslot : slot < 16) (h : s.setup.Whole) :
    (beginOp op slot p s).setup.Whole := ⟨h.flash, h.dir, hslot⟩

theorem whole_failedAttempt (h : s.setup.Whole) : (failedAttempt s).setup.Whole := by
  unfold failedAttempt
  split
  · exact ⟨h.flash, h.dir, h.slot⟩
  · exact whole_endOp _ h

theorem whole_entryDone (h : s.setup.Whole) : (entryDone s).setup.Whole := by
  unfold entryDone
  dsimp only
  split <;> exact ⟨h.flash, h.dir, h.slot⟩

theorem whole_firstStepMayBegin (h : s.setup.Whole) : (firstStepMayBegin s).setup.Whole := by
  rw [firstStepMayBegin_setup]
  exact ⟨h.flash, firstStepMayBegin_dir_length s |>.trans h.dir, h.slot⟩

theorem whole_beginRecall {slot : Nat} (hslot : slot < 16) (h : s.setup.Whole) : (beginRecall slot s).setup.Whole := by
  unfold beginRecall
  dsimp only
  split <;> exact whole_beginOp .recall .readHeader hslot h

theorem whole_startRecord (r : SetupResult) (c : Counts) (h : s.setup.Whole) : (startRecord r c s).setup.Whole :=
  ⟨h.flash, h.dir, h.slot⟩

theorem whole_startSetup (h : s.setup.Whole) : (startSetup s).setup.Whole := by
  unfold startSetup
  split
  · exact whole_beginRecall (by decide) h
  · exact whole_startRecord _ _ ⟨h.flash, h.dir, h.slot⟩

theorem whole_startCalDone (r : StartResult) (h : s.setup.Whole) : (startCalDone r s).setup.Whole := by
  refine whole_startSetup ?_
  rw [shell_setup (shell_raiseIf _ _)]
  exact ⟨h.flash, h.dir, h.slot⟩

theorem whole_startCalibration (h : s.setup.Whole) : (startCalibration s).setup.Whole := by
  unfold startCalibration
  split
  · exact whole_beginRecall (by decide) h
  · exact whole_startCalDone _ h

theorem whole_endRecall (r : SetupResult) (h : s.setup.Whole) : (endRecall r s).setup.Whole := by
  unfold endRecall
  split
  · split
    · exact whole_startCalDone _ h
    · exact whole_startRecord _ _ ⟨h.flash, h.dir, h.slot⟩
  · exact whole_endOp _ h

theorem whole_failHeader (h : s.setup.Whole) : (failHeader s).setup.Whole := by
  have hbad := whole_setDirState s.setup.slot .bad h
  refine whole_endRecall _ ?_
  split <;> exact hbad

theorem whole_launch3 (h : s.setup.Whole) : (launch3 s).setup.Whole := by
  unfold launch3
  dsimp only
  split
  · exact whole_endRecall _ h
  · split
    · exact ⟨h.flash, h.dir, h.slot⟩
    · refine whole_shell (shell_joinQueue _ _) (whole_endRecall _ ?_)
      cases decide (0 < (s.store.group 3).reserved) <;> exact h

theorem whole_endReading (h : s.setup.Whole) : (endReading s).setup.Whole := by
  unfold endReading
  split
  · exact whole_endRecall _ (whole_shell (shell_foldl _ (fun _ _ => shell_configWrite _ _) _ _) h)
  · exact whole_launch3 h

theorem whole_takeEntry (f : FieldId) (v : Int) (h : s.setup.Whole) : (takeEntry f v s).setup.Whole := by
  unfold takeEntry
  dsimp only
  split <;> exact ⟨h.flash, h.dir, h.slot⟩

theorem whole_modCounts (g : Counts → Counts) (h : s.setup.Whole) : (modCounts g s).setup.Whole :=
  ⟨h.flash, h.dir, h.slot⟩

theorem whole_standingEntry (data : List Byte) (h : s.setup.Whole) : (standingEntry data s).setup.Whole := by
  unfold standingEntry
  dsimp only
  split
  · exact whole_modCounts _ h
  · split <;> split
    · exact whole_takeEntry _ _ h
    · exact whole_modCounts _ h
    · exact whole_takeEntry _ _ h
    · exact whole_modCounts _ h

theorem whole_readEntry (flips : Flips) (h : s.setup.Whole) : (readEntry flips s).setup.Whole := by
  have hplace : (modSetup (fun u => { u with place := u.place + 1 }) s).setup.Whole := ⟨h.flash, h.dir, h.slot⟩
  unfold readEntry
  dsimp only
  split
  · exact whole_standingEntry _ hplace
  · exact whole_standingEntry _ (whole_modCounts _ hplace)
  · exact whole_modCounts _ hplace

/-- A flash step cut off leaves a canonical flash (R165, R169). -/
theorem whole_stopFlash (h : s.setup.Whole) : (stopFlash s).setup.Whole := ⟨wf_flashCut h.flash, h.dir, h.slot⟩

theorem whole_cutTidy (h : s.setup.Whole) : (cutTidy s).setup.Whole := by
  have hbad := whole_setDirState s.setup.slot .bad h
  unfold cutTidy
  split
  case h_5 =>
    split
    · exact hbad
    · exact whole_setDir _ _ h
  case h_6 | h_7 | h_8 => split <;> exact h
  case h_9 => exact h
  all_goals exact hbad

theorem whole_cutOff (r : SetupResult) (h : s.setup.Whole) : (cutOff r s).setup.Whole :=
  whole_endOp r (whole_cutTidy (whole_stopFlash (whole_firstStepMayBegin h)))

/-- SAVE and ERASE take no slot but the 16 of the directory (R164). -/
theorem slot_lt_of_flashCheck {slot : Nat} {cal : Bool} (h : s.flashCheck slot cal = none) : slot < 16 := by
  by_contra hn
  rw [State.flashCheck, if_pos (Nat.not_lt.1 hn)] at h
  cases h

theorem slot_lt_of_recallCheck {slot : Nat} (h : s.recallCheck slot = none) : slot < 16 := by
  by_contra hn
  rw [State.recallCheck, if_pos (Nat.not_lt.1 hn)] at h
  cases h

theorem outWhole_save (slot : Byte) (cal : Bool) (h : s.setup.Whole) : OutWhole (execSave slot cal s) := by
  refine outWhole_takeCommand h ?_
  split
  · exact h
  · next hcheck => exact ⟨h.flash, h.dir, slot_lt_of_flashCheck hcheck⟩

theorem outWhole_erase (slot : Byte) (cal : Bool) (h : s.setup.Whole) : OutWhole (execErase slot cal s) := by
  refine outWhole_takeCommand h ?_
  split
  · exact h
  · next hcheck => exact whole_beginOp _ _ (slot_lt_of_flashCheck hcheck) h

theorem outWhole_recall (slot : Byte) (h : s.setup.Whole) : OutWhole (execRecall slot s) := by
  refine outWhole_takeCommand h ?_
  split
  · exact h
  · next hcheck => exact whole_beginRecall (slot_lt_of_recallCheck hcheck) h

theorem outWhole_abort (h : s.setup.Whole) : OutWhole (execAbort s) := by
  refine outWhole_takeCommand h ?_
  split
  · exact h
  · exact whole_cutOff _ h

theorem outWhole_supplyFall (h : s.setup.Whole) : OutWhole (execSupplyFall s) := by
  have hlow : (raise .supplyLow (modSetup (fun u => { u with supplyLow := true }) s)).setup.Whole :=
    ⟨h.flash, h.dir, h.slot⟩
  refine outWhole_awake h ?_
  split
  · exact h
  · dsimp only
    split
    · exact whole_cutOff _ hlow
    · exact hlow

theorem outWhole_pumpCheck (ok : Bool) (h : s.setup.Whole) : OutWhole (execPumpCheck ok s) := by
  refine outWhole_awake h ?_
  split
  · split
    · exact ⟨h.flash, h.dir, h.slot⟩
    · exact whole_endOp _ h
  · exact h

theorem outWhole_voidMark (h : s.setup.Whole) : OutWhole (execVoidMark s) := by
  refine outWhole_awake h ?_
  split
  · exact ⟨wf_program h.flash, h.dir, h.slot⟩
  · exact h

theorem outWhole_wipe (h : s.setup.Whole) : OutWhole (execWipe s) := by
  have hflash : Memory.wf (wipeSlot s.setup.slot s.setup.flash) = true := wf_wipe h.flash
  have hwiped := whole_setDir s.setup.slot { state := .erased, count := 0 } (whole_setFlash hflash h)
  refine outWhole_awake h ?_
  split
  · dsimp only
    split
    · exact whole_endOp _ hwiped
    · exact ⟨hwiped.flash, hwiped.dir, hwiped.slot⟩
  · exact h

theorem outWhole_entryProgram (stuck : Flips) (h : s.setup.Whole) : OutWhole (execEntryProgram stuck s) := by
  refine outWhole_awake h ?_
  split
  · split
    · exact h
    · have hbad := whole_setDirState s.setup.slot .bad h
      dsimp only
      split
      · exact whole_entryDone (whole_setFlash (wf_program h.flash) hbad)
      · exact whole_failedAttempt (whole_setFlash (wf_program h.flash) hbad)
  · exact h

theorem outWhole_headerProgram (stuck : Flips) (h : s.setup.Whole) : OutWhole (execHeaderProgram stuck s) := by
  refine outWhole_awake h ?_
  split
  · dsimp only
    split
    · exact ⟨wf_program h.flash, h.dir, h.slot⟩
    · exact whole_failedAttempt (whole_setFlash (wf_program h.flash) h)
  · exact h

theorem outWhole_seal (h : s.setup.Whole) : OutWhole (execSeal s) := by
  refine outWhole_awake h ?_
  split
  · exact whole_endOp _ (whole_setDir _ _ (whole_setFlash (wf_program h.flash) h))
  · exact h

theorem outWhole_headerReread (flips : Flips) (h : s.setup.Whole) : OutWhole (execHeaderReread flips s) := by
  refine outWhole_awake h ?_
  split
  · dsimp only
    split
    · exact whole_failHeader h
    · split
      · split
        · exact whole_endReading h
        · exact ⟨h.flash, h.dir, h.slot⟩
      · exact whole_failHeader h
  · exact h

theorem outWhole_entryRead (flips : Flips) (h : s.setup.Whole) : OutWhole (execEntryRead flips s) := by
  refine outWhole_awake h ?_
  split
  · dsimp only
    split
    · exact whole_endReading (whole_readEntry flips h)
    · exact whole_readEntry flips h
  · exact h

theorem outWhole_group3LaunchRetry (h : s.setup.Whole) : OutWhole (execGroup3LaunchRetry s) := by
  refine outWhole_awake h ?_
  split
  · exact whole_launch3 h
  · exact h

/-! ## Reset and start-up -/

/-- A reset cuts off the flash step in progress and sets the directory anew (R176, R184). -/
theorem whole_enterReset (cause : Cause) (h : s.setup.Whole) : (enterReset cause s).setup.Whole :=
  ⟨wf_flashCut (whole_firstStepMayBegin h).flash, List.length_replicate .., Nat.zero_lt_succ 15⟩

theorem outWhole_csNRise (clocked : Bool) (h : s.setup.Whole) : OutWhole (execCsNRise clocked s) := by
  have hend : (endResponse (setParser .idle (setCsLow false s))).setup.Whole := by
    unfold endResponse
    split
    · exact h
    · exact h
    · exact whole_enterReset _ h
    · exact h
  refine outWhole_next ?_
  split
  · exact h
  · split
    · exact whole_shell (shell_raiseIf clocked .frameError) h
    · exact h
    · exact hend
    · exact hend
    · exact h

theorem whole_scan (flips : Flips) (h : s.setup.Whole) : (scan flips s).setup.Whole :=
  ⟨h.flash, by simp [scan], h.slot⟩

theorem startFrontEnd_setup : (startFrontEnd s).setup = s.setup := by
  rw [startFrontEnd, settleRequest_setup, shell_setup shell_feStart]
  exact shell_setup (shell_forChannels (fun ch s => fePut ch (s.path.image.getD ch FeSettings.reset) s) (fun _ _ => rfl) s)

theorem whole_release (vsense : Nat) (flips : Flips) (h : s.setup.Whole) : (release vsense flips s).setup.Whole := by
  refine whole_startCalibration (whole_scan flips ?_)
  rw [shell_setup shell_levelRecompute, startFrontEnd_setup, judgeSupply_eq]
  exact ⟨h.flash, h.dir, h.slot⟩

theorem outWhole_resetRelease (vsense : Nat) (flips : Flips) (h : s.setup.Whole) :
    OutWhole (execResetRelease vsense flips s) := by
  refine outWhole_next ?_
  split
  · exact whole_release vsense flips h
  · exact h

theorem outWhole_startupCompletion (h : s.setup.Whole) : OutWhole (execStartupCompletion s) := by
  refine outWhole_awake h ?_
  split
  · rw [shell_setup shell_takeRun]
    exact ⟨h.flash, h.dir, h.slot⟩
  · exact h

/-! ## Every command -/

/-- Every command keeps the flash canonical and the directory whole (R161, R163). -/
theorem outWhole_exec (h : s.setup.Whole) : ∀ i : Instr, OutWhole (exec i s)
  | .nop => outWhole_takeCommand h h
  | .identify => outWhole_takeCommand h h
  | .read handle field option => outWhole_read handle field option h
  | .write handle field value => outWhole_write handle field value h
  | .writeText handle field text => outWhole_writeText handle field text h
  | .create kind objectKind => outWhole_create kind objectKind h
  | .retire handle => outWhole_retire handle h
  | .groupOpen group => outWhole_groupOpen group h
  | .groupLaunch group => outWhole_groupLaunch group h
  | .groupDiscard group => outWhole_groupDiscard group h
  | .groupStatus => show OutWhole (execGroupStatus s) from outWhole_takeCommand h h
  | .run => show OutWhole (execRun s) from outWhole_takeCommand h (whole_shell shell_takeRun h)
  | .stop => show OutWhole (execStop s) from outWhole_takeCommand h (whole_shell shell_takeStop h)
  | .single => show OutWhole (execSingle s) from outWhole_takeCommand h (whole_shell shell_takeSingle h)
  | .force => outWhole_force h
  | .clearStats => show OutWhole (execClearStats s) from outWhole_takeCommand h (whole_shell shell_clearAllStats h)
  | .columns channel first count => outWhole_columns channel first count h
  | .panelRead => show OutWhole (execPanelRead s) from outWhole_takeCommand h h
  | .noticeRead => outWhole_takeCommand h h
  | .noticeClear sources fails => show OutWhole (execNoticeClear sources fails s) from outWhole_takeCommand h h
  | .save slot calEn => outWhole_save slot calEn h
  | .erase slot calEn => outWhole_erase slot calEn h
  | .recallSetup slot => outWhole_recall slot h
  | .abort => outWhole_abort h
  | .setupStatus => show OutWhole (execSetupStatus s) from outWhole_takeCommand h (whole_firstStepMayBegin h)
  | .reset => show OutWhole (execReset s) from outWhole_takeCommand h h
  | .unknownCommand byte => outWhole_unknownCommand byte h
  | .csNFall => outWhole_csNFall h
  | .responseEnd => outWhole_responseEnd h
  | .csNRise clocked => outWhole_csNRise clocked h
  | .powerOn => outWhole_next (whole_enterReset .power h)
  | .resetN => outWhole_next (whole_enterReset .pin h)
  | .supplyReset => outWhole_next (whole_enterReset .supply h)
  | .resetRelease vsense flips => outWhole_resetRelease vsense flips h
  | .startupCompletion => outWhole_startupCompletion h
  | .supplyFall => outWhole_supplyFall h
  | .supplyRise => outWhole_awake h ⟨h.flash, h.dir, h.slot⟩
  | .sampleWord _ _ _ => outWhole_awake h ((sampleWord_setup _ _ _).symm ▸ h)
  | .feFrameLatch => outWhole_feFrameLatch h
  | .settleExpiry => outWhole_settleExpiry h
  | .holdoffExpiry => outWhole_holdoffExpiry h
  | .autoTimerExpiry => outWhole_autoTimerExpiry h
  | .passCompletion => outWhole_passCompletion h
  | .keyScan _ => outWhole_awake h (whole_turns (fun s k => (scanKey_frame _ k s).1) _ h)
  | .encoderSample _ => outWhole_awake h (whole_turns (fun s e => (stepEncoder_frame _ e s).1) _ h)
  | .carryRetry => outWhole_carryRetry h
  | .lampRefresh => outWhole_awake h h
  | .blinkToggle => outWhole_awake h h
  | .frameStart => outWhole_frameStart h
  | .line y => outWhole_line y h
  | .frameEnd => outWhole_frameEnd h
  | .pumpCheck ok => outWhole_pumpCheck ok h
  | .voidMark => outWhole_voidMark h
  | .wipe => outWhole_wipe h
  | .entryProgram stuck => outWhole_entryProgram stuck h
  | .headerProgram stuck => outWhole_headerProgram stuck h
  | .seal => outWhole_seal h
  | .headerReread flips => outWhole_headerReread flips h
  | .entryRead flips => outWhole_entryRead flips h
  | .group3LaunchRetry => outWhole_group3LaunchRetry h
  | .commandByte byte => outWhole_commandByte byte h
  | .parameterByte byte => outWhole_parameterByte byte h

end Sys2Proof.Machine

/-! ## The statement -/

open Sys2Proof Sys2Proof.Machine

/-- Settles O59: a step runs one command, or none, and every command keeps the setup unit whole. -/
theorem stepKeepsFlash : Obligations.StepKeepsFlash := by
  intro s t hs hstep
  have hwhole := flashKept_iff.1 hs
  refine flashKept_iff.2 ?_
  unfold step at hstep
  split at hstep
  · cases hstep
    exact hwhole
  · next c rest _ => exact outWhole_exec (s := { s with pending := rest }) hwhole c t hstep
end

section
/-! SUPPORT. The link during the start-up load (R181), and the load's completion (R178). -/

namespace Sys2Proof.Machine

variable {s : State} {i : Instr}

/-- A command that a frame carries is taken as R181 says; an event has no bytes, so that no parser hears it. -/
theorem exec_of_hears (h : s.hears i = true) : ∃ body, exec i s = takeCommand i body s := by
  obtain ⟨-, hexpects⟩ := hears_iff.1 h
  obtain ⟨code, params, hwire, -⟩ := expects_cases hexpects
  cases i
  case nop | identify | read | write | writeText | create | retire | groupOpen | groupLaunch | groupDiscard | groupStatus
    | run | stop | single | force | clearStats | columns | panelRead | noticeRead | noticeClear | save | erase
    | recallSetup | abort | setupStatus | reset =>
    simp only [exec, execNop, execIdentify, execRead, execWrite, execWriteText, execCreate, execRetire, execGroupOpen,
      execGroupLaunch, execGroupDiscard, execGroupStatus, execRun, execStop, execSingle, execForce, execClearStats,
      execColumns, execPanelRead, execNoticeRead, execNoticeClear, execSave, execErase, execRecall, execAbort,
      execSetupStatus, execReset]
    exact ⟨_, rfl⟩
  all_goals cases hwire

/-- The state that the RUN of the start-up completion is taken in (R178). -/
def State.startDone (s : State) : State := raise .startDone (modSetup (fun u => { u with starting := false }) s)

theorem exec_startupCompletion (hh : s.held = false) (hs : s.setup.starting = true) (hp : s.setup.phase = .idle) :
    exec .startupCompletion s = .next (takeRun s.startDone) :=
  (awake_running hh).trans (congrArg Host.Outcome.next (if_pos ⟨hs, hp⟩))

/-- A RUN moves the combiner and the sweep controller alone (R79). -/
theorem acquires_takeRun : s.acquires (takeRun s) := by
  unfold takeRun
  split
  · by_cases hsettle : s.sweep.settle = none
    · rw [settleOrArm_arm hsettle]
      exact acquires_captureStart
    · rw [settleOrArm_settling hsettle]
      rfl
  · rfl

end Sys2Proof.Machine

/-! ## The statements -/

open Sys2Proof Sys2Proof.Machine

/-- Settles O8: what the load answers does not depend on the command's own body. -/
theorem startingRefusesCommands : Obligations.StartingRefusesCommands := by
  intro i s h hstarting hallowed
  obtain ⟨hheld, hexpects⟩ := hears_iff.1 h
  obtain ⟨body, hexec⟩ := exec_of_hears h
  rw [hexec, takeCommand_starting hheld hexpects hstarting hallowed, respond_refuse]

/-- Settles O13: the completion is a RUN in STOPPED, where the settle timer chooses between SETTLING and a capture start. -/
theorem startupCompletionRuns : Obligations.StartupCompletionRuns := by
  intro s hheld hstarting hphase hacq
  let u := s.startDone
  have hrun : takeRun u = settleOrArm u := if_pos hacq
  have hframe : takeRun u = { u with comb := (takeRun u).comb, sweep := (takeRun u).sweep } := acquires_takeRun
  have hcolumn : u.get Fld.tbTrigColumn = s.get Fld.tbTrigColumn := get_of_store rfl (by decide)
  have hwaits : u.startsWaiting = s.startsWaiting := rfl
  have hdone : u.noticed .startDone = true := (noticed_raise .startDone .startDone).trans (Bool.or_true _)
  refine ⟨takeRun u, exec_startupCompletion hheld hstarting hphase, by rw [hframe]; rfl, ?_, by rw [hframe]; rfl,
    by rw [hframe]; rfl, by rw [hframe]; rfl, by rw [hframe]; rfl, by rw [hframe]; rfl, by rw [hframe]; rfl,
    fun hsettle => ?_, fun hsettle hp => ?_, fun hsettle hp => ?_⟩
  · rw [hframe]
    exact hdone
  · rw [hrun, settleOrArm_settling (s := u) hsettle]
    rfl
  · rw [hrun, settleOrArm_arm (s := u) hsettle, captureStart_arming (hcolumn ▸ hp)]
    exact ⟨rfl, rfl⟩
  · rw [hrun, settleOrArm_arm (s := u) hsettle, captureStart_sweep, State.captureSweep, hcolumn, if_neg (by omega), hwaits]
end

section
/-! SUPPORT. What a flash step cut off leaves of the flash (R165, R169, R191; log 9). -/

namespace Sys2Proof.Machine

variable {m : Memory} {a b free slot : Nat}

@[simp] theorem entryBytes_length (e : Nat × Int) : (entryBytes e).length = 11 := by simp [entryBytes]
@[simp] theorem headerFields_length (slot count : Nat) : (headerFields slot count).length = 15 := by simp [headerFields]
@[simp] theorem bytes_length (m : Memory) (a n : Nat) : (Memory.bytes m a n).length = n := by simp [Memory.bytes]

theorem read_programCut_other {xs : List Byte} (h : b < a ∨ a + xs.length ≤ b) :
    Memory.read (Memory.programCut m free a xs) b = Memory.read m b := by
  induction xs generalizing m a free with
  | nil => rfl
  | cons x xs ih =>
    simp only [List.length_cons] at h
    unfold Memory.programCut
    rw [ih (by omega), read_write_other (by omega)]

theorem read_writeBytes_other {xs : List Byte} (h : b < a ∨ a + xs.length ≤ b) :
    Memory.read (Memory.writeBytes m a xs) b = Memory.read m b := by
  induction xs generalizing m a with
  | nil => rfl
  | cons x xs ih =>
    simp only [List.length_cons] at h
    unfold Memory.writeBytes
    rw [ih (by omega), read_write_other (by omega)]

theorem read_markerCut_other {target other : Byte} {barred : List Byte} (h : b ≠ a) :
    Memory.read (markerCut m free a target barred other) b = Memory.read m b := read_write_other h

theorem read_blanked_other {l : List Nat} (h : b ∉ l) :
    Memory.read (l.foldl (fun m a => Memory.write m a blankByte) m) b = Memory.read m b := by
  induction l generalizing m with
  | nil => rfl
  | cons a l ih =>
    rw [List.mem_cons, not_or] at h
    rw [List.foldl_cons, ih h.2, read_write_other h.1]

/-- An address outside a slot's 2048 bytes (R161, R191). -/
def outsideSlot (slot a : Nat) : Prop := a < slotBase slot ∨ slotBase slot + 2048 ≤ a

/-- A wipe reaches bytes of its own slot alone (R165). -/
theorem not_mem_wipeOrder (h : outsideSlot slot b) : b ∉ wipeOrder slot := by
  intro hmem
  obtain hheader | hplaces := List.mem_append.1 hmem
  · obtain ⟨i, hi, rfl⟩ := List.mem_map.1 hheader
    rw [List.mem_range] at hi
    unfold outsideSlot at h
    omega
  · obtain ⟨l, hl, hb⟩ := List.mem_flatten.1 hplaces
    obtain ⟨i, hi, rfl⟩ := List.mem_map.1 hl
    obtain ⟨j, hj, rfl⟩ := List.mem_map.1 hb
    rw [List.mem_range] at hi hj
    unfold outsideSlot placeBase at h
    omega

theorem read_wipePart_other (h : outsideSlot slot b) : Memory.read (wipePart m free slot) b = Memory.read m b := by
  have hblanked (n : Nat) : b ∉ (wipeOrder slot).take n := fun hb => not_mem_wipeOrder h (List.mem_of_mem_take hb)
  unfold wipePart
  dsimp only
  split
  · next c hc =>
    have hne : b ≠ c := fun hbc => not_mem_wipeOrder h (hbc ▸ List.mem_of_getElem? hc)
    rw [read_write_other hne, read_blanked_other (hblanked _)]
  · exact read_blanked_other (hblanked _)

theorem read_wipeCut_other (h : outsideSlot slot b) : Memory.read (wipeCut m free slot) b = Memory.read m b := by
  have hplace : b < placeBase slot 1 ∨ placeBase slot 1 + 11 ≤ b := by unfold outsideSlot at h; unfold placeBase; omega
  have hpart : Memory.read (wipePart m free slot) b = Memory.read m b := read_wipePart_other h
  unfold wipeCut
  generalize wipePart m free slot = w at hpart
  generalize hold : Memory.bytes m (placeBase slot 1) 11 = old
  have hlength : old.length = 11 := by rw [← hold, bytes_length]
  dsimp only
  split
  · rw [read_writeBytes_other (by rwa [hlength])]
    exact hpart
  · exact hpart

/-- Outside PROGRAMMING a cut-off moves bytes of its slot alone (R169). -/
theorem read_flashCut_outside {u : Setup} (hp : u.phase ≠ .program) (h : outsideSlot u.slot b) :
    Memory.read (flashCut u free).1 b = Memory.read u.flash b := by
  have hmarker : b ≠ slotBase u.slot := by unfold outsideSlot at h; omega
  unfold flashCut
  dsimp only
  split
  · exact read_markerCut_other hmarker
  · exact read_wipeCut_other h
  · next hprogram => exact absurd hprogram hp
  · exact read_programCut_other (by rw [headerFields_length]; unfold outsideSlot at h; omega)
  · exact read_markerCut_other hmarker
  · rfl

/-- In PROGRAMMING a cut-off moves bytes of the entry's place alone (R169). -/
theorem read_flashCut_program {u : Setup} (hp : u.phase = .program)
    (h : b < placeBase u.slot (u.progress + 1) ∨ placeBase u.slot (u.progress + 1) + 11 ≤ b) :
    Memory.read (flashCut u free).1 b = Memory.read u.flash b := by
  unfold flashCut
  rw [hp]
  dsimp only
  split
  · split
    · exact read_programCut_other (by rwa [entryBytes_length])
    · rfl
  · rfl

theorem flashCut_not_writing {u : Setup} (hp : u.phase = .pumpCheck ∨ u.phase.writesFlash = false) :
    (flashCut u free).1 = u.flash := by
  unfold flashCut
  cases hphase : u.phase <;> simp [hphase, Phase.writesFlash] at hp ⊢

/-- Before the first program step there is nothing to cut off (R169). -/
theorem flashCut_not_begun {u : Setup} (hp : u.phase = .program) (hb : programBegun u = false) :
    (flashCut u free).1 = u.flash := by
  unfold flashCut
  rw [hp]
  dsimp only
  rw [hb]
  rfl

end Sys2Proof.Machine
end

section
/-! SUPPORT. A cut-off (R169): the record it ends with, and the flash, the directory and group 3 it leaves. -/

namespace Sys2Proof.Machine

variable {s t u : State} {r : SetupResult}

/-! ## Frames -/

/-- A state that differs from another in the setup unit, the notices and the free values alone. -/
def State.setsUp (s t : State) : Prop := t = { s with setup := t.setup, notices := t.notices, free := t.free }

theorem setsUp_trans (h : s.setsUp t) (h' : t.setsUp u) : s.setsUp u := by
  rw [State.setsUp] at h h' ⊢
  rw [h', h]

theorem store_of_setsUp (h : s.setsUp t) : t.store = s.store := by rw [h]
theorem link_of_setsUp (h : s.setsUp t) : t.link = s.link := by rw [h]

theorem othersKept_of_setsUp (h : s.setsUp t) : s.othersKept t := by
  rw [h]
  exact ⟨rfl, rfl, rfl, rfl, rfl, rfl, rfl, rfl, rfl, rfl⟩

theorem othersKept_emptyGroup3 : s.othersKept (emptyGroup3 s) := ⟨rfl, rfl, rfl, rfl, rfl, rfl, rfl, rfl, rfl, rfl⟩

theorem setsUp_endOp (r : SetupResult) : s.setsUp (endOp r s) := rfl
theorem setsUp_stopFlash : s.setsUp (stopFlash s) := rfl

theorem setsUp_firstStepMayBegin : s.setsUp (firstStepMayBegin s) := by
  rw [State.setsUp, firstStepMayBegin_eq]
  split <;> rfl

/-! ## The end of an operation (R162) -/

theorem endOp_noticed (h : isDone r = false) : (endOp r s).noticed .setupFail = true := by
  rw [endOp, h]
  exact (noticed_raise .setupFail .setupFail).trans (Bool.or_true _)

/-! ## Tidying up -/

theorem cutTidy_setup : (cutTidy s).setup = { s.setup with dir := (cutTidy s).setup.dir } := by
  unfold cutTidy
  split
  case h_5 => split <;> rfl
  case h_6 | h_7 | h_8 => split <;> rfl
  all_goals rfl

theorem cutTidy_notices : (cutTidy s).notices = s.notices := by
  unfold cutTidy
  split
  case h_5 => split <;> rfl
  case h_6 | h_7 | h_8 => split <;> rfl
  all_goals rfl

/-- Only READING holds something outside the setup unit, group 3 (R169). -/
theorem setsUp_cutTidy (h : s.setup.phase.writesFlash = true) : s.setsUp (cutTidy s) := by
  unfold cutTidy
  split
  case h_5 => split <;> rfl
  case h_6 hp | h_7 hp | h_8 hp => rw [hp] at h; cases h
  all_goals rfl

theorem othersKept_cutTidy : s.othersKept (cutTidy s) := by
  unfold cutTidy
  split
  case h_5 => split <;> exact othersKept_of_setsUp rfl
  case h_6 | h_7 | h_8 =>
    split
    · exact othersKept_of_setsUp rfl
    · exact othersKept_emptyGroup3
  all_goals exact othersKept_of_setsUp rfl

theorem cutTidy_reading (h : s.setup.phase = .readHeader ∨ s.setup.phase = .readEntries ∨ s.setup.phase = .launchWait) :
    cutTidy s = if s.setup.slot = 15 then s else emptyGroup3 s := by
  obtain h | h | h := h <;> rw [cutTidy, h]

theorem cutTidy_bad
    (h : s.setup.phase = .voidMark ∨ s.setup.phase = .wipe ∨ s.setup.phase = .sealHeader ∨ s.setup.phase = .sealMarker) :
    cutTidy s = setDirState s.setup.slot .bad s := by
  obtain h | h | h | h := h <;> rw [cutTidy, h]

/-! ## The cut-off -/

theorem cutOff_flash : (cutOff r s).setup.flash = (flashCut (firstStepMayBegin s).setup (firstStepMayBegin s).free).1 := by
  rw [cutOff, endOp_flash, cutTidy_setup]
  rfl

/-- A cut-off operation ends with its record, and what it held is discarded (R162, R169). -/
theorem cutOff_setup : (cutOff r s).setup = { s.setup with
    flash := (cutOff r s).setup.flash
    dir := (cutOff r s).setup.dir
    last := { op := s.setup.op, slot := s.setup.slot, result := r, counts := s.setup.counts }
    phase := .idle, op := .none, snapshot := [], calBuf := [] } := by
  have hends (u : State) : (endOp r u).setup = { u.setup with
      last := { op := u.setup.op, slot := u.setup.slot, result := r, counts := u.setup.counts }
      phase := .idle, op := .none, snapshot := [], calBuf := [] } := rfl
  have hstop (u : State) : (stopFlash u).setup = { u.setup with flash := (stopFlash u).setup.flash } := rfl
  rw [cutOff, hends, cutTidy_setup, hstop, firstStepMayBegin_setup]

theorem cutOff_notices : (cutOff r s).notices = (raise (if isDone r then .setupDone else .setupFail) s).notices := by
  rw [cutOff, endOp, raise_notices, modSetup_notices, cutTidy_notices]
  simp only [stopFlash, setFlash_notices, firstStepMayBegin_notices, raise_notices]

theorem setsUp_cutOff (h : s.setup.phase.writesFlash = true) : s.setsUp (cutOff r s) := by
  have hphase : (stopFlash (firstStepMayBegin s)).setup.phase.writesFlash = true := by
    simp only [stopFlash, setFlash_setup]
    rw [firstStepMayBegin_setup]
    exact h
  exact setsUp_trans (setsUp_trans (setsUp_trans setsUp_firstStepMayBegin setsUp_stopFlash) (setsUp_cutTidy hphase))
    (setsUp_endOp r)

theorem othersKept_cutOff : s.othersKept (cutOff r s) :=
  othersKept_trans (othersKept_trans (othersKept_of_setsUp (setsUp_trans setsUp_firstStepMayBegin setsUp_stopFlash))
    othersKept_cutTidy) (othersKept_of_setsUp (setsUp_endOp r))

theorem cutOff_not_program (h : s.setup.phase ≠ .program) : cutOff r s = endOp r (cutTidy (stopFlash s)) := by
  rw [cutOff, firstStepMayBegin_of_not s fun hp => h hp.1]

theorem cutOff_flash_not_program (h : s.setup.phase ≠ .program) :
    (cutOff r s).setup.flash = (flashCut s.setup s.free).1 := by
  rw [cutOff_flash, firstStepMayBegin_of_not s fun hp => h hp.1]

/-- A directory entry made BAD reads BAD, where there is one (R163). -/
theorem dirAt_modify_bad {d : List DirEntry} {i : Nat} (h : i < d.length) :
    ((d.modify i fun e => { e with state := .bad }).getD i { state := .erased, count := 0 }).state = .bad := by
  rw [List.getD_eq_getElem?_getD, List.getElem?_modify]
  simp [h]

/-- PROGRAMMING cut off once its first program step has begun leaves the entry BAD (R169; log 10). -/
theorem cutOff_dir_begun (hp : s.setup.phase = .program)
    (h : ¬ s.firstStepDue ∨ Config.firstStepBegun s.free = true) :
    (cutOff r s).setup.dir = s.setup.dir.modify s.setup.slot (fun d => { d with state := .bad }) := by
  rw [cutOff_program_dir r hp]
  by_cases hdue : s.firstStepDue
  · have hbegun : Config.firstStepBegun s.free = true := h.resolve_left (not_not.2 hdue)
    have hdir : (firstStepMayBegin s).setup.dir = s.setup.dir.modify s.setup.slot (fun d => { d with state := .bad }) := by
      rw [firstStepMayBegin_eq, if_pos (firstStepDue_iff.1 hdue), hbegun]
      rfl
    by_cases hslot : s.setup.slot < s.setup.dir.length
    · have hbad : programBegun (firstStepMayBegin s).setup = true := by
        rw [firstStepMayBegin_setup, programBegun, decide_eq_true_eq]
        right; right
        rw [Setup.dirAt, hdir]
        exact dirAt_modify_bad hslot
      rw [if_pos hbad, hdir, List.modify_modify_eq]
      rfl
    · have hself : s.setup.dir.modify s.setup.slot (fun d => { d with state := .bad }) = s.setup.dir :=
        List.modify_eq_self (Nat.not_lt.1 hslot)
      rw [hdir, hself, hself, List.set_eq_of_length_le (Nat.not_lt.1 hslot), ite_self]
  · have hbegun : programBegun s.setup = true := by
      rw [firstStepDue_iff] at hdue
      simpa [hp] using hdue
    rw [firstStepMayBegin_not_due hdue, if_pos hbegun]

/-- PROGRAMMING cut off before its first program step leaves the entry ERASED and the flash as it was (R169; log 10). -/
theorem cutOff_not_begun (hdue : s.firstStepDue) (h : Config.firstStepBegun s.free = false) :
    (cutOff r s).setup.flash = s.setup.flash
    ∧ (cutOff r s).setup.dir = s.setup.dir.set s.setup.slot { state := .erased, count := 0 } := by
  obtain ⟨hp, hbegun⟩ := firstStepDue_iff.1 hdue
  have hsetup : (firstStepMayBegin s).setup = s.setup := by
    rw [firstStepMayBegin_eq, if_pos ⟨hp, hbegun⟩, h]
    rfl
  constructor
  · rw [cutOff_flash, hsetup, flashCut_not_begun hp hbegun]
  · rw [cutOff_program_dir r hp, hsetup, hbegun]
    rfl

theorem cutOff_dir_not_program (h : s.setup.phase ≠ .program) :
    (cutOff r s).setup.dir = (cutTidy (stopFlash s)).setup.dir := by
  rw [cutOff_not_program h, endOp_dir]

theorem cutOff_dir_bad
    (h : s.setup.phase = .voidMark ∨ s.setup.phase = .wipe ∨ s.setup.phase = .sealHeader ∨ s.setup.phase = .sealMarker) :
    (cutOff r s).setup.dir = s.setup.dir.modify s.setup.slot (fun d => { d with state := .bad }) := by
  have hne : s.setup.phase ≠ .program := by obtain h | h | h | h := h <;> rw [h] <;> exact nofun
  rw [cutOff_dir_not_program hne, cutTidy_bad (s := stopFlash s) h]
  rfl

theorem cutOff_pumpCheck (h : s.setup.phase = .pumpCheck) :
    (cutOff r s).setup.flash = s.setup.flash ∧ (cutOff r s).setup.dir = s.setup.dir := by
  have hne : s.setup.phase ≠ .program := by rw [h]; exact nofun
  have htidy : cutTidy (stopFlash s) = stopFlash s := by
    have hphase : (stopFlash s).setup.phase = .pumpCheck := h
    rw [cutTidy, hphase]
  constructor
  · rw [cutOff_flash_not_program hne, flashCut_not_writing (.inl h)]
  · rw [cutOff_dir_not_program hne, htidy]
    rfl

theorem cutOff_reading (h : s.setup.phase = .readHeader ∨ s.setup.phase = .readEntries ∨ s.setup.phase = .launchWait) :
    (cutOff r s).setup.flash = s.setup.flash ∧ (cutOff r s).setup.dir = s.setup.dir
    ∧ (cutOff r s).store.groups = if s.setup.slot = 15 then s.store.groups else s.store.groups.set 3 Group.reset := by
  have hne : s.setup.phase ≠ .program := by obtain h | h | h := h <;> rw [h] <;> exact nofun
  have hquiet : s.setup.phase.writesFlash = false := by obtain h | h | h := h <;> rw [h] <;> rfl
  have htidy : cutTidy (stopFlash s) = if s.setup.slot = 15 then stopFlash s else emptyGroup3 (stopFlash s) :=
    cutTidy_reading (s := stopFlash s) h
  refine ⟨?_, ?_, ?_⟩
  · rw [cutOff_flash_not_program hne, flashCut_not_writing (.inr hquiet)]
  · rw [cutOff_dir_not_program hne, htidy]
    split <;> rfl
  · rw [cutOff_not_program hne, htidy]
    split <;> rfl

theorem cutOff_program_flash (hp : s.setup.phase = .program) {a : Nat}
    (ha : a < placeBase s.setup.slot (s.setup.progress + 1) ∨ placeBase s.setup.slot (s.setup.progress + 1) + 11 ≤ a) :
    (cutOff r s).setup.flash.read a = s.setup.flash.read a := by
  rw [cutOff_flash, firstStepMayBegin_setup]
  exact read_flashCut_program hp ha

/-- Neither a void mark nor a seal cut off leaves a SEALED marker, and a void mark no blank one (R165, R191). -/
theorem cutOff_marker (hs : s.flashKept = true) (hp : s.setup.phase = .voidMark ∨ s.setup.phase = .sealMarker) :
    (cutOff r s).setup.flash.read (slotBase s.setup.slot) ≠ sealed
    ∧ (s.setup.phase = .voidMark → (cutOff r s).setup.flash.read (slotBase s.setup.slot) ≠ blankByte) := by
  have hwhole := flashKept_iff.1 hs
  have hslot := hwhole.slot
  have hbase : slotBase s.setup.slot < flashSize := by unfold slotBase flashSize; omega
  have hne : s.setup.phase ≠ .program := by obtain h | h := hp <;> rw [h] <;> exact nofun
  rw [cutOff_flash_not_program hne, flashCut]
  obtain h | h := hp <;> rw [h]
  · exact ⟨(voidCut_marker hwhole.flash hbase).1, fun _ => (voidCut_marker hwhole.flash hbase).2⟩
  · exact ⟨sealCut_marker hwhole.flash hbase, nofun⟩

/-- A cut-off leaves the flash, the directory and group 3 as R169's table says. -/
theorem cutLeaves_cutOff : s.cutLeaves (cutOff r s) := by
  refine ⟨cutOff_pumpCheck, cutOff_dir_bad, cutOff_dir_begun, cutOff_not_begun, fun hp _ => cutOff_program_flash hp,
    cutOff_reading, fun hp a ha => ?_, fun hs hp => (cutOff_marker hs hp).1, fun hs hp => (cutOff_marker hs (.inl hp)).2 hp⟩
  rw [cutOff_flash_not_program hp]
  exact read_flashCut_outside hp ha

/-! ## The commands -/

/-- The supply found below its limit (R175). -/
def State.fallen (s : State) : State := raise .supplyLow (modSetup (fun u => { u with supplyLow := true }) s)

theorem exec_supplyFall (hh : s.held = false) (hl : s.setup.supplyLow = false) :
    exec .supplyFall s = .next (if s.setup.phase.writesFlash = true then cutOff .supplyLow s.fallen else s.fallen) := by
  rw [exec, execSupplyFall, awake_running hh, hl]
  rfl

theorem exec_abort (h : s.takes .abort = true) : exec .abort s = .next
    (if s.setup.phase = .idle then s.answer .wrongState [] .none else (cutOff .aborted s).answer .ok [] .none) := by
  rw [exec, execAbort, takeCommand_takes h]
  split <;> rfl

end Sys2Proof.Machine

/-! ## The statements -/

open Sys2Proof Sys2Proof.Machine

/-- Settles O14: a fall raises SUPPLY_LOW before it cuts anything off, which R169's table does not look at. -/
theorem supplyMonitorMoves : Obligations.SupplyMonitorMoves := by
  refine ⟨fun s hh hl hw => ?_, fun s hh hl hw => ?_, fun s hh => awake_running hh⟩
  · rw [exec_supplyFall hh hl, hw]
    rfl
  · have hsets : s.setsUp (cutOff .supplyLow s.fallen) := setsUp_trans (t := s.fallen) rfl (setsUp_cutOff (s := s.fallen) hw)
    have hsetup := cutOff_setup (s := s.fallen) (r := .supplyLow)
    have hlow : (cutOff .supplyLow s.fallen).noticed .supplyLow = true := by
      rw [State.noticed, cutOff_notices]
      refine (noticed_raise .supplyLow .setupFail).trans ?_
      rw [State.fallen, noticed_raise]
      simp
    have hfail : (cutOff .supplyLow s.fallen).noticed .setupFail = true := by
      rw [State.noticed, cutOff_notices]
      exact (noticed_raise .setupFail .setupFail).trans (Bool.or_true _)
    exact ⟨cutOff .supplyLow s.fallen, by rw [exec_supplyFall hh hl, if_pos hw], congrArg Setup.phase hsetup,
      congrArg (·.last.result) hsetup, congrArg (·.last.op) hsetup, congrArg (·.last.slot) hsetup,
      congrArg Setup.supplyLow hsetup, hlow, hfail, store_of_setsUp hsets, link_of_setsUp hsets,
      cutLeaves_cutOff (s := s.fallen), othersKept_of_setsUp hsets⟩

/-- Settles O54: an ABORT is a cut-off wherever an operation stands. -/
theorem abortCutsOff : Obligations.AbortCutsOff := by
  refine ⟨fun s h hp => by rw [exec_abort h, if_pos hp], fun s h hp => ?_⟩
  have hsetup := cutOff_setup (s := s) (r := .aborted)
  have hfail : (cutOff .aborted s).noticed .setupFail = true := endOp_noticed rfl
  exact ⟨(cutOff .aborted s).answer .ok [] .none, by rw [exec_abort h, if_neg hp], ⟨rfl, rfl⟩,
    congrArg Setup.phase hsetup, congrArg Setup.last hsetup, congrArg Setup.snapshot hsetup,
    congrArg Setup.calBuf hsetup, hfail, cutLeaves_cutOff (r := .aborted), othersKept_cutOff (r := .aborted) (s := s)⟩
end

section
/-! SUPPORT. SAVE and ERASE (R164, R168): the snapshot's size, the checks, and what an accepted one leaves. -/

namespace Sys2Proof.Machine

variable {s : State} {slot : Byte} {cal : Bool}

/-! ## The size of a snapshot (R164) -/

@[simp] theorem fieldsOf_length (k : Kind) (i lo n : Nat) : (fieldsOf k i lo n).length = n := by simp [fieldsOf]

/-- The snapshot of slot 15: nine knots and a gain trim of each channel. -/
theorem takeSnapshot_calibration_length : (s.takeSnapshot 15).length = 40 := by
  simp [State.takeSnapshot, State.snapshotFields]

theorem savedOf_length (k : Kind) (n : Nat) :
    ((s.liveOf k).map fun i => fieldsOf k i 0 n).flatten.length = (s.liveOf k).length * n := by
  simp [List.length_flatten, Function.comp_def]

theorem takeSnapshot_setup_length {n : Nat} (h : n ≠ 15) : (s.takeSnapshot n).length =
    10 * (s.liveOf .channel).length + 5 * (s.liveOf .timebase).length + 10 * (s.liveOf .trigger).length
      + 5 * (s.liveOf .cursor).length + 8 * (s.liveOf .measurement).length := by
  simp only [State.takeSnapshot, State.snapshotFields, if_neg h, List.length_map, List.map_cons, List.map_nil,
    List.flatten_cons, List.flatten_nil, List.length_append, savedOf_length, savedFields, List.length_nil]
  omega

theorem liveOf_length_le (k : Kind) : (s.liveOf k).length ≤ kindSize k :=
  (List.length_filter_le _ _).trans_eq List.length_range

/-- The fixed records are always live (R1). -/
theorem liveOf_fixed {k : Kind} (ht : s.tableKept = true) (hk : kindCreated k = false) :
    s.liveOf k = List.range (kindSize k) := by
  obtain ⟨hlen, hrec⟩ := tableKept_iff.1 ht k
  refine List.filter_eq_self.2 fun i hi => ?_
  have hin : i < (s.store.table k).length := hlen ▸ List.mem_range.1 hi
  have hkept := hrec (s.recAt k i) (by rw [State.recAt, List.getD_eq_getElem _ _ hin]; exact List.getElem_mem hin)
  simp only [recKept, hk, Bool.false_or, Bool.and_eq_true] at hkept
  obtain ⟨-, hlive, -⟩ := hkept
  exact hlive

/-- The four channels, the timebase and the trigger give 55 entries, four cursors and eight measurements at most 84 more. -/
theorem takeSnapshot_bounds {n : Nat} (h : n ≠ 15) (ht : s.tableKept = true) :
    55 ≤ (s.takeSnapshot n).length ∧ (s.takeSnapshot n).length ≤ 139 := by
  have hcursors : (s.liveOf .cursor).length ≤ 4 := liveOf_length_le .cursor
  have hmeasurements : (s.liveOf .measurement).length ≤ 8 := liveOf_length_le .measurement
  rw [takeSnapshot_setup_length h, liveOf_fixed (k := .channel) ht rfl, liveOf_fixed (k := .timebase) ht rfl,
    liveOf_fixed (k := .trigger) ht rfl]
  simp only [List.length_range, kindSize]
  omega

/-! ## The checks (R164) -/

theorem setupIdle_iff (h : s.setup.starting = false) : s.setupIdle = true ↔ s.setup.phase = .idle := by
  simp [State.setupIdle, State.setupBusy, h]

theorem setupIdle_eq_false (h : s.setup.starting = false) : s.setupIdle = false ↔ s.setup.phase ≠ .idle := by
  rw [← Bool.not_eq_true, setupIdle_iff h]

theorem flashCheck_noSlot {n : Nat} (h : 16 ≤ n) : s.flashCheck n cal = some .badValue := if_pos h

theorem flashCheck_busy {n : Nat} (hn : n < 16) (hi : s.setupIdle = false) : s.flashCheck n cal = some .busy := by
  rw [State.flashCheck, if_neg (Nat.not_le.2 hn), if_pos hi]

theorem flashCheck_protected (hi : s.setupIdle = true) : s.flashCheck 15 false = some .protectedSlot := by
  simp [State.flashCheck, hi]

theorem flashCheck_supplyLow {n : Nat} (hn : n < 16) (hi : s.setupIdle = true) (hc : n = 15 → cal = true)
    (hl : s.setup.supplyLow = true) : s.flashCheck n cal = some .supplyLow := by
  have hopen : ¬ (n = 15 ∧ cal = false) := fun ⟨h15, hlow⟩ => absurd (hc h15) (by rw [hlow]; exact nofun)
  rw [State.flashCheck, if_neg (Nat.not_le.2 hn), if_neg (by rw [hi]; exact nofun), if_neg hopen, if_pos hl]

/-! ## The commands -/

/-- What an accepted SAVE leaves before its answer (R164). -/
def State.saving (s : State) (n : Nat) : State :=
  modSetup (fun u => { u with snapshot := s.takeSnapshot n }) (beginOp .save n .pumpCheck s)

theorem exec_save_accepted (h : s.takes (.save slot cal) = true) (hc : s.flashCheck slot.toNat cal = none) :
    exec (.save slot cal) s = .next ((s.saving slot.toNat).answer .ok [] .none) := by
  rw [exec, execSave, takeCommand_takes h, hc]
  rfl

theorem exec_erase_accepted (h : s.takes (.erase slot cal) = true) (hc : s.flashCheck slot.toNat cal = none) :
    exec (.erase slot cal) s = .next ((beginOp .erase slot.toNat .pumpCheck s).answer .ok [] .none) := by
  rw [exec, execErase, takeCommand_takes h, hc]
  rfl

theorem exec_flash_refused {i : Instr} {e : Status} (hi : i = .save slot cal ∨ i = .erase slot cal)
    (h : s.takes i = true) (hc : s.flashCheck slot.toNat cal = some e) : exec i s = .next (s.answer e [] .none) := by
  obtain rfl | rfl := hi
  · rw [exec, execSave, takeCommand_takes h, hc, respond_refuse]
  · rw [exec, execErase, takeCommand_takes h, hc, respond_refuse]

end Sys2Proof.Machine

/-! ## The statement -/

open Sys2Proof Sys2Proof.Machine

/-- Settles O49: the checks decide the answer, and the snapshot counts the fields of the live records. -/
theorem saveAndEraseAccepted : Obligations.SaveAndEraseAccepted := by
  refine ⟨fun s slot cal h hc => ?_, fun s slot cal h hc => ?_, fun s slot cal i hi h => ?_⟩
  · refine ⟨_, exec_save_accepted h hc, ⟨rfl, rfl⟩, rfl, rfl, rfl, rfl, rfl, rfl, rfl, rfl, rfl, rfl,
      othersKept_of_setsUp (t := s.saving slot.toNat) rfl, ?_, fun hslot ht => ?_⟩
    · rintro rfl
      exact takeSnapshot_calibration_length
    · exact takeSnapshot_bounds (fun h15 => hslot (BitVec.eq_of_toNat_eq h15)) ht
  · exact ⟨_, exec_erase_accepted h hc, ⟨rfl, rfl⟩, rfl, rfl, rfl, rfl, rfl, rfl, rfl,
      othersKept_of_setsUp (t := beginOp .erase slot.toNat .pumpCheck s) rfl⟩
  · obtain ⟨-, -, hstarting⟩ := takes_iff.1 h
    refine ⟨fun hn => exec_flash_refused hi h (flashCheck_noSlot hn), fun hn hp => ?_, ?_, fun hn hp hcal hl => ?_⟩
    · exact exec_flash_refused hi h (flashCheck_busy hn ((setupIdle_eq_false hstarting).2 hp))
    · rintro rfl hp rfl
      exact exec_flash_refused hi h (flashCheck_protected ((setupIdle_iff hstarting).2 hp))
    · exact exec_flash_refused hi h (flashCheck_supplyLow hn ((setupIdle_iff hstarting).2 hp)
        (fun h15 => hcal (BitVec.eq_of_toNat_eq h15)) hl)
end

section
/-! SUPPORT. Programmed bytes (R191) and directory entries read back (R163). -/

namespace Sys2Proof.Machine

variable {m : Memory} {a b n i : Nat} {xs : List Byte} {stuck : Flips}

/-- A programmed byte has its bits turned from one to zero alone, but for those stuck (R191, log 8). -/
theorem read_program {x : Byte} (hm : Memory.wf m = true) (ha : a + xs.length ≤ flashSize) (hx : xs[i]? = some x) :
    Memory.read (Memory.program m stuck a xs) (a + i) = Memory.read m (a + i) &&& (x ||| flipAt stuck (a + i)) := by
  induction xs generalizing m a i with
  | nil => cases hx
  | cons y ys ih =>
    simp only [List.length_cons] at ha
    unfold Memory.program
    cases i with
    | zero =>
      obtain rfl : y = x := Option.some.inj hx
      rw [read_program_other (by omega), Nat.add_zero, read_write_same hm (by omega)]
    | succ i =>
      have hnext := ih (wf_write (x := Memory.read m a &&& (y ||| flipAt stuck a)) (a := a) hm) (a := a + 1) (by omega)
        (i := i) hx
      rw [show a + (i + 1) = a + 1 + i by omega, hnext, read_write_other (by omega)]

/-- Bytes are a list where each reads as the list's. -/
theorem bytes_eq (hn : xs.length = n) (h : ∀ i x, xs[i]? = some x → Memory.read m (a + i) = x) :
    Memory.bytes m a n = xs := by
  refine List.ext_getElem (by rw [bytes_length, hn]) fun i hi hi' => ?_
  rw [← h i xs[i] (List.getElem?_eq_getElem hi')]
  simp [Memory.bytes]

theorem read_of_blank (h : Memory.bytes m a n = List.replicate n blankByte) (hi : i < n) :
    Memory.read m (a + i) = blankByte := by
  have hbyte : (Memory.bytes m a n)[i]? = some blankByte := by rw [h, List.getElem?_replicate, if_pos hi]
  simpa [Memory.bytes, hi] using hbyte

/-- Blank bytes take what is programmed whole, where no cell is stuck (R191). -/
theorem bytes_program_blank (hm : Memory.wf m = true) (ha : a + xs.length ≤ flashSize) (hn : xs.length = n)
    (h : Memory.bytes m a n = List.replicate n blankByte) : Memory.bytes (Memory.program m [] a xs) a n = xs := by
  refine bytes_eq hn fun i x hx => ?_
  obtain ⟨hi, -⟩ := List.getElem?_eq_some_iff.1 hx
  have hones : blankByte = BitVec.allOnes 8 := by decide
  rw [read_program hm ha hx, read_of_blank h (hn ▸ hi), flipAt, hones, BitVec.allOnes_and]
  exact BitVec.or_zero

theorem slotBase_lt {slot : Nat} (h : slot < 16) : slotBase slot + 2048 ≤ flashSize := by unfold slotBase flashSize; omega

theorem dirAt_set_same {u v : Setup} {slot : Nat} {d : DirEntry} (hv : v.dir = u.dir.set slot d) (h : slot < u.dir.length) :
    v.dirAt slot = d := by
  rw [Setup.dirAt, hv, List.getD_eq_getElem?_getD, List.getElem?_set_self h]
  rfl

theorem dirAt_set_other {u v : Setup} {slot : Nat} {d : DirEntry} (hv : v.dir = u.dir.set slot d) (h : i ≠ slot) :
    v.dirAt i = u.dirAt i := by
  rw [Setup.dirAt, hv, List.getD_eq_getElem?_getD, List.getElem?_set_ne h.symm, Setup.dirAt, List.getD_eq_getElem?_getD]

end Sys2Proof.Machine
end

section
/-! SUPPORT. ERASING (R165): the pump check, the void mark and the wipe. -/

namespace Sys2Proof.Machine

variable {s : State}

theorem endOp_noticed_done {r : SetupResult} (h : isDone r = true) : (endOp r s).noticed .setupDone = true := by
  rw [endOp, h]
  exact (noticed_raise .setupDone .setupDone).trans (Bool.or_true _)

theorem setsUp_setPhase (p : Phase) : s.setsUp (setPhase p s) := rfl

theorem exec_pumpCheck (ok : Bool) (hh : s.held = false) (hp : s.setup.phase = .pumpCheck) :
    exec (.pumpCheck ok) s = .next (if ok then setPhase .voidMark s else endOp .failPump s) :=
  (awake_running hh).trans (congrArg Host.Outcome.next (if_pos hp))

/-- The marker programmed to VOID (R165). -/
def State.voided (s : State) : State := setFlash (Memory.program s.setup.flash [] (slotBase s.setup.slot) [0x00]) s

theorem setsUp_voided : s.setsUp s.voided := rfl

theorem exec_voidMark (hh : s.held = false) (hp : s.setup.phase = .voidMark) :
    exec .voidMark s = .next (setPhase .wipe s.voided) :=
  (awake_running hh).trans (congrArg Host.Outcome.next (if_pos hp))

/-- The void mark turns every bit of the marker to zero. -/
theorem read_voided_marker (h : s.flashKept = true) : s.voided.setup.flash.read (slotBase s.setup.slot) = 0 := by
  have hwhole := flashKept_iff.1 h
  have hbase := slotBase_lt hwhole.slot
  have hbyte := read_program (a := slotBase s.setup.slot) (xs := [0x00]) (stuck := []) (i := 0) hwhole.flash
    (by rw [List.length_singleton]; omega) rfl
  rw [Nat.add_zero, flipAt] at hbyte
  exact hbyte.trans (by simp)

/-- The slot blank and its directory entry ERASED (R165). -/
def State.wiped (s : State) : State :=
  setDir s.setup.slot { state := .erased, count := 0 } (setFlash (wipeSlot s.setup.slot s.setup.flash) s)

theorem setsUp_wiped : s.setsUp s.wiped := rfl

theorem exec_wipe (hh : s.held = false) (hp : s.setup.phase = .wipe) :
    exec .wipe s = .next (if s.setup.op = .erase then endOp .ok s.wiped else setPhase .program s.wiped) :=
  (awake_running hh).trans (congrArg Host.Outcome.next (if_pos hp))

theorem read_wiped (h : s.flashKept = true) (a : Nat) : s.wiped.setup.flash.read a =
    if slotBase s.setup.slot ≤ a ∧ a < slotBase s.setup.slot + 2048 then blankByte else s.setup.flash.read a := by
  have hend : slotBase (s.setup.slot + 1) = slotBase s.setup.slot + 2048 := by unfold slotBase; omega
  exact (read_wipe (flashKept_iff.1 h).flash).trans (by rw [hend])

end Sys2Proof.Machine

/-! ## The statement -/

open Sys2Proof Sys2Proof.Machine

/-- Settles O50: each of the three steps moves the setup unit and the notices alone. -/
theorem erasingSteps : Obligations.ErasingSteps := by
  refine ⟨fun s ok hh hp => ?_, fun s hh hs hp => ?_, fun s hh hs hp => ?_⟩
  · rw [exec_pumpCheck ok hh hp]
    cases ok
    · exact ⟨endOp .failPump s, rfl, rfl, rfl, rfl, rfl, othersKept_of_setsUp (setsUp_endOp _), nofun,
        fun _ => ⟨rfl, rfl, endOp_noticed rfl⟩⟩
    · exact ⟨setPhase .voidMark s, rfl, rfl, rfl, rfl, rfl, othersKept_of_setsUp (setsUp_setPhase _),
        fun _ => ⟨rfl, rfl⟩, nofun⟩
  · have hsets : s.setsUp (setPhase .wipe s.voided) := setsUp_trans setsUp_voided (setsUp_setPhase .wipe)
    refine ⟨_, exec_voidMark hh hp, rfl, rfl, store_of_setsUp hsets, link_of_setsUp hsets, rfl, othersKept_of_setsUp hsets,
      read_voided_marker hs, fun a ha => read_program_other ?_⟩
    rw [List.length_singleton]
    omega
  · have hlen : s.setup.slot < s.setup.dir.length := (flashKept_iff.1 hs).slot.trans_eq (flashKept_iff.1 hs).dir.symm
    have hsame : s.wiped.setup.dirAt s.setup.slot = { state := .erased, count := 0 } := dirAt_set_same rfl hlen
    have hother (i : Nat) (hi : i ≠ s.setup.slot) : s.wiped.setup.dirAt i = s.setup.dirAt i := dirAt_set_other rfl hi
    have hblank (a : Nat) (hlo : slotBase s.setup.slot ≤ a) (hhi : a < slotBase s.setup.slot + 2048) :
        s.wiped.setup.flash.read a = blankByte := (read_wiped hs a).trans (if_pos ⟨hlo, hhi⟩)
    have houtside (a : Nat) (ha : a < slotBase s.setup.slot ∨ slotBase s.setup.slot + 2048 ≤ a) :
        s.wiped.setup.flash.read a = s.setup.flash.read a := (read_wiped hs a).trans (if_neg (by omega))
    rw [exec_wipe hh hp]
    by_cases hop : s.setup.op = .erase
    · have hsets : s.setsUp (endOp .ok s.wiped) := setsUp_trans setsUp_wiped (setsUp_endOp .ok)
      rw [if_pos hop]
      exact ⟨_, rfl, hsame, store_of_setsUp hsets, link_of_setsUp hsets, othersKept_of_setsUp hsets, hother, hblank,
        houtside, fun _ => ⟨rfl, rfl, endOp_noticed_done rfl⟩, fun hne => absurd hop hne⟩
    · have hsets : s.setsUp (setPhase .program s.wiped) := setsUp_trans setsUp_wiped (setsUp_setPhase .program)
      rw [if_neg hop]
      exact ⟨_, rfl, hsame, store_of_setsUp hsets, link_of_setsUp hsets, othersKept_of_setsUp hsets, hother, hblank,
        houtside, fun he => absurd he hop, fun _ => ⟨rfl, rfl⟩⟩
end

section
/-! SUPPORT. PROGRAMMING and SEALING (R166, R167): an attempt, its read-back, and the seal. -/

namespace Sys2Proof.Machine

variable {s : State} {stuck : Flips} {e : Nat × Int}

/-! ## What follows an attempt (R166) -/

theorem entryDone_setup : (entryDone s).setup = { s.setup with
    progress := s.setup.progress + 1, attempts := 0
    counts := { s.setup.counts with done := bump s.setup.counts.done }
    phase := if s.setup.snapshot.length ≤ s.setup.progress + 1 then .sealHeader else s.setup.phase } := by
  by_cases h : s.setup.snapshot.length ≤ s.setup.progress + 1
  · rw [if_pos h]
    exact congrArg State.setup (if_pos h)
  · rw [if_neg h]
    exact congrArg State.setup (if_neg h)

theorem setsUp_entryDone : s.setsUp (entryDone s) := by
  unfold entryDone
  dsimp only
  split <;> rfl

theorem entryDone_notices : (entryDone s).notices = s.notices := by
  unfold entryDone
  dsimp only
  split <;> rfl

theorem failedAttempt_again (h : s.setup.attempts < 2) : failedAttempt s = { s with setup := { s.setup with
    attempts := s.setup.attempts + 1
    counts := { s.setup.counts with retries := Nat.min 255 (s.setup.counts.retries + 1) } } } := by
  rw [failedAttempt, if_pos (by omega)]
  rfl

/-- The third read-back that differs ends the save (R166). -/
theorem failedAttempt_last (h : 2 ≤ s.setup.attempts) : failedAttempt s = endOp .failVerify s := by
  rw [failedAttempt, if_neg (by omega)]

theorem failedAttempt_kept :
    s.setsUp (failedAttempt s) ∧ (failedAttempt s).setup.flash = s.setup.flash ∧ (failedAttempt s).setup.dir = s.setup.dir := by
  unfold failedAttempt
  split <;> exact ⟨rfl, rfl, rfl⟩

/-! ## ENTRY_PROGRAM (R166) -/

/-- The first byte of the next entry's place. -/
def State.entryAt (s : State) : Nat := placeBase s.setup.slot (s.setup.progress + 1)

/-- The entry's bytes programmed, and the directory entry BAD (R163, R166). -/
def State.entryTried (s : State) (stuck : Flips) (e : Nat × Int) : State :=
  setFlash (Memory.program s.setup.flash stuck s.entryAt (entryBytes e)) (setDirState s.setup.slot .bad s)

/-- What the read-back of an entry leads to. -/
def State.entryChecked (s : State) (stuck : Flips) (e : Nat × Int) : State :=
  if Memory.bytes (s.entryTried stuck e).setup.flash s.entryAt 11 = entryBytes e then entryDone (s.entryTried stuck e)
  else failedAttempt (s.entryTried stuck e)

theorem exec_entryProgram (hh : s.held = false) (hp : s.setup.phase = .program)
    (he : s.setup.snapshot[s.setup.progress]? = some e) :
    exec (.entryProgram stuck) s = .next (s.entryChecked stuck e) := by
  rw [exec, execEntryProgram, awake_running hh, if_pos hp, he]
  rfl

theorem entryChecked_kept : s.setsUp (s.entryChecked stuck e)
    ∧ (s.entryChecked stuck e).setup.flash = (s.entryTried stuck e).setup.flash
    ∧ (s.entryChecked stuck e).setup.dir = s.setup.dir.modify s.setup.slot (fun d => { d with state := .bad }) := by
  unfold State.entryChecked
  split
  · exact ⟨setsUp_trans (t := s.entryTried stuck e) rfl setsUp_entryDone, by rw [entryDone_setup], by rw [entryDone_setup]; rfl⟩
  · obtain ⟨hsets, hflash, hdir⟩ := failedAttempt_kept (s := s.entryTried stuck e)
    exact ⟨setsUp_trans (t := s.entryTried stuck e) rfl hsets, hflash, hdir.trans rfl⟩

/-- An entry place stands in the flash (R191). -/
theorem entryAt_end (h : s.setup.slot < 16) (hp : s.setup.progress < 184) (e : Nat × Int) :
    s.entryAt + (entryBytes e).length ≤ flashSize := by
  rw [entryBytes_length]
  unfold State.entryAt placeBase slotBase flashSize
  omega

/-! ## HEADER_PROGRAM and SEAL (R167) -/

/-- The header's fields programmed. -/
def State.headerTried (s : State) (stuck : Flips) : State :=
  setFlash (Memory.program s.setup.flash stuck (slotBase s.setup.slot + 1)
    (headerFields s.setup.slot s.setup.snapshot.length)) s

/-- What the read-back of the header leads to. -/
def State.headerChecked (s : State) (stuck : Flips) : State :=
  if Memory.bytes (s.headerTried stuck).setup.flash (slotBase s.setup.slot + 1) 15
      = headerFields s.setup.slot s.setup.snapshot.length then
    setPhase .sealMarker (modSetup (fun u => { u with attempts := 0 }) (s.headerTried stuck))
  else failedAttempt (s.headerTried stuck)

theorem exec_headerProgram (hh : s.held = false) (hp : s.setup.phase = .sealHeader) :
    exec (.headerProgram stuck) s = .next (s.headerChecked stuck) :=
  (awake_running hh).trans (congrArg Host.Outcome.next (if_pos hp))

theorem headerChecked_kept : s.setsUp (s.headerChecked stuck)
    ∧ (s.headerChecked stuck).setup.flash = (s.headerTried stuck).setup.flash
    ∧ (s.headerChecked stuck).setup.dir = s.setup.dir := by
  unfold State.headerChecked
  split
  · exact ⟨rfl, rfl, rfl⟩
  · obtain ⟨hsets, hflash, hdir⟩ := failedAttempt_kept (s := s.headerTried stuck)
    exact ⟨setsUp_trans (t := s.headerTried stuck) rfl hsets, hflash, hdir.trans rfl⟩

/-- The marker programmed to SEALED, and the directory entry VALID (R167). -/
def State.sealedUp (s : State) : State :=
  setDir s.setup.slot { state := .valid, count := s.setup.snapshot.length }
    (setFlash (Memory.program s.setup.flash [] (slotBase s.setup.slot) [sealed]) s)

theorem setsUp_sealedUp : s.setsUp s.sealedUp := rfl

theorem read_sealedUp_other {a : Nat} (h : a ≠ slotBase s.setup.slot) :
    s.sealedUp.setup.flash.read a = s.setup.flash.read a :=
  read_program_other (by rw [List.length_singleton]; omega)

theorem exec_seal (hh : s.held = false) (hp : s.setup.phase = .sealMarker) :
    exec .seal s = .next (endOp .ok s.sealedUp) :=
  (awake_running hh).trans (congrArg Host.Outcome.next (if_pos hp))

/-- A blank marker takes SEALED (R167, R191). -/
theorem read_sealedUp (h : s.flashKept = true) (hb : s.setup.flash.read (slotBase s.setup.slot) = blankByte) :
    s.sealedUp.setup.flash.read (slotBase s.setup.slot) = sealed := by
  have hwhole := flashKept_iff.1 h
  have hbase := slotBase_lt hwhole.slot
  have hbyte := read_program (a := slotBase s.setup.slot) (xs := [sealed]) (stuck := []) (i := 0) hwhole.flash
    (by rw [List.length_singleton]; omega) rfl
  rw [Nat.add_zero, hb, flipAt] at hbyte
  exact hbyte.trans (by decide)

end Sys2Proof.Machine

/-! ## The statement -/

open Sys2Proof Sys2Proof.Machine

/-- Settles O51: an attempt programs the bytes of its own place, and its read-back decides what follows. -/
theorem programmingSteps : Obligations.ProgrammingSteps := by
  refine ⟨fun s stuck e hh hs hp he => ?_, fun s stuck hh hs hp => ?_, fun s hh hs hp hb => ?_⟩
  · have hwhole := flashKept_iff.1 hs
    obtain ⟨hsets, hflash, hdir⟩ := entryChecked_kept (s := s) (stuck := stuck) (e := e)
    have hmatched (hc : Memory.bytes (s.entryTried stuck e).setup.flash s.entryAt 11 = entryBytes e) :
        s.entryChecked stuck e = entryDone (s.entryTried stuck e) := if_pos hc
    refine ⟨_, exec_entryProgram hh hp he, store_of_setsUp hsets, link_of_setsUp hsets, othersKept_of_setsUp hsets, hdir,
      fun a ha => ?_, fun hplace i b hb => ?_, ?_, fun hc => ?_, fun hc => ?_⟩
    · rw [hflash]
      exact read_program_other (by rwa [entryBytes_length])
    · rw [hflash]
      exact read_program hwhole.flash (entryAt_end hwhole.slot hplace e) hb
    · rintro rfl hplace hblank
      have hc : Memory.bytes (s.entryTried [] e).setup.flash s.entryAt 11 = entryBytes e :=
        bytes_program_blank hwhole.flash (entryAt_end hwhole.slot hplace e) (entryBytes_length e) hblank
      rw [hflash]
      refine ⟨hc, ?_⟩
      rw [hmatched hc, entryDone_setup]
      rfl
    · rw [hflash] at hc
      rw [hmatched hc, entryDone_setup, entryDone_notices]
      refine ⟨rfl, rfl, rfl, ?_⟩
      rw [← hp]
      rfl
    · rw [hflash] at hc
      have hdiffers : s.entryChecked stuck e = failedAttempt (s.entryTried stuck e) := if_neg hc
      rw [hdiffers]
      refine ⟨fun h => ?_, fun h => ?_⟩
      · rw [failedAttempt_again (s := s.entryTried stuck e) h]
        exact ⟨hp, rfl, rfl, rfl⟩
      · rw [failedAttempt_last (s := s.entryTried stuck e) h]
        exact ⟨rfl, rfl, endOp_noticed rfl⟩
  · have hwhole := flashKept_iff.1 hs
    have hend : slotBase s.setup.slot + 1 + (headerFields s.setup.slot s.setup.snapshot.length).length ≤ flashSize := by
      have hbase := slotBase_lt hwhole.slot
      rw [headerFields_length]
      omega
    obtain ⟨hsets, hflash, hdir⟩ := headerChecked_kept (s := s) (stuck := stuck)
    have hmatched (hc : Memory.bytes (s.headerTried stuck).setup.flash (slotBase s.setup.slot + 1) 15
        = headerFields s.setup.slot s.setup.snapshot.length) : (s.headerChecked stuck).setup.phase = .sealMarker := by
      rw [State.headerChecked, if_pos hc]
      rfl
    refine ⟨_, exec_headerProgram hh hp, store_of_setsUp hsets, link_of_setsUp hsets, othersKept_of_setsUp hsets, hdir,
      fun a ha => ?_, fun i b hb => ?_, ?_, fun hc => ?_, fun hc => ?_⟩
    · rw [hflash]
      exact read_program_other (by rw [headerFields_length]; omega)
    · rw [hflash]
      exact read_program hwhole.flash hend hb
    · rintro rfl hblank
      have hc : Memory.bytes (s.headerTried []).setup.flash (slotBase s.setup.slot + 1) 15
          = headerFields s.setup.slot s.setup.snapshot.length :=
        bytes_program_blank hwhole.flash hend (headerFields_length _ _) hblank
      rw [hflash]
      exact ⟨hc, hmatched hc⟩
    · exact hmatched (hflash ▸ hc)
    · rw [hflash] at hc
      have hdiffers : s.headerChecked stuck = failedAttempt (s.headerTried stuck) := if_neg hc
      rw [hdiffers]
      refine ⟨fun h => ?_, fun h => ?_⟩
      · rw [failedAttempt_again (s := s.headerTried stuck) h]
        exact ⟨hp, rfl⟩
      · rw [failedAttempt_last (s := s.headerTried stuck) h]
        exact ⟨rfl, rfl⟩
  · have hwhole := flashKept_iff.1 hs
    have hdir : (endOp .ok s.sealedUp).setup.dir
        = s.setup.dir.set s.setup.slot { state := .valid, count := s.setup.snapshot.length } := rfl
    have hsets : s.setsUp (endOp .ok s.sealedUp) := setsUp_trans setsUp_sealedUp (setsUp_endOp .ok)
    exact ⟨_, exec_seal hh hp, read_sealedUp hs hb, fun a ha => read_sealedUp_other ha,
      dirAt_set_same hdir (hwhole.slot.trans_eq hwhole.dir.symm), rfl, rfl, endOp_noticed_done rfl, store_of_setsUp hsets,
      link_of_setsUp hsets, othersKept_of_setsUp hsets, fun i hi => dirAt_set_other hdir hi⟩
end

section
/-! SUPPORT. RECALL's checks (R170), the end of a recall in and out of the start-up load (R162, R177), and the header
re-read (R171). -/

namespace Sys2Proof.Machine

variable {s t : State} {slot : Byte}

/-! ## RECALL (R170) -/

theorem recallCheck_noSlot {n : Nat} (h : 16 ≤ n) : s.recallCheck n = some .badValue := if_pos h

theorem recallCheck_busy {n : Nat} (hn : n < 16) (h : s.setupIdle = false ∨ (s.store.group 3).state ≠ .empty) :
    s.recallCheck n = some .busy := (if_neg (Nat.not_le.2 hn)).trans (if_pos h)

/-- In IDLE with group 3 EMPTY the directory entry and the pool decide (R170). -/
theorem recallCheck_idle {n : Nat} (hn : n < 16) (hi : s.setupIdle = true) (hg : (s.store.group 3).state = .empty) :
    s.recallCheck n =
      if (s.setup.dirAt n).state = .erased then some .emptySlot
      else if (s.setup.dirAt n).state = .bad then some .badSlot
      else if n ≠ 15 ∧ s.poolFree < (s.setup.dirAt n).count then some .groupFull
      else none := by
  have hready : ¬ (s.setupIdle = false ∨ (s.store.group 3).state ≠ .empty) := by rw [hi, hg]; decide
  exact (if_neg (Nat.not_le.2 hn)).trans (if_neg hready)

theorem exec_recall_refused {e : Status} (h : s.takes (.recallSetup slot) = true) (hc : s.recallCheck slot.toNat = some e) :
    exec (.recallSetup slot) s = .next (s.answer e [] .none) := by
  rw [exec, execRecall, takeCommand_takes h, hc, respond_refuse]

theorem exec_recall_accepted (h : s.takes (.recallSetup slot) = true) (hc : s.recallCheck slot.toNat = none) :
    exec (.recallSetup slot) s = .next ((beginRecall slot.toNat s).answer .ok [] .none) := by
  rw [exec, execRecall, takeCommand_takes h, hc, respond_accept]

theorem beginRecall_setup (n : Nat) : (beginRecall n s).setup = (beginOp .recall n .readHeader s).setup := by
  unfold beginRecall
  dsimp only
  split <;> rfl

theorem beginRecall_notices (n : Nat) : (beginRecall n s).notices = s.notices := by
  unfold beginRecall
  dsimp only
  split <;> rfl

/-- A recall of a setup slot opens group 3 with as many entries as the directory counts (R16, R170). -/
theorem beginRecall_store (n : Nat) : (beginRecall n s).store =
    (if n = 15 then s
      else setGroup 3 { state := .holding, entries := [], reserved := (s.setup.dirAt n).count } s).store := by
  unfold beginRecall
  dsimp only
  split <;> rfl

/-! ## The start-up load from step 3 on (R177) -/

theorem startSetup_valid (h : (s.setup.dirAt 0).state = .valid) : startSetup s = beginRecall 0 s := if_pos h

theorem startSetup_absent (h : (s.setup.dirAt 0).state ≠ .valid) :
    startSetup s = startRecord .ok Counts.zero (modSetup (fun u => { u with setupResult := .absent }) s) := if_neg h

theorem startSetup_calResult : (startSetup s).setup.calResult = s.setup.calResult := by
  by_cases h : (s.setup.dirAt 0).state = .valid
  · rw [startSetup_valid h, beginRecall_setup]; rfl
  · rw [startSetup_absent h]; rfl

theorem startSetup_store : (startSetup s).store = { s.store with groups := (startSetup s).store.groups } := by
  by_cases h : (s.setup.dirAt 0).state = .valid
  · rw [startSetup_valid h, beginRecall_store]; rfl
  · rw [startSetup_absent h]; rfl

/-- Step 3 recalls a VALID slot 0, and otherwise ends the load (R177). -/
theorem loadsSetup_startSetup (hs : s.setup.starting = true) (hb : s.setup.calBuf = []) : s.loadsSetup (startSetup s) := by
  have hkept : s.LoadKept (startSetup s) := loadKept_startSetup
  refine ⟨hkept.starting.trans hs, ?_, hkept.flash, by rw [startSetup_store], fun h => ?_, fun h => ?_⟩
  · by_cases h : (s.setup.dirAt 0).state = .valid
    · rw [startSetup_valid h, beginRecall_setup]; rfl
    · rw [startSetup_absent h]; exact hb
  · rw [startSetup_valid h, beginRecall_setup, beginRecall_store]
    exact ⟨rfl, rfl, rfl, rfl, rfl⟩
  · rw [startSetup_absent h]
    exact ⟨rfl, rfl, rfl, rfl, rfl⟩

theorem loadsSetup_congr {u : State} (hflash : u.setup.flash = s.setup.flash) (hdir : u.setup.dirAt 0 = s.setup.dirAt 0)
    (hqueue : u.store.queue = s.store.queue) (hgroups : u.store.groups = s.store.groups) (h : u.loadsSetup t) :
    s.loadsSetup t := by
  unfold State.loadsSetup at h ⊢
  rwa [hflash, hdir, hqueue, hgroups] at h

/-- Slot 15's result, with the operation ended, before step 3 looks at slot 0 (R177). -/
def State.calDone (s : State) (r : StartResult) : State :=
  raiseIf (r == .absent) .calMissing
    (modSetup (fun u => { u with calResult := r, phase := .idle, op := .none, calBuf := [] }) s)

theorem loadKept_calDone (r : StartResult) : s.LoadKept (s.calDone r) := by
  unfold State.calDone
  cases r == .absent
  · rw [raiseIf_false]
    exact loadKept_modSetup _ rfl rfl rfl rfl
  · rw [raiseIf_true]
    exact (loadKept_modSetup _ rfl rfl rfl rfl).trans (loadKept_raise .calMissing)

theorem calDone_setup (r : StartResult) :
    (s.calDone r).setup = { s.setup with calResult := r, phase := .idle, op := .none, calBuf := [] } :=
  shell_setup (shell_raiseIf _ _)

theorem calDone_store (r : StartResult) : (s.calDone r).store = s.store := by unfold State.calDone; cases r == .absent <;> rfl

theorem loadKept_startCalDone (r : StartResult) : s.LoadKept (startCalDone r s) :=
  (loadKept_calDone r).trans loadKept_startSetup

theorem startCalDone_calResult (r : StartResult) : (startCalDone r s).setup.calResult = r :=
  startSetup_calResult.trans (congrArg Setup.calResult (calDone_setup r))

theorem startCalDone_store (r : StartResult) :
    (startCalDone r s).store = { s.store with groups := (startCalDone r s).store.groups } := by
  have h := startSetup_store (s := s.calDone r)
  rw [calDone_store] at h
  exact h

theorem startCalDone_notices {r : StartResult} :
    (startCalDone r s).notices = if r = .absent then (raise .calMissing s).notices else s.notices := by
  refine startSetup_notices.trans ?_
  cases r <;> rfl

theorem loadsSetup_startCalDone (r : StartResult) (hs : s.setup.starting = true) : s.loadsSetup (startCalDone r s) := by
  have hdone : (s.calDone r).loadsSetup (startCalDone r s) := by
    refine loadsSetup_startSetup ?_ ?_ <;> rw [calDone_setup]
    exact hs
  exact loadsSetup_congr (by rw [calDone_setup]) (by rw [calDone_setup]; rfl) (by rw [calDone_store])
    (by rw [calDone_store]) hdone

/-! ## The end of a recall (R162, R177) -/

theorem endRecall_running {r : SetupResult} (h : s.setup.starting = false) : endRecall r s = endOp r s := by
  rw [endRecall, h]
  rfl

theorem endRecall_calibration {r : SetupResult} (h : s.setup.starting = true) (hslot : s.setup.slot = 15) :
    endRecall r s = startCalDone (startResult r) s := by
  rw [endRecall, if_pos h, if_pos hslot]

/-- The record of a start-up load that ends with slot 0's reading (R177, R178). -/
def State.loaded (s : State) (r : SetupResult) : State :=
  startRecord r s.setup.counts (modSetup (fun u => { u with setupResult := startResult r }) s)

theorem endRecall_setup {r : SetupResult} (h : s.setup.starting = true) (hslot : s.setup.slot ≠ 15) :
    endRecall r s = s.loaded r := by
  rw [endRecall, if_pos h, if_neg hslot]
  rfl

theorem loaded_setup (r : SetupResult) : (s.loaded r).setup = { s.setup with
    last := { op := .start, slot := 0, result := r, counts := s.setup.counts }
    phase := .idle, op := .none, setupResult := startResult r } := rfl

theorem setsUp_loaded (r : SetupResult) : s.setsUp (s.loaded r) := rfl

/-! ## HEADER_REREAD (R171) -/

theorem exec_headerReread_agrees {fl : Flips} {h : SlotHeader} (hh : s.held = false) (hp : s.setup.phase = .readHeader)
    (hr : readHeader (s.setup.flash.bytesAsRead fl (slotBase s.setup.slot) 16) = some h) (hm : h.marker = sealed)
    (hk : h.kind = slotKind s.setup.slot) (hc : h.count = (s.setup.dirAt s.setup.slot).count) :
    exec (.headerReread fl) s = .next (if h.count = 0 then endReading s else setPhase .readEntries s) := by
  rw [exec, execHeaderReread, awake_running hh, if_pos hp]
  dsimp only
  rw [hr]
  exact congrArg Host.Outcome.next (if_pos ⟨hm, hk, hc⟩)

theorem exec_headerReread_fails {fl : Flips} (hh : s.held = false) (hp : s.setup.phase = .readHeader)
    (hd : ∀ h, readHeader (s.setup.flash.bytesAsRead fl (slotBase s.setup.slot) 16) = some h →
      h.marker ≠ sealed ∨ h.kind ≠ slotKind s.setup.slot ∨ h.count ≠ (s.setup.dirAt s.setup.slot).count) :
    exec (.headerReread fl) s = .next (failHeader s) := by
  rw [exec, execHeaderReread, awake_running hh, if_pos hp]
  dsimp only
  cases hr : readHeader (s.setup.flash.bytesAsRead fl (slotBase s.setup.slot) 16) with
  | none => rfl
  | some h => exact congrArg Host.Outcome.next (if_neg fun ⟨hm, hk, hc⟩ =>
    (hd h hr).elim (absurd hm) fun hne => hne.elim (absurd hk) (absurd hc))

/-- The directory entry BAD, and group 3 EMPTY where the recall had opened it (R169, R171). -/
def State.headerBad (s : State) : State :=
  if s.setup.slot = 15 then setDirState s.setup.slot .bad s else emptyGroup3 (setDirState s.setup.slot .bad s)

theorem failHeader_eq : failHeader s = endRecall .failHeader s.headerBad := rfl

theorem headerBad_setup : s.headerBad.setup =
    { s.setup with dir := s.setup.dir.modify s.setup.slot (fun d => { d with state := .bad }) } := by
  unfold State.headerBad
  split <;> rfl

theorem headerBad_notices : s.headerBad.notices = s.notices := by unfold State.headerBad; split <;> rfl
theorem headerBad_link : s.headerBad.link = s.link := by unfold State.headerBad; split <;> rfl

theorem headerBad_store : s.headerBad.store = (if s.setup.slot = 15 then s else setGroup 3 Group.reset s).store := by
  unfold State.headerBad
  split <;> rfl

theorem othersKept_headerBad : s.othersKept s.headerBad := by
  unfold State.headerBad
  split
  · exact othersKept_of_setsUp rfl
  · exact othersKept_trans (t := setDirState s.setup.slot .bad s) (othersKept_of_setsUp rfl) othersKept_emptyGroup3

theorem headerBad_dirAt {i : Nat} (h : i ≠ s.setup.slot) : s.headerBad.setup.dirAt i = s.setup.dirAt i := by
  simp [headerBad_setup, Setup.dirAt, h.symm]

end Sys2Proof.Machine

/-! ## The statement -/

open Sys2Proof Sys2Proof.Machine

/-- Settles O52: the checks decide the answer; a header that disagrees ends the recall with the entry BAD. -/
theorem recallOpensAndRereads : Obligations.RecallOpensAndRereads := by
  refine ⟨fun s slot h => ?_, fun s fl x hh hp hr hm hk hc hpos => ?_, fun s fl x hh hp hr hm hk hc hz => ?_,
    fun s fl hh hs hp hd => ?_, fun s fl hh hs hp hd => ?_⟩
  · obtain ⟨-, -, hstarting⟩ := takes_iff.1 h
    have h15 : slot = 15 ↔ slot.toNat = 15 := ⟨fun e => by rw [e]; rfl, fun e => BitVec.eq_of_toNat_eq e⟩
    refine ⟨fun hn => exec_recall_refused h (recallCheck_noSlot hn), fun hn hb => ?_, fun hn hp hg => ?_⟩
    · exact exec_recall_refused h (recallCheck_busy hn (hb.imp_left (setupIdle_eq_false hstarting).2))
    · have hcheck := recallCheck_idle hn ((setupIdle_iff hstarting).2 hp) hg
      refine ⟨fun hd => ?_, fun hd => ?_, fun hd hslot hfree => ?_, fun hd hroom => ?_⟩
      · exact exec_recall_refused h (hcheck.trans (by rw [hd]; rfl))
      · exact exec_recall_refused h (hcheck.trans (by rw [hd]; rfl))
      · exact exec_recall_refused h (hcheck.trans (by
          rw [hd, if_neg nofun, if_neg nofun, if_pos ⟨fun e => hslot (h15.2 e), hfree⟩]))
      · have hfree : ¬ (slot.toNat ≠ 15 ∧ s.poolFree < (s.setup.dirAt slot.toNat).count) := fun ⟨hne, hlt⟩ =>
          hroom.elim (fun e => hne (h15.1 e)) hlt.not_ge
        have haccepted : s.recallCheck slot.toNat = none :=
          hcheck.trans (by rw [hd, if_neg nofun, if_neg nofun, if_neg hfree])
        have hkept : s.LoadKept (beginRecall slot.toNat s) := loadKept_beginRecall _
        have hsetup := beginRecall_setup (s := s) slot.toNat
        refine ⟨_, exec_recall_accepted h haccepted, ⟨rfl, rfl⟩, congrArg Setup.phase hsetup, congrArg Setup.op hsetup,
          congrArg Setup.slot hsetup, congrArg Setup.counts hsetup, hkept.flash, hkept.dir, beginRecall_notices _,
          hkept.others, (beginRecall_store _).trans ?_⟩
        simp only [h15]
  · rw [exec_headerReread_agrees hh hp hr hm hk hc, if_neg hpos.ne']
  · rw [exec_headerReread_agrees hh hp hr hm hk hc, if_pos hz]
  · rw [exec_headerReread_fails hh hp hd, failHeader_eq]
    have hstarting : s.headerBad.setup.starting = true := by rw [headerBad_setup]; exact hs
    have hslot : s.headerBad.setup.slot = s.setup.slot := by rw [headerBad_setup]
    by_cases h15 : s.setup.slot = 15
    · rw [endRecall_calibration hstarting (hslot.trans h15)]
      have hkept : s.headerBad.LoadKept (startCalDone .absent s.headerBad) := loadKept_startCalDone _
      have hstore : s.headerBad.store = s.store := by rw [headerBad_store, if_pos h15]
      refine ⟨startCalDone .absent s.headerBad, rfl, hkept.dir.trans (congrArg Setup.dir headerBad_setup),
        hkept.link.trans headerBad_link,
        othersKept_trans othersKept_headerBad hkept.others, by rw [startCalDone_store, hstore],
        fun _ => ⟨?_, startCalDone_calResult _, ?_⟩, fun hne => absurd h15 hne⟩
      · rw [startCalDone_notices, if_pos rfl, raise_notices, headerBad_notices, raise_notices]
      · exact loadsSetup_congr (congrArg Setup.flash headerBad_setup :) (headerBad_dirAt (by omega))
          (congrArg Store.queue hstore) (congrArg Store.groups hstore) (loadsSetup_startCalDone .absent hstarting)
    · rw [endRecall_setup hstarting (hslot.trans_ne h15)]
      have hsets : s.headerBad.setsUp (s.headerBad.loaded .failHeader) := setsUp_loaded _
      have hstore : (s.headerBad.loaded .failHeader).store = (setGroup 3 Group.reset s).store := by
        rw [store_of_setsUp hsets, headerBad_store, if_neg h15]
      have hsetup := loaded_setup (s := s.headerBad) .failHeader
      rw [headerBad_setup] at hsetup
      exact ⟨_, rfl, congrArg Setup.dir hsetup, (link_of_setsUp hsets).trans headerBad_link,
        othersKept_trans othersKept_headerBad (othersKept_of_setsUp hsets), by rw [hstore]; rfl, fun he => absurd he h15,
        fun _ => ⟨headerBad_notices, (congrArg Setup.starting hsetup).trans hs, congrArg Setup.phase hsetup,
          congrArg Setup.op hsetup, congrArg Setup.setupResult hsetup, (congrArg Setup.calResult hsetup :),
          (congrArg Setup.flash hsetup :), congrArg Setup.last hsetup, congrArg Store.groups hstore⟩⟩
  · have hstarting : s.headerBad.setup.starting = false := by rw [headerBad_setup]; exact hs
    have hsets : s.headerBad.setsUp (endOp .failHeader s.headerBad) := setsUp_endOp _
    rw [exec_headerReread_fails hh hp hd, failHeader_eq, endRecall_running hstarting]
    exact ⟨_, rfl, rfl, rfl, (endOp_dir _).trans (congrArg Setup.dir headerBad_setup), endOp_noticed rfl,
      (endOp_flash _).trans (congrArg Setup.flash headerBad_setup :), (link_of_setsUp hsets).trans headerBad_link,
      othersKept_trans othersKept_headerBad (othersKept_of_setsUp hsets), (store_of_setsUp hsets).trans headerBad_store⟩
end

section
/-! SUPPORT. Entries read into group 3 or slot 15's buffer (R171), and the calibration write (R174). -/

namespace Sys2Proof.Machine

variable {s t : State} {fl : Flips} {d : List Byte} {f : FieldId} {v : Int}

/-! ## A standing entry (R171 steps 2 and 3) -/

theorem standingEntry_unknown (h : ∀ f, fieldOf (beNat (d.take 2)) = some f → inSnapshot s.setup.slot f = false
      ∨ ∃ n, s.setup.lastTaken = some n ∧ beNat (d.take 2) ≤ n) :
    standingEntry d s = modCounts (fun c => { c with unknown := bump c.unknown }) s := by
  unfold standingEntry
  dsimp only
  split
  · rfl
  · next f hf =>
    refine if_neg ?_
    rw [Bool.and_eq_true]
    rintro ⟨hin, hrising⟩
    obtain hout | ⟨n, hn, hle⟩ := h f hf
    · rw [hout] at hin
      cases hin
    · rw [hn] at hrising
      exact absurd (of_decide_eq_true hrising) hle.not_gt

theorem standingEntry_taken (hf : fieldOf (beNat (d.take 2)) = some f) (hin : inSnapshot s.setup.slot f = true)
    (hrising : ∀ n, s.setup.lastTaken = some n → n < beNat (d.take 2)) :
    standingEntry d s = takeEntry f (signed64 (beNat (d.drop 2))) s := by
  unfold standingEntry
  dsimp only
  rw [hf]
  refine if_pos ?_
  rw [hin, Bool.true_and]
  cases hlast : s.setup.lastTaken with
  | none => rfl
  | some n => exact decide_eq_true (hrising n hlast)

/-- The setup unit once an entry has been taken, but for slot 15's buffer (R171). -/
def Setup.taken (u : Setup) (f : FieldId) : Setup :=
  { u with
    progress := u.progress + 1, lastTaken := some (fieldCode f)
    counts := { u.counts with done := Nat.min 255 (u.counts.done + 1) } }

theorem takeEntry_setup (h : s.setup.slot ≠ 15) : takeEntry f v s = setGroup 3
    { state := (s.store.group 3).state, entries := (s.store.group 3).entries ++ [{ id := f, val := .int v }],
      reserved := (s.store.group 3).reserved - 1 } { s with setup := s.setup.taken f } := if_neg h

theorem takeEntry_calibration (h : s.setup.slot = 15) : takeEntry f v s =
    { s with setup := { s.setup.taken f with calBuf := s.setup.calBuf ++ [(f, v)] } } := if_pos h

theorem standingEntry_kept (d : List Byte) : (standingEntry d s).setup.place = s.setup.place
    ∧ (standingEntry d s).setup.slot = s.setup.slot ∧ (standingEntry d s).setup.dir = s.setup.dir := by
  have htaken (f : FieldId) (v : Int) : (takeEntry f v s).setup.place = s.setup.place
      ∧ (takeEntry f v s).setup.slot = s.setup.slot ∧ (takeEntry f v s).setup.dir = s.setup.dir := by
    by_cases h : s.setup.slot = 15
    · rw [takeEntry_calibration h]; exact ⟨rfl, rfl, rfl⟩
    · rw [takeEntry_setup h]; exact ⟨rfl, rfl, rfl⟩
  unfold standingEntry
  dsimp only
  split
  · exact ⟨rfl, rfl, rfl⟩
  · next f _ =>
    generalize (inSnapshot s.setup.slot f && _) = b
    cases b
    · exact ⟨rfl, rfl, rfl⟩
    · exact htaken _ _

/-! ## ENTRY_READ (R171) -/

/-- The state whose next place has been counted as read. -/
def State.placed (s : State) (c : Counts) : State :=
  { s with setup := { s.setup with place := s.setup.place + 1, counts := c } }

/-- The bytes of the next place as read. -/
def State.entryAsRead (s : State) (fl : Flips) : List Byte :=
  s.setup.flash.bytesAsRead fl (placeBase s.setup.slot (s.setup.place + 1)) 11

theorem readEntry_uncorrectable (h : testCheck ((s.entryAsRead fl).take 10) ((s.entryAsRead fl).getD 10 0) = .uncorrectable) :
    readEntry fl s = s.placed { s.setup.counts with uncorrectable := Nat.min 255 (s.setup.counts.uncorrectable + 1) } := by
  rw [State.entryAsRead] at h
  unfold readEntry
  dsimp only
  rw [h]
  simp only [modCounts, modSetup, State.placed, bump]

theorem readEntry_standing {c : Counts}
    (h : (testCheck ((s.entryAsRead fl).take 10) ((s.entryAsRead fl).getD 10 0) = .clean d ∧ c = s.setup.counts)
      ∨ (testCheck ((s.entryAsRead fl).take 10) ((s.entryAsRead fl).getD 10 0) = .corrected d
        ∧ c = { s.setup.counts with corrected := Nat.min 255 (s.setup.counts.corrected + 1) })) :
    readEntry fl s = standingEntry d (s.placed c) := by
  rw [State.entryAsRead] at h
  unfold readEntry
  dsimp only
  obtain ⟨h, rfl⟩ | ⟨h, rfl⟩ := h
  · rw [h]
    rfl
  · rw [h]
    simp only [modCounts, modSetup, State.placed, bump]

theorem readEntry_kept (fl : Flips) : (readEntry fl s).setup.place = s.setup.place + 1
    ∧ (readEntry fl s).setup.slot = s.setup.slot ∧ (readEntry fl s).setup.dir = s.setup.dir := by
  cases h : testCheck ((s.entryAsRead fl).take 10) ((s.entryAsRead fl).getD 10 0) with
  | clean d => rw [readEntry_standing (.inl ⟨h, rfl⟩)]; exact standingEntry_kept d
  | corrected d => rw [readEntry_standing (.inr ⟨h, rfl⟩)]; exact standingEntry_kept d
  | uncorrectable => rw [readEntry_uncorrectable h]; exact ⟨rfl, rfl, rfl⟩

theorem exec_entryRead (fl : Flips) (hh : s.held = false) (hp : s.setup.phase = .readEntries) :
    exec (.entryRead fl) s = .next
      (if (s.setup.dirAt s.setup.slot).count ≤ s.setup.place + 1 then endReading (readEntry fl s) else readEntry fl s) := by
  obtain ⟨hplace, hslot, hdir⟩ := readEntry_kept (s := s) fl
  have hcount : (readEntry fl s).setup.dirAt (readEntry fl s).setup.slot = s.setup.dirAt s.setup.slot := by
    rw [Setup.dirAt, hdir, hslot, Setup.dirAt]
  rw [exec, execEntryRead, awake_running hh, if_pos hp]
  dsimp only
  rw [hcount, hplace]

/-! ## The calibration write (R174) -/

/-- The fields of slot 15's snapshot: the knots and the gain trim of a channel (R164). -/
theorem inSnapshot_calibration : inSnapshot 15 f = true ↔ f.kind = .channel ∧ f.inst < 4 ∧ 10 ≤ f.num ∧ f.num ≤ 19 := by
  rw [inSnapshot, if_pos rfl, Bool.and_eq_true, decide_eq_true_eq, Bool.and_eq_true, beq_iff_eq, decide_eq_true_eq]
  exact ⟨fun ⟨hinst, hkind, hnum⟩ => ⟨hkind, by rw [hkind] at hinst; exact hinst, hnum⟩,
    fun ⟨hkind, hinst, hnum⟩ => ⟨by rw [hkind]; exact hinst, hkind, hnum⟩⟩

theorem stored_calibration (h : inSnapshot 15 f = true) : f.stored = true := by
  obtain ⟨hkind, hinst, -, hnum⟩ := inSnapshot_calibration.1 h
  obtain ⟨k, i, n⟩ := f
  obtain rfl : k = .channel := hkind
  exact decide_eq_true ⟨hinst, hnum.trans_lt (by decide : 19 < channelSpecs.length), nofun⟩

theorem limitedTo_calibration (h : inSnapshot 15 f = true) (v : Int) :
    limitedTo f v = if f.num = 19 then limit 24576 40960 v else limit (-32) 31 v := by
  obtain ⟨hkind, -, hlo, hhi⟩ := inSnapshot_calibration.1 h
  obtain ⟨k, i, n⟩ := f
  obtain rfl : k = .channel := hkind
  dsimp only at hlo hhi
  interval_cases n <;> simp [limitedTo, specAt, specsOf, channelSpecs]

/-- What the calibration write stores, entry by entry. -/
def calWrites (es : List (FieldId × Int)) : List (FieldId × Int) := es.map fun e => (e.1, limitedTo e.1 e.2)

theorem calWrites_fields (es : List (FieldId × Int)) : (calWrites es).map Prod.fst = es.map (·.1) := by
  simp [calWrites, Function.comp_def]

theorem calibrationWrite_eq {es : List (FieldId × Int)} (h : ∀ e, e ∈ es → inSnapshot 15 e.1 = true) :
    calibrationWrite es s = setVals (calWrites es) s := by
  have hconfig {e : FieldId × Int} (he : inSnapshot 15 e.1 = true) (x : Int) (s : State) :
      configWrite e.1 x s = setVal e.1 x s := by
    rw [configWrite, (inSnapshot_calibration.1 he).1]
  induction es generalizing s with
  | nil => rfl
  | cons e es ih =>
    rw [calibrationWrite, List.foldl_cons, hconfig (h e List.mem_cons_self), ← calibrationWrite,
      ih fun e he => h e (List.mem_cons_of_mem _ he)]
    rfl

theorem setVals_eq (ws : List (FieldId × Int)) : setVals ws s = { s with store := (setVals ws s).store } := by
  induction ws generalizing s with
  | nil => rfl
  | cons w ws ih => exact ih

/-- The fields that a calibration reading leaves: each as its entry says, limited to its range, the others as they were (R174). -/
theorem get_calibrationWrite {es : List (FieldId × Int)} (ht : s.tableKept = true)
    (hd : (es.map (·.1)).Pairwise (· ≠ ·)) (h : ∀ e, e ∈ es → inSnapshot 15 e.1 = true) :
    (∀ f v, (f, v) ∈ es → (calibrationWrite es s).get f = if f.num = 19 then limit 24576 40960 v else limit (-32) 31 v)
    ∧ ∀ f, f ∉ es.map (·.1) → (calibrationWrite es s).get f = s.get f := by
  rw [calibrationWrite_eq h]
  refine ⟨fun f v hf => ?_, fun f hf => ?_⟩
  · have hin := h (f, v) hf
    rw [← limitedTo_calibration hin]
    exact get_setVals ht (stored_calibration hin) (List.mem_map.2 ⟨(f, v), hf, rfl⟩) (by rw [calWrites_fields]; exact hd)
  · exact get_setVals_other (by rwa [calWrites_fields])

theorem othersKept_setVals (ws : List (FieldId × Int)) : s.othersKept (setVals ws s) := by
  rw [setVals_eq]
  exact ⟨rfl, rfl, rfl, rfl, rfl, rfl, rfl, rfl, rfl, rfl⟩

theorem setVals_groups (ws : List (FieldId × Int)) : (setVals ws s).store.groups = s.store.groups :=
  setVals_keeps (fun s => s.store.groups) (fun _ _ _ => setTable_groups _ _ _) ws s

theorem setVals_queue (ws : List (FieldId × Int)) : (setVals ws s).store.queue = s.store.queue :=
  setVals_keeps (fun s => s.store.queue) (fun _ _ _ => setTable_queue _ _ _) ws s

theorem get_of_setsUp (h : s.setsUp t) (f : FieldId) : t.get f = s.get f :=
  get_congr (fun _ => by rw [store_of_setsUp h]) (by rw [h]) f

theorem State.LoadKept.get (h : s.LoadKept t) (f : FieldId) : t.get f = s.get f := by
  obtain ⟨-, -, hsweep, -⟩ := h.others
  exact get_congr h.table (congrArg Sweep.acq hsweep) f

/-! ## The end of a reading (R172, R174) -/

theorem endReading_setup (h : s.setup.slot ≠ 15) : endReading s = launch3 s := if_neg h

theorem endReading_calibration (h : s.setup.slot = 15) :
    endReading s = endRecall (readResult s.setup.counts) (calibrationWrite s.setup.calBuf s) := if_pos h

theorem startResult_readResult (c : Counts) : startResult (readResult c) = loadResult c := by
  unfold readResult loadResult
  split
  · rfl
  · split <;> rfl

theorem loadResult_ne (c : Counts) : loadResult c ≠ .absent := by
  unfold loadResult
  split
  · exact nofun
  · split <;> exact nofun

theorem isDone_readResult (c : Counts) : isDone (readResult c) = true ↔ c.uncorrectable + c.unknown = 0 := by
  unfold readResult
  split
  · next h => exact ⟨nofun, fun hz => absurd hz h.ne'⟩
  · next h => exact ⟨fun _ => Nat.eq_zero_of_not_pos h, fun _ => by split <;> rfl⟩

end Sys2Proof.Machine
end

section
/-! SUPPORT. The launch of group 3 (R172). -/

namespace Sys2Proof.Machine

variable {s : State}

/-- Group 3 LAUNCHED, the entries it had not filled returned to the pool (R16, R123, R172). -/
def State.launched3 (s : State) : State :=
  foldIf (decide (0 < (s.store.group 3).reserved)) oweRetry
    (setGroup 3 { state := .launched, entries := [], reserved := 0 } s)

theorem launched3_eq : s.launched3 = { (setGroup 3 { state := .launched, entries := [], reserved := 0 } s) with
    panel := { s.panel with retryDue := s.launched3.panel.retryDue } } := by
  unfold State.launched3
  cases decide (0 < (s.store.group 3).reserved) <;> rfl

theorem othersKept_launched3 : s.othersKept s.launched3 := by
  rw [launched3_eq]
  exact ⟨rfl, rfl, rfl, rfl, rfl, rfl, rfl, rfl, rfl, rfl⟩

theorem launch3_empty (h : (s.store.group 3).entries = []) :
    launch3 s = endRecall (readResult s.setup.counts) (emptyGroup3 s) := if_pos (List.isEmpty_iff.2 h)

theorem launch3_full (h : (s.store.group 3).entries ≠ []) (hq : 16 ≤ s.store.queue.length) :
    launch3 s = setPhase .launchWait s :=
  (if_neg (mt List.isEmpty_iff.1 h)).trans (if_pos hq)

theorem launch3_launches (h : (s.store.group 3).entries ≠ []) (hq : s.store.queue.length < 16) :
    launch3 s = joinQueue .recall (s.store.group 3).entries (endRecall (readResult s.setup.counts) s.launched3) :=
  (if_neg (mt List.isEmpty_iff.1 h)).trans (if_neg (Nat.not_le.2 hq))

/-- The launched change applies or waits; it reaches neither the setup unit, nor the link, nor the renderer. -/
theorem joinQueue_kept {o : Origin} {es : List Entry} : (joinQueue o es s).setup = s.setup
    ∧ (joinQueue o es s).link = s.link ∧ (joinQueue o es s).rend = s.rend :=
  ⟨shell_setup (shell_joinQueue o es), shell_link (shell_joinQueue o es), shell_rend (shell_joinQueue o es)⟩

theorem exec_group3LaunchRetry (hh : s.held = false) (hp : s.setup.phase = .launchWait) :
    exec .group3LaunchRetry s = .next (launch3 s) :=
  (awake_running hh).trans (congrArg Host.Outcome.next (if_pos hp))

end Sys2Proof.Machine
end

section
/-! SUPPORT. Which records are live, with which generations (R2, R12, R13): what a recall's change does to them, and that
nothing else it does moves them (R173). -/

namespace Sys2Proof.Machine

variable {s t : State} {k : Kind} {i : Nat}

/-- Live or free, and the generation. -/
def Rec.mark (r : Rec) : Bool × Nat := (r.live, r.gen)

/-- The marks of every kind's records, in instance order. -/
def State.marks (s : State) : Kind → List (Bool × Nat) := fun k => (s.store.table k).map Rec.mark

theorem mark_recAt (k : Kind) (i : Nat) : (s.recAt k i).mark = (s.marks k)[i]?.getD (false, 0) := by
  rw [State.recAt, State.marks, List.getD_eq_getElem?_getD, List.getElem?_map]
  cases (s.store.table k)[i]? <;> rfl

theorem isLive_of_marks (k : Kind) (i : Nat) : s.isLive k i = ((s.marks k)[i]?.getD (false, 0)).1 :=
  congrArg Prod.fst (mark_recAt k i)

theorem gen_of_marks (k : Kind) (i : Nat) : (s.recAt k i).gen = ((s.marks k)[i]?.getD (false, 0)).2 :=
  congrArg Prod.snd (mark_recAt k i)

/-! ## Updates -/

theorem marks_of_table (h : ∀ k, t.store.table k = s.store.table k) : t.marks = s.marks :=
  funext fun k => congrArg (List.map Rec.mark) (h k)

/-- What a change of one record does to its mark it does to the table's. -/
theorem marks_modRec {g : Rec → Rec} {m : Bool × Nat → Bool × Nat} (h : ∀ r, (g r).mark = m r.mark) (k' : Kind) :
    (modRec k i g s).marks k' = if k' = k then (s.marks k).modify i m else s.marks k' := by
  unfold State.marks
  rw [modRec_store]
  split
  · next hk =>
    subst hk
    rw [table_setTable]
    apply List.ext_getElem?
    intro n
    rw [List.getElem?_map, List.getElem?_modify, List.getElem?_modify, List.getElem?_map]
    cases (s.store.table k')[n]? with
    | none => rfl
    | some r => by_cases hn : i = n <;> simp [hn, h]
  · next hk => rw [table_setTable_other _ _ hk]

theorem marks_modRec_kept {g : Rec → Rec} (h : ∀ r, (g r).mark = r.mark) : (modRec k i g s).marks = s.marks := by
  funext k'
  rw [marks_modRec (m := id) h]
  split
  · next hk => rw [hk, List.modify_id]
  · rfl

@[simp] theorem marks_setVal (f : FieldId) (v : Int) : (setVal f v s).marks = s.marks := marks_modRec_kept fun _ => rfl
@[simp] theorem marks_setText (n : Nat) (x : List Byte) : (setText n x s).marks = s.marks := marks_modRec_kept fun _ => rfl
@[simp] theorem marks_withGroups (g : List Group) (q : List Change) :
    ({ s with store := { s.store with groups := g, queue := q } } : State).marks = s.marks :=
  marks_of_table fun k => by cases k <;> rfl
@[simp] theorem marks_setGroup (n : Nat) (x : Group) : (setGroup n x s).marks = s.marks :=
  marks_of_table fun k => by cases k <;> rfl
@[simp] theorem marks_withMeas (m : Meas) : ({ s with meas := m } : State).marks = s.marks := rfl
@[simp] theorem marks_withTrig (x : Trig) : ({ s with trig := x } : State).marks = s.marks := rfl
@[simp] theorem marks_oweRetry : (oweRetry s).marks = s.marks := rfl
@[simp] theorem marks_raise (n : Source) : (raise n s).marks = s.marks := rfl
@[simp] theorem marks_settleRequest (x : Option Nat) : (settleRequest x s).marks = s.marks := rfl
@[simp] theorem marks_clearShown (c : Nat) : (clearShown c s).marks = s.marks := rfl
@[simp] theorem marks_raiseIf (b : Bool) (n : Source) : (raiseIf b n s).marks = s.marks := by cases b <;> rfl
@[simp] theorem marks_emptyOrigin (o : Origin) : (emptyOrigin o s).marks = s.marks := by
  cases o <;> simp [emptyOrigin]
@[simp] theorem marks_setCarry (c : Nat) (v : Int) : (setCarry c v s).marks = s.marks := by
  unfold setCarry; split <;> rfl
@[simp] theorem marks_dropEntry : (dropEntry s).marks = s.marks := marks_of_table fun k => by cases k <;> rfl

@[simp] theorem marks_foldl {α : Type} (g : State → α → State) (h : ∀ s x, (g s x).marks = s.marks) (l : List α) (s : State) :
    (l.foldl g s).marks = s.marks := foldl_keeps State.marks g h l s

@[simp] theorem marks_forChannels (g : Nat → State → State) (h : ∀ c s, (g c s).marks = s.marks) (s : State) :
    (forChannels g s).marks = s.marks := forChannels_keeps State.marks h s

@[simp] theorem marks_foldIf (b : Bool) (g : State → State) (s : State) :
    (foldIf b g s).marks = if b = true then (g s).marks else s.marks := by cases b <;> rfl

/-! ## What the owners do with a change (R26) -/

@[simp] theorem marks_feStart : (feStart s).marks = s.marks := by rw [feStart_eq]; rfl

@[simp] theorem marks_feUpdate (c : Nat) : (feUpdate c s).marks = s.marks := by unfold feUpdate; dsimp only; split <;> rfl

@[simp] theorem marks_levelRecompute : (levelRecompute s).marks = s.marks := by simp [levelRecompute]

@[simp] theorem marks_trackingOff : (trackingOff s).marks = s.marks :=
  (marks_withTrig _).trans (marks_setVal _ _)

@[simp] theorem marks_autoLevelAfter (b : State) (e : Bool) : (autoLevelAfter b e s).marks = s.marks := by
  unfold autoLevelAfter
  dsimp only
  split
  · simp
  · split
    · simp
    · split <;> rfl

@[simp] theorem marks_disarmIfChanged (b : State) : (disarmIfChanged b s).marks = s.marks := by
  unfold disarmIfChanged; split <;> rfl

@[simp] theorem marks_clearStats (n : Nat) : (clearStats n s).marks = s.marks :=
  (marks_withMeas _).trans (marks_foldl _ (fun _ f => marks_setVal f 0) _ s)

@[simp] theorem marks_clearAllStats : (clearAllStats s).marks = s.marks := by simp [clearAllStats]

@[simp] theorem marks_definitionChange (n : Nat) : (definitionChange n s).marks = s.marks :=
  (marks_withMeas _).trans (by simp)

@[simp] theorem marks_sweepModeWritten (b : State) : (sweepModeWritten b s).marks = s.marks := by
  unfold sweepModeWritten
  repeat' split
  all_goals rfl

@[simp] theorem marks_rescale (w : List FieldId) (c : Nat) : (rescale w c s).marks = s.marks := by simp [rescale]

@[simp] theorem marks_consequences (b : State) (w : List FieldId) (es : List Entry) (g : List Nat) :
    (consequences b w es g s).marks = s.marks := by simp [consequences]

/-! ## Entries and re-clamps (R24, R25) -/

theorem marks_applyEntry (r : Bool) (acc : State × List FieldId) (e : Entry) :
    (applyEntry r acc e).1.marks = acc.1.marks := by
  unfold applyEntry
  split
  · simp
  · split <;> simp

theorem marks_applyEntries (r : Bool) (es : List Entry) (acc : State × List FieldId) :
    (es.foldl (applyEntry r) acc).1.marks = acc.1.marks := by
  induction es generalizing acc with
  | nil => rfl
  | cons e es ih => exact (ih _).trans (marks_applyEntry r acc e)

@[simp] theorem marks_reclampOffset (c : Nat) : (reclampOffset c s).marks = s.marks := by simp [reclampOffset]
@[simp] theorem marks_reclampPosition (n : Nat) : (reclampPosition n s).marks = s.marks := by simp [reclampPosition]
@[simp] theorem marks_reclampWide : (reclampWide s).marks = s.marks := by simp [reclampWide]

@[simp] theorem marks_reclampMeasurement (n : Nat) : (reclampMeasurement n s).marks = s.marks := by
  unfold reclampMeasurement; dsimp only; split <;> simp

@[simp] theorem marks_readoutAgree (o : Nat) : (readoutAgree o s).marks = s.marks := by
  unfold readoutAgree; dsimp only; split <;> simp

@[simp] theorem marks_reclamps (es : List Entry) (w : List FieldId) : (reclamps es w s).marks = s.marks := by
  simp [reclamps]

/-! ## Retirement and creation (R12 to R15) -/

@[simp] theorem marks_removeEntries (k : Kind) (i : Nat) : (removeEntries k i s).marks = s.marks := by
  simp [removeEntries]

@[simp] theorem marks_voidBinds (h : Int) (o : Nat) : (voidBinds h o s).marks = s.marks := by simp [voidBinds]

@[simp] theorem marks_dropBinding (k : Kind) (i b : Nat) : (dropBinding k i b s).marks = s.marks := by
  unfold dropBinding; split <;> simp

@[simp] theorem marks_dropLamp (k : Kind) (i l : Nat) : (dropLamp k i l s).marks = s.marks := by
  unfold dropLamp; split <;> simp

@[simp] theorem marks_dropGate (h : Int) (m : Nat) : (dropGate h m s).marks = s.marks := by
  unfold dropGate; dsimp only; split <;> simp

@[simp] theorem marks_dropMeasurement (n : Nat) : (dropMeasurement n s).marks = s.marks := rfl

/-- A retired record's mark: free, with the next generation (R13). -/
def retiredMark (m : Bool × Nat) : Bool × Nat := (false, (m.2 + 1) % 16)

/-- A record made keeps its generation (R12). -/
def madeMark (m : Bool × Nat) : Bool × Nat := (true, m.2)

/-- Retirement's clean-up moves no mark but the retired record's. -/
theorem marks_retireRec (k : Kind) (i : Nat) (k' : Kind) :
    (retireRec k i s).marks k' = if k' = k then (s.marks k).modify i retiredMark else s.marks k' := by
  have hfree : (retireRec k i s).marks = (freeRec k i s).marks := by
    unfold retireRec
    dsimp only
    split <;> split <;> simp
  rw [hfree]
  exact marks_modRec (fun _ => rfl) k'

theorem marks_createRec (k : Kind) (i : Nat) (k' : Kind) :
    (createRec k i s).marks k' = if k' = k then (s.marks k).modify i madeMark else s.marks k' := by
  rw [← marks_modRec (g := fun r => { live := true, gen := r.gen, vals := defaultVals k i, text := [] }) fun _ => rfl]
  unfold createRec
  dsimp only
  split <;> rfl

/-! ## A recall's change (R173) -/

/-- One phase of a recall's work on the records: the chosen instances of one kind, one after the other. -/
theorem getElem?_marks_foldl {g : State → Nat → State} {m : Bool × Nat → Bool × Nat}
    (h : ∀ s i k', (g s i).marks k' = if k' = k then (s.marks k).modify i m else s.marks k')
    (p : Nat → Bool) (n : Nat) (k' : Kind) (i : Nat) :
    (((List.range n).foldl (fun s i => if p i = true then g s i else s) s).marks k')[i]? =
      (s.marks k')[i]?.map fun x => if k' = k ∧ i < n ∧ p i = true then m x else x := by
  by_cases hk : k' = k
  · subst hk
    have hstep : ∀ s i, (if p i = true then g s i else s).marks k' =
        (s.marks k').modify i fun x => if p i = true then m x else x := by
      intro s i
      split
      · rw [h, if_pos rfl]
      · exact (List.modify_id _ _).symm
    rw [← List.foldl_hom (fun s : State => s.marks k')
      (g₂ := fun l i => l.modify i fun x => if p i = true then m x else x) (fun s i => (hstep s i).symm), getElem?_foldl_modify]
    congr 1
    funext x
    by_cases hi : i < n <;> simp [hi]
  · have hkept : ((List.range n).foldl (fun s i => if p i = true then g s i else s) s).marks k' = s.marks k' := by
      refine foldl_keeps (fun s => s.marks k') _ (fun s i => ?_) _ s
      split
      · rw [h, if_neg hk]
      · rfl
    rw [hkept]
    simp [hk]

/-- Every live record of a kind retired. -/
theorem getElem?_marks_retireLive (k k' : Kind) (i : Nat) :
    (((s.liveOf k).foldl (fun s i => retireRec k i s) s).marks k')[i]? =
      (s.marks k')[i]?.map fun x => if k' = k ∧ i < kindSize k ∧ x.1 = true then retiredMark x else x := by
  have hfold : (((s.liveOf k).foldl (fun s i => retireRec k i s) s).marks k')[i]? = (s.marks k')[i]?.map fun x =>
      if k' = k ∧ i < kindSize k ∧ s.isLive k i = true then retiredMark x else x := by
    rw [State.liveOf, List.foldl_filter]
    exact getElem?_marks_foldl (fun _ i k' => marks_retireRec k i k') (s.isLive k) (kindSize k) k' i
  rw [hfold]
  cases hx : (s.marks k')[i]? with
  | none => rfl
  | some x =>
    by_cases hk : k' = k
    · subst hk
      rw [isLive_of_marks, hx]
      rfl
    · simp [hk]

theorem getElem?_marks_createTouched (es : List Entry) (k k' : Kind) (n i : Nat) :
    (((List.range n).foldl (fun s i => foldIf (touches es k i) (createRec k i) s) s).marks k')[i]? =
      (s.marks k')[i]?.map fun x => if k' = k ∧ i < n ∧ touches es k i = true then madeMark x else x :=
  getElem?_marks_foldl (fun _ i k' => marks_createRec k i k') (touches es k) n k' i

/-- What a recall's change does to the mark of an instance of the kinds it retires and makes again. -/
def recalledMark (touched : Bool) (x : Bool × Nat) : Bool × Nat :=
  let freed := if x.1 = true then retiredMark x else x
  if touched = true then madeMark freed else freed

theorem recalledMark_live (b : Bool) (x : Bool × Nat) : (recalledMark b x).1 = b := by
  obtain ⟨live, gen⟩ := x
  cases b <;> cases live <;> rfl

theorem recalledMark_gen (b : Bool) (x : Bool × Nat) :
    (recalledMark b x).2 = if x.1 = true then (x.2 + 1) % 16 else x.2 := by
  obtain ⟨live, gen⟩ := x
  cases b <;> cases live <;> rfl

theorem marks_recallRecords_cursor (es : List Entry) (h : i < 4) :
    ((recallRecords es s).marks .cursor)[i]? = (s.marks .cursor)[i]?.map (recalledMark (touches es .cursor i)) := by
  unfold recallRecords
  simp only [getElem?_marks_createTouched, getElem?_marks_retireLive, Option.map_map]
  congr 1
  funext x
  simp [recalledMark, h, kindSize]

theorem marks_recallRecords_measurement (es : List Entry) (h : i < 8) :
    ((recallRecords es s).marks .measurement)[i]? =
      (s.marks .measurement)[i]?.map (recalledMark (touches es .measurement i)) := by
  unfold recallRecords
  simp only [getElem?_marks_createTouched, getElem?_marks_retireLive, Option.map_map]
  congr 1
  funext x
  simp [recalledMark, h, kindSize]

theorem marks_recallRecords_object (es : List Entry) (i : Nat) :
    ((recallRecords es s).marks .object)[i]? = (s.marks .object)[i]? := by
  unfold recallRecords
  simp [getElem?_marks_createTouched, getElem?_marks_retireLive]

/-- After its records, a recall's change moves no mark. -/
theorem marks_applyChange_recall {c : Change} (hc : c.origin = .recall) :
    (applyChange c s).marks = (recallRecords (inFieldOrder c.entries) s).marks := by
  unfold applyChange
  dsimp only
  rw [marks_oweRetry, marks_emptyOrigin, marks_consequences, marks_reclamps, marks_applyEntries, hc]
  rfl

theorem any_insertEntry (p : Entry → Bool) (e : Entry) (es : List Entry) : (insertEntry e es).any p = (p e || es.any p) := by
  induction es with
  | nil => rfl
  | cons x es ih =>
    rw [insertEntry]
    split
    · rfl
    · rw [List.any_cons, ih, List.any_cons, Bool.or_left_comm]

theorem touches_inFieldOrder (es : List Entry) (k : Kind) (i : Nat) : touches (inFieldOrder es) k i = touches es k i := by
  induction es with
  | nil => rfl
  | cons e es ih => exact (any_insertEntry _ e (inFieldOrder es)).trans (congrArg (ofRecord k i e.id || ·) ih)

theorem marks_length (h : s.tableKept = true) (k : Kind) : (s.marks k).length = kindSize k :=
  (List.length_map _).trans (tableKept_iff.1 h k).1

/-- A record whose mark a recall has worked on: live if the recall holds an entry of it, its generation one on if it
was live before. -/
theorem recalled_of_marks {b : Bool} (h : s.tableKept = true) (hi : i < kindSize k)
    (ht : (t.marks k)[i]? = (s.marks k)[i]?.map (recalledMark b)) :
    t.isLive k i = b ∧ (t.recAt k i).gen =
      if s.isLive k i = true then ((s.recAt k i).gen + 1) % 16 else (s.recAt k i).gen := by
  have hlen := marks_length h k
  rw [isLive_of_marks, gen_of_marks, isLive_of_marks, gen_of_marks, ht,
    List.getElem?_eq_getElem (l := s.marks k) (by omega)]
  exact ⟨recalledMark_live b _, recalledMark_gen b _⟩

theorem group3_emptyOrigin_recall : ((oweRetry (emptyOrigin .recall s)).store.group 3).state = .empty := by
  change ((s.store.groups.set 3 Group.reset).getD 3 Group.reset).state = GroupState.empty
  rw [List.getD_eq_getElem?_getD, List.getElem?_set_self']
  cases s.store.groups[3]? <;> rfl

theorem group3_applyChange_recall {c : Change} (hc : c.origin = .recall) :
    ((applyChange c s).store.group 3).state = .empty := by
  unfold applyChange
  rw [hc]
  exact group3_emptyOrigin_recall

end Sys2Proof.Machine
end

section
/-! SUPPORT. The ends of a reading: slot 15's buffer written, group 3 launched (R172, R174, R177, R178). -/

namespace Sys2Proof.Machine

variable {s t : State} {fl : Flips} {d : List Byte} {f : FieldId} {v : Int} {c : Counts}

/-- An entry taken: the place is read, the field's code is the highest taken, and one more is done (R171). -/
theorem readEntry_taken
    (h : (testCheck ((s.entryAsRead fl).take 10) ((s.entryAsRead fl).getD 10 0) = .clean d ∧ c = s.setup.counts)
      ∨ (testCheck ((s.entryAsRead fl).take 10) ((s.entryAsRead fl).getD 10 0) = .corrected d
        ∧ c = { s.setup.counts with corrected := Nat.min 255 (s.setup.counts.corrected + 1) }))
    (hf : fieldOf (beNat (d.take 2)) = some f) (hin : inSnapshot s.setup.slot f = true)
    (hrising : ∀ n, s.setup.lastTaken = some n → n < beNat (d.take 2)) :
    readEntry fl s = takeEntry f (signed64 (beNat (d.drop 2))) (s.placed c) :=
  (readEntry_standing h).trans (standingEntry_taken (s := s.placed c) hf hin hrising)

theorem readEntry_unknown
    (h : (testCheck ((s.entryAsRead fl).take 10) ((s.entryAsRead fl).getD 10 0) = .clean d ∧ c = s.setup.counts)
      ∨ (testCheck ((s.entryAsRead fl).take 10) ((s.entryAsRead fl).getD 10 0) = .corrected d
        ∧ c = { s.setup.counts with corrected := Nat.min 255 (s.setup.counts.corrected + 1) }))
    (hu : ∀ f, fieldOf (beNat (d.take 2)) = some f → inSnapshot s.setup.slot f = false
      ∨ ∃ n, s.setup.lastTaken = some n ∧ beNat (d.take 2) ≤ n) :
    readEntry fl s = s.placed { c with unknown := Nat.min 255 (c.unknown + 1) } := by
  rw [readEntry_standing h, standingEntry_unknown (s := s.placed c) hu]
  simp only [modCounts, modSetup, State.placed, bump]

/-- The calibration write moves values alone (R174). -/
theorem calibrationWrite_kept {es : List (FieldId × Int)} (h : ∀ e, e ∈ es → inSnapshot 15 e.1 = true) :
    (calibrationWrite es s).setup = s.setup ∧ (calibrationWrite es s).notices = s.notices
    ∧ (calibrationWrite es s).link = s.link ∧ (calibrationWrite es s).store.groups = s.store.groups
    ∧ (calibrationWrite es s).store.queue = s.store.queue
    ∧ s.othersKept (calibrationWrite es s) := by
  rw [calibrationWrite_eq h]
  have hstore := setVals_eq (s := s) (calWrites es)
  exact ⟨(congrArg State.setup hstore :), (congrArg State.notices hstore :), (congrArg State.link hstore :),
    setVals_groups _, setVals_queue _, othersKept_setVals _⟩

/-- A launch with room: the change joins the queue once the recall has ended, with group 3 LAUNCHED (R172). -/
theorem launch3_ended {u : State} (he : (s.store.group 3).entries ≠ []) (hq : s.store.queue.length < 16)
    (hu : endRecall (readResult s.setup.counts) s.launched3 = u) (hsets : s.launched3.setsUp u) :
    launch3 s = joinQueue .recall (s.store.group 3).entries u
    ∧ u.store = (setGroup 3 { state := .launched, entries := [], reserved := 0 } s).store ∧ u.link = s.link
    ∧ s.othersKept u ∧ (launch3 s).setup = u.setup ∧ (launch3 s).link = s.link ∧ (launch3 s).rend = s.rend := by
  have hlaunch : launch3 s = joinQueue .recall (s.store.group 3).entries u := by rw [launch3_launches he hq, hu]
  have hothers : s.othersKept u := othersKept_trans othersKept_launched3 (othersKept_of_setsUp hsets)
  have hlink : u.link = s.link := (link_of_setsUp hsets).trans (by rw [launched3_eq]; rfl)
  have hstore : u.store = s.launched3.store := store_of_setsUp hsets
  obtain ⟨-, -, -, -, -, hrend, -⟩ := id hothers
  obtain ⟨hjsetup, hjlink, hjrend⟩ := joinQueue_kept (s := u) (o := .recall) (es := (s.store.group 3).entries)
  rw [hlaunch]
  exact ⟨rfl, hstore.trans (by rw [launched3_eq]), hlink, hothers, hjsetup, hjlink.trans hlink, hjrend.trans hrend⟩

theorem launched3_setup : s.launched3.setup = s.setup := by rw [launched3_eq]; rfl
theorem launched3_notices : s.launched3.notices = s.notices := by rw [launched3_eq]; rfl

theorem endOp_setup (r : SetupResult) : (endOp r s).setup = { s.setup with
    last := { op := s.setup.op, slot := s.setup.slot, result := r, counts := s.setup.counts }
    phase := .idle, op := .none, snapshot := [], calBuf := [] } := rfl

theorem endOp_notices_read (c : Counts) : (endOp (readResult c) s).notices =
    (raise (if c.uncorrectable + c.unknown = 0 then .setupDone else .setupFail) s).notices := by
  rw [endOp, raise_notices, raise_notices]
  simp only [isDone_readResult]
  rfl

theorem setPhase_same {p : Phase} (h : s.setup.phase = p) : setPhase p s = s := by
  subst h
  rfl

end Sys2Proof.Machine

/-! ## The statement -/

open Sys2Proof Sys2Proof.Machine

/-- Settles O53: an entry is skipped or taken by its check and its field; the reading ends with the buffer written or group 3
launched; the change launched retires the cursors and measurements and makes again those it holds entries for. -/
theorem entriesReadAndLaunched : Obligations.EntriesReadAndLaunched := by
  refine ⟨fun s fl hh hp => exec_entryRead fl hh hp, fun s fl bs d c hbs => ?_, fun s hs => endReading_setup hs,
    fun s hslot hs ht hd hin => ?_, fun s hslot hs ht hd hin => ?_, fun s hh hp => exec_group3LaunchRetry hh hp,
    fun s hh hp he hq => ?_, fun s he hq => launch3_full he hq, fun s hs he => ?_, fun s hs he hq => ?_,
    fun s hs hslot he => ?_, fun s hs hslot he hq => ?_, fun s c ht hc => ?_⟩
  · subst hbs
    refine ⟨readEntry_uncorrectable, fun hread => ⟨readEntry_unknown hread, fun f v u hf hin hrising hv hu => ?_⟩⟩
    subst hu hv
    rw [readEntry_taken hread hf hin hrising]
    exact ⟨takeEntry_setup (s := s.placed c), takeEntry_calibration (s := s.placed c)⟩
  · obtain ⟨hsetup, -, hlink, hgroups, hqueue, hothers⟩ := calibrationWrite_kept (s := s) hin
    obtain ⟨hget, hgetOther⟩ := get_calibrationWrite ht hd hin
    rw [endReading_calibration hslot]
    generalize calibrationWrite s.setup.calBuf s = w at *
    have hsets : w.setsUp (endOp (readResult s.setup.counts) w) := setsUp_endOp _
    have hstore := store_of_setsUp hsets
    have hended := endOp_setup (s := w) (readResult s.setup.counts)
    rw [hsetup, hslot] at hended
    refine ⟨_, endRecall_running ((congrArg Setup.starting hsetup).trans hs), congrArg Setup.phase hended,
      congrArg Setup.calBuf hended, congrArg Setup.last hended, fun f v hf => ?_, fun f hf => ?_,
      (congrArg Setup.flash hended :), (congrArg Setup.dir hended :), (link_of_setsUp hsets).trans hlink,
      (congrArg Store.groups hstore).trans hgroups, (congrArg Store.queue hstore).trans hqueue,
      othersKept_trans hothers (othersKept_of_setsUp hsets)⟩
    · rw [get_of_setsUp hsets, hget f v hf]
    · rw [get_of_setsUp hsets, hgetOther f hf]
  · obtain ⟨hsetup, hnotices, hlink, hgroups, hqueue, hothers⟩ := calibrationWrite_kept (s := s) hin
    obtain ⟨hget, hgetOther⟩ := get_calibrationWrite ht hd hin
    rw [endReading_calibration hslot]
    generalize calibrationWrite s.setup.calBuf s = w at *
    have hstarting : w.setup.starting = true := (congrArg Setup.starting hsetup).trans hs
    have hkept : w.LoadKept (startCalDone (loadResult s.setup.counts) w) := loadKept_startCalDone _
    have hended : endRecall (readResult s.setup.counts) w = startCalDone (loadResult s.setup.counts) w := by
      rw [endRecall_calibration hstarting ((congrArg Setup.slot hsetup).trans hslot), startResult_readResult]
    refine ⟨_, hended, startCalDone_calResult _,
      loadsSetup_congr (congrArg Setup.flash hsetup) (by rw [hsetup]) hqueue hgroups (loadsSetup_startCalDone _ hstarting),
      ?_, fun f v hf => ?_, fun f hf => ?_, hkept.dir.trans (congrArg Setup.dir hsetup), hkept.link.trans hlink,
      othersKept_trans hothers hkept.others⟩
    · rw [startCalDone_notices, if_neg (loadResult_ne _), hnotices]
    · rw [hkept.get, hget f v hf]
    · rw [hkept.get, hgetOther f hf]
  · rw [exec_group3LaunchRetry hh hp, launch3_full he hq, setPhase_same hp]
  · have hsets : (emptyGroup3 s).setsUp (endOp (readResult s.setup.counts) (emptyGroup3 s)) := setsUp_endOp _
    have hended := endOp_setup (s := emptyGroup3 s) (readResult s.setup.counts)
    have hstore := store_of_setsUp hsets
    exact ⟨_, (launch3_empty he).trans (endRecall_running hs), congrArg Setup.phase hended,
      (congrArg Store.queue hstore :), congrArg Store.groups hstore, congrArg Setup.last hended,
      (congrArg Setup.flash hended :), (congrArg Setup.dir hended :), (link_of_setsUp hsets :),
      othersKept_trans othersKept_emptyGroup3 (othersKept_of_setsUp hsets)⟩
  · have hended := endRecall_running (r := readResult s.setup.counts) ((congrArg Setup.starting launched3_setup).trans hs)
    obtain ⟨hlaunch, hstore, hlink, hothers, hkept⟩ := launch3_ended he hq hended (setsUp_endOp _)
    refine ⟨_, hlaunch, hstore, ?_, ?_, hlink, hothers, hkept⟩
    · rw [endOp_setup, launched3_setup]
    · rw [endOp_notices_read, raise_notices, raise_notices, launched3_notices]
  · have hsets : (emptyGroup3 s).setsUp ((emptyGroup3 s).loaded (readResult s.setup.counts)) := setsUp_loaded _
    have hstore := store_of_setsUp hsets
    refine ⟨_, (launch3_empty he).trans (endRecall_setup hs hslot), ?_, (congrArg Store.queue hstore :),
      congrArg Store.groups hstore, rfl, (link_of_setsUp hsets :),
      othersKept_trans othersKept_emptyGroup3 (othersKept_of_setsUp hsets)⟩
    rw [loaded_setup, startResult_readResult]
    rfl
  · have hended := endRecall_setup (r := readResult s.setup.counts) ((congrArg Setup.starting launched3_setup).trans hs)
      ((congrArg Setup.slot launched3_setup).trans_ne hslot)
    obtain ⟨hlaunch, hstore, hlink, hothers, hkept⟩ := launch3_ended he hq hended (setsUp_loaded _)
    refine ⟨_, hlaunch, hstore, ?_, launched3_notices, hlink, hothers, hkept⟩
    rw [loaded_setup, startResult_readResult, launched3_setup]
  · have hmarks := marks_applyChange_recall (s := s) hc
    refine ⟨_, rfl, group3_applyChange_recall hc, fun i hi => ?_, fun i hi => ?_, fun i => ?_,
      shell_setup (shell_applyChange c)⟩
    · exact recalled_of_marks ht hi (by rw [hmarks, marks_recallRecords_cursor _ hi, touches_inFieldOrder])
    · exact recalled_of_marks ht hi (by rw [hmarks, marks_recallRecords_measurement _ hi, touches_inFieldOrder])
    · rw [isLive_of_marks, isLive_of_marks, hmarks, marks_recallRecords_object]
end

section
/-! SUPPORT. What a command moves that a part in reset takes (R184, log 6), and what a refusal moves (R181). -/

namespace Sys2Proof.Machine

variable {s : State} {i : Instr}

/-! ## A part held in reset (R184, log 6) -/

/-- A part in reset takes nothing but the resets, the release and the pin: the meaning of every other command is guarded by
`awake`. -/
theorem exec_held (h : s.held = true) (hreach : reachesReset i = false) : exec i s = .next s := by
  cases i
  case powerOn | resetN | supplyReset | resetRelease | csNFall | csNRise => cases hreach
  all_goals exact awake_held h

/-! ## Refusals (R181) -/

/-- The status codes by their byte (R181, R189). -/
def allStatuses : List Status :=
  [.ok, .clamped, .busy, .starting, .noRecord, .noField, .readOnly, .badValue, .badReference, .tableFull, .groupFull,
    .queueFull, .groupBusy, .wrongState, .protectedSlot, .emptySlot, .badSlot, .supplyLow, .noData, .unknownCommand]

theorem allStatuses_statusCode (st : Status) : allStatuses[(statusCode st).toNat]? = some st := by cases st <;> rfl

theorem statusCode_inj {a b : Status} (h : statusCode a = statusCode b) : a = b :=
  Option.some.inj (by rw [← allStatuses_statusCode a, h, allStatuses_statusCode])

/-- A reply that accepts nothing is its status alone, with the state as it was (R181). -/
def Reply.RefusesAlone (r : Reply) (s : State) : Prop :=
  r.status = .ok ∨ r.status = .clamped ∨ r = refuse r.status s

theorem refuse_refusesAlone (st : Status) (s : State) : (refuse st s).RefusesAlone s := .inr (.inr rfl)

theorem accept_refusesAlone (data : List Byte) (s t : State) : (accept data t).RefusesAlone s := .inl rfl

theorem writeStatus_refusesAlone {clamped : Bool} {data : List Byte} {t : State} {tie : Tie} :
    Reply.RefusesAlone { status := writeStatus clamped, data := data, st := t, tie := tie } s := by
  cases clamped
  · exact .inl rfl
  · exact .inr (.inl rfl)

/-- Whatever outcome shows a status above CLAMPED has moved nothing but the link. -/
def OutRefusesAlone (s : State) (o : Out) : Prop :=
  ∀ t st data, o = .next t → t.responds st data → st ≠ .ok → st ≠ .clamped → data = [] ∧ t = s.answer st [] .none

theorem respond_refusesAlone {r : Reply} (h : r.RefusesAlone s) : OutRefusesAlone s (.next (respond r)) := by
  rintro t st data ht ⟨-, hresponse⟩ hok hclamped
  cases ht
  obtain ⟨hcode, rfl⟩ := List.cons.inj hresponse
  have hstatus : r.status = st := statusCode_inj hcode
  obtain hs | hs | hs := h
  · exact absurd (hstatus.symm.trans hs) hok
  · exact absurd (hstatus.symm.trans hs) hclamped
  · rw [hs, hstatus]
    exact ⟨rfl, rfl⟩

theorem takeCommand_refusesAlone {body : State → Reply} (hp : s.link.parser ≠ .response) (h : (body s).RefusesAlone s) :
    OutRefusesAlone s (takeCommand i body s) := by
  obtain hc | ⟨-, hc⟩ | ⟨-, -, hc⟩ := takeCommand_cases (i := i) (body := body) (s := s) <;> rw [hc]
  · rintro t st data ht ⟨hparser, -⟩
    cases ht
    exact absurd hparser hp
  · exact respond_refusesAlone (refuse_refusesAlone .starting s)
  · exact respond_refusesAlone h

/-- A command that is always answered OK refuses with STARTING alone. -/
theorem takeCommand_ok_refusesAlone {body : State → Reply} (hp : s.link.parser ≠ .response) (h : ∀ u, (body u).status = .ok) :
    OutRefusesAlone s (takeCommand i body s) := takeCommand_refusesAlone hp (.inl (h s))

theorem numericWrite_refusesAlone (f : FieldId) (sp : FieldSpec) (v : Int) : (numericWrite f sp v s).RefusesAlone s := by
  unfold numericWrite
  dsimp only
  split
  · exact refuse_refusesAlone _ _
  · split
    · exact refuse_refusesAlone _ _
    · exact writeStatus_refusesAlone

theorem launchGroup_refusesAlone (g : Nat) : (launchGroup g s).RefusesAlone s := by
  unfold launchGroup
  dsimp only
  split
  · exact accept_refusesAlone _ _ _
  · split
    · exact refuse_refusesAlone _ _
    · exact accept_refusesAlone _ _ _

theorem execRead_refusesAlone (hp : s.link.parser ≠ .response) (h : BitVec 16) (n o : Byte) :
    OutRefusesAlone s (execRead h n o s) := by
  refine takeCommand_refusesAlone hp ?_
  split
  · exact refuse_refusesAlone _ _
  · split
    · exact refuse_refusesAlone _ _
    · exact accept_refusesAlone _ _ _

theorem execWrite_refusesAlone (hp : s.link.parser ≠ .response) (h : BitVec 16) (n : Byte) (v : BitVec 64) :
    OutRefusesAlone s (execWrite h n v s) := by
  refine takeCommand_refusesAlone hp ?_
  split
  · exact refuse_refusesAlone _ _
  · exact numericWrite_refusesAlone _ _ _

theorem execWriteText_refusesAlone (hp : s.link.parser ≠ .response) (h : BitVec 16) (n : Byte) (text : List Byte) :
    OutRefusesAlone s (execWriteText h n text s) := by
  refine takeCommand_refusesAlone hp ?_
  split
  · exact refuse_refusesAlone _ _
  · split
    · exact refuse_refusesAlone _ _
    · split
      · exact refuse_refusesAlone _ _
      · split
        · exact refuse_refusesAlone _ _
        · exact writeStatus_refusesAlone

theorem execCreate_refusesAlone (hp : s.link.parser ≠ .response) (k o : Byte) : OutRefusesAlone s (execCreate k o s) := by
  refine takeCommand_refusesAlone hp ?_
  split
  · exact refuse_refusesAlone _ _
  · split
    · exact refuse_refusesAlone _ _
    · split
      · exact refuse_refusesAlone _ _
      · exact accept_refusesAlone _ _ _

theorem execRetire_refusesAlone (hp : s.link.parser ≠ .response) (h : BitVec 16) : OutRefusesAlone s (execRetire h s) := by
  refine takeCommand_refusesAlone hp ?_
  dsimp only
  split
  · exact refuse_refusesAlone _ _
  · split
    · exact refuse_refusesAlone _ _
    · split
      · exact refuse_refusesAlone _ _
      · exact accept_refusesAlone _ _ _

theorem execGroupOpen_refusesAlone (hp : s.link.parser ≠ .response) (g : Byte) : OutRefusesAlone s (execGroupOpen g s) := by
  refine takeCommand_refusesAlone hp ?_
  split_ifs
  · exact refuse_refusesAlone _ _
  · exact refuse_refusesAlone _ _
  · exact accept_refusesAlone _ _ _

theorem execGroupLaunch_refusesAlone (hp : s.link.parser ≠ .response) (g : Byte) : OutRefusesAlone s (execGroupLaunch g s) := by
  refine takeCommand_refusesAlone hp ?_
  split_ifs
  · exact refuse_refusesAlone _ _
  · exact refuse_refusesAlone _ _
  · exact launchGroup_refusesAlone _

theorem execGroupDiscard_refusesAlone (hp : s.link.parser ≠ .response) (g : Byte) : OutRefusesAlone s (execGroupDiscard g s) := by
  refine takeCommand_refusesAlone hp ?_
  split
  · exact refuse_refusesAlone _ _
  · split
    · exact accept_refusesAlone _ _ _
    · exact refuse_refusesAlone _ _
    · exact accept_refusesAlone _ _ _

theorem execForce_refusesAlone (hp : s.link.parser ≠ .response) : OutRefusesAlone s (execForce s) := by
  refine takeCommand_refusesAlone hp ?_
  split
  · exact accept_refusesAlone _ _ _
  · exact refuse_refusesAlone _ _

theorem execColumns_refusesAlone (hp : s.link.parser ≠ .response) (ch : Byte) (first count : BitVec 16) :
    OutRefusesAlone s (execColumns ch first count s) := by
  refine takeCommand_refusesAlone hp ?_
  split
  · exact refuse_refusesAlone _ _
  · split
    · exact refuse_refusesAlone _ _
    · unfold Reply.RefusesAlone
      dsimp only
      split
      · exact .inl rfl
      · exact .inr (.inl rfl)

theorem execSave_refusesAlone (hp : s.link.parser ≠ .response) (slot : Byte) (calEn : Bool) :
    OutRefusesAlone s (execSave slot calEn s) := by
  refine takeCommand_refusesAlone hp ?_
  split
  · exact refuse_refusesAlone _ _
  · exact accept_refusesAlone _ _ _

theorem execErase_refusesAlone (hp : s.link.parser ≠ .response) (slot : Byte) (calEn : Bool) :
    OutRefusesAlone s (execErase slot calEn s) := by
  refine takeCommand_refusesAlone hp ?_
  split
  · exact refuse_refusesAlone _ _
  · exact accept_refusesAlone _ _ _

theorem execRecall_refusesAlone (hp : s.link.parser ≠ .response) (slot : Byte) : OutRefusesAlone s (execRecall slot s) := by
  refine takeCommand_refusesAlone hp ?_
  split
  · exact refuse_refusesAlone _ _
  · exact accept_refusesAlone _ _ _

theorem execAbort_refusesAlone (hp : s.link.parser ≠ .response) : OutRefusesAlone s (execAbort s) := by
  refine takeCommand_refusesAlone hp ?_
  split
  · exact refuse_refusesAlone _ _
  · exact accept_refusesAlone _ _ _

/-- Every link command refuses alone: each branch of its rules is a refusal, or answers OK or CLAMPED. -/
theorem exec_refusesAlone (hp : s.link.parser ≠ .response) (hw : wire i ≠ none) : OutRefusesAlone s (exec i s) := by
  cases i
  case nop => exact (takeCommand_ok_refusesAlone hp fun _ => rfl : OutRefusesAlone s (execNop s))
  case identify => exact (takeCommand_ok_refusesAlone hp fun _ => rfl : OutRefusesAlone s (execIdentify s))
  case groupStatus => exact (takeCommand_ok_refusesAlone hp fun _ => rfl : OutRefusesAlone s (execGroupStatus s))
  case run => exact (takeCommand_ok_refusesAlone hp fun _ => rfl : OutRefusesAlone s (execRun s))
  case stop => exact (takeCommand_ok_refusesAlone hp fun _ => rfl : OutRefusesAlone s (execStop s))
  case single => exact (takeCommand_ok_refusesAlone hp fun _ => rfl : OutRefusesAlone s (execSingle s))
  case clearStats => exact (takeCommand_ok_refusesAlone hp fun _ => rfl : OutRefusesAlone s (execClearStats s))
  case panelRead => exact (takeCommand_ok_refusesAlone hp fun _ => rfl : OutRefusesAlone s (execPanelRead s))
  case noticeRead => exact (takeCommand_ok_refusesAlone hp fun _ => rfl : OutRefusesAlone s (execNoticeRead s))
  case noticeClear sources fails =>
    exact (takeCommand_ok_refusesAlone hp fun _ => rfl : OutRefusesAlone s (execNoticeClear sources fails s))
  case setupStatus => exact (takeCommand_ok_refusesAlone hp fun _ => rfl : OutRefusesAlone s (execSetupStatus s))
  case reset => exact (takeCommand_ok_refusesAlone hp fun _ => rfl : OutRefusesAlone s (execReset s))
  case read h n o => exact execRead_refusesAlone hp h n o
  case write h n v => exact execWrite_refusesAlone hp h n v
  case writeText h n text => exact execWriteText_refusesAlone hp h n text
  case create k o => exact execCreate_refusesAlone hp k o
  case retire h => exact execRetire_refusesAlone hp h
  case groupOpen g => exact execGroupOpen_refusesAlone hp g
  case groupLaunch g => exact execGroupLaunch_refusesAlone hp g
  case groupDiscard g => exact execGroupDiscard_refusesAlone hp g
  case force => exact execForce_refusesAlone hp
  case columns ch first count => exact execColumns_refusesAlone hp ch first count
  case save slot calEn => exact execSave_refusesAlone hp slot calEn
  case erase slot calEn => exact execErase_refusesAlone hp slot calEn
  case recallSetup slot => exact execRecall_refusesAlone hp slot
  case abort => exact execAbort_refusesAlone hp
  all_goals exact absurd rfl hw

end Sys2Proof.Machine

/-! ## The statements -/

open Sys2Proof Sys2Proof.Machine

/-- Settles O9: every branch of a link command's rules is a refusal, or answers OK or CLAMPED. -/
theorem refusalChangesNothing : Obligations.RefusalChangesNothing :=
  fun _ _ t st data hw hp hexec hresponds hok hclamped => exec_refusesAlone hp hw t st data hexec hresponds hok hclamped

/-- Settles O10: every command but those six acts on a part out of reset alone. -/
theorem heldPartIgnores : Obligations.HeldPartIgnores := fun _ _ hheld hreach => exec_held hheld hreach
end

section
/-! SUPPORT. The link's frames (R179, R180, R182), its notice lines (R186 to R188) and the reports (R162, R183, R187, R189). -/

namespace Sys2Proof.Machine

variable {s : State}

/-- The four commands of R181 are answered by their own rules during the start-up load, too. -/
theorem takeCommand_hears {i : Instr} {body : State → Reply} (h : s.hears i = true) (ha : allowedStarting i = true) :
    takeCommand i body s = .next (respond (body s)) := by
  obtain ⟨hheld, hexpects⟩ := hears_iff.1 h
  exact takeCommand_taken hheld hexpects (.inr ha)

theorem beBytes_one (v : Int) : beBytes 1 v = [BitVec.ofInt 8 v] := by simp [beBytes]

/-! ## Bits (R186, R188, R189) -/

/-- Bit n of a number as a word keeps it. -/
theorem getLsbD_ofInt {w n : Nat} (v : Int) (hn : n < w) : (BitVec.ofInt w v).getLsbD n = true ↔ v / 2 ^ n % 2 = 1 := by
  obtain ⟨k, rfl⟩ : ∃ k, w = n + 1 + k := ⟨w - (n + 1), by omega⟩
  have hpos : (0 : Int) < 2 ^ n := by positivity
  have hsplit : v % 2 ^ (n + 1 + k) = v + 2 ^ n * (2 * -(2 ^ k * (v / 2 ^ (n + 1 + k)))) := by
    rw [Int.emod_def]; ring
  have hcast : ((v % 2 ^ (n + 1 + k)).toNat : Int) = v % 2 ^ (n + 1 + k) :=
    Int.toNat_of_nonneg (Int.emod_nonneg _ (by positivity))
  have hbit : (v % 2 ^ (n + 1 + k)) / 2 ^ n % 2 = v / 2 ^ n % 2 := by
    rw [hsplit, Int.add_mul_ediv_left _ _ hpos.ne', Int.add_mul_emod_self_left]
  rw [BitVec.getLsbD, BitVec.toNat_ofInt, Nat.testBit_eq_decide_div_mod_eq, decide_eq_true_eq, ← hbit]
  push_cast
  rw [← hcast]
  norm_cast

theorem ne_zero_iff_getLsbD {w : Nat} (v : BitVec w) : v ≠ 0 ↔ ∃ n, n < w ∧ v.getLsbD n = true := by
  refine ⟨fun hv => ?_, ?_⟩
  · by_contra hnone
    refine hv (BitVec.eq_of_getLsbD_eq fun n hn => ?_)
    have hbit : v.getLsbD n = false := Bool.eq_false_iff.2 fun hbit => hnone ⟨n, hn, hbit⟩
    rw [hbit]
    simp
  · rintro ⟨n, -, hbit⟩ rfl
    simp at hbit

/-- A source that is pending and in ENABLE (R188). -/
theorem getLsbD_enabledPending {n : Nat} (hn : n < 19) : s.enabledPending.getLsbD n = true ↔
    (if n = 5 then s.notices.fails ≠ 0 else s.notices.flags.getLsbD n = true) ∧ s.get Fld.noEnable / 2 ^ n % 2 = 1 := by
  rw [State.enabledPending, BitVec.getLsbD_and, Bool.and_eq_true, getLsbD_ofInt _ hn, getLsbD_pendingSources _ hn]
  split
  · rw [decide_eq_true_eq]
  · rfl

theorem alertAsserted_iff : s.alertAsserted = true ↔ ∃ n, n < 19
    ∧ (if n = 5 then s.notices.fails ≠ 0 else s.notices.flags.getLsbD n = true)
    ∧ s.get Fld.noEnable / 2 ^ n % 2 = 1 ∧ s.get Fld.noAlertSet / 2 ^ n % 2 = 1 := by
  rw [State.alertAsserted, decide_eq_true_eq, ne_zero_iff_getLsbD]
  refine exists_congr fun n => and_congr_right fun hn => ?_
  rw [BitVec.getLsbD_and, Bool.and_eq_true, getLsbD_enabledPending hn, getLsbD_ofInt _ hn, and_assoc]

theorem attnAsserted_iff : s.attnAsserted = true ↔ ∃ n, n < 19
    ∧ (if n = 5 then s.notices.fails ≠ 0 else s.notices.flags.getLsbD n = true)
    ∧ s.get Fld.noEnable / 2 ^ n % 2 = 1 ∧ s.get Fld.noAlertSet / 2 ^ n % 2 = 0 := by
  rw [State.attnAsserted, decide_eq_true_eq, ne_zero_iff_getLsbD]
  refine exists_congr fun n => and_congr_right fun hn => ?_
  rw [BitVec.getLsbD_and, Bool.and_eq_true, getLsbD_enabledPending hn, BitVec.getLsbD_not, decide_eq_true hn, Bool.true_and,
    Bool.not_eq_true', ← Bool.not_eq_true, getLsbD_ofInt _ hn, Int.emod_two_ne_one, and_assoc]

/-- What the fall of CS_N forms, bit by bit (R180, R189). -/
theorem summaryByte_bits : s.summaryByte.getLsbD 7 = !s.setup.starting ∧ s.summaryByte.getLsbD 6 = s.alertAsserted
    ∧ s.summaryByte.getLsbD 5 = s.attnAsserted ∧ s.summaryByte.getLsbD 4 = s.setupBusy
    ∧ s.summaryByte.getLsbD 3 = false ∧ s.summaryByte.toNat % 8 = acqCode s.sweep.acq := by
  have hacq : acqCode s.sweep.acq < 2 ^ 3 := by cases s.sweep.acq <;> decide
  refine ⟨?_, ?_, ?_, ?_, ?_, ?_⟩
  on_goal 6 =>
    rw [State.summaryByte, toNat_append_eq, BitVec.toNat_ofNat, Nat.mod_eq_of_lt hacq]
    omega
  all_goals
    simp only [State.summaryByte, BitVec.getLsbD_append]
    simp

theorem exec_csNFall_idle (hh : s.held = false) (hp : s.link.parser = .idle) : exec .csNFall s = .next { s with
    link := { csLow := true, parser := .command, summary := s.summaryByte, response := [], tie := .none } } := by
  simp [exec, execCsNFall, hh, hp]

/-! ## The end of a frame (R179, R182) -/

theorem exec_responseEnd_plain (hh : s.held = false) (hp : s.link.parser = .response) (ht : s.link.tie = .none) :
    exec .responseEnd s = .next (setParser .spent s) := by
  simp [exec, execResponseEnd, awake_running hh, hp, ht]

theorem exec_responseEnd_columns {ch : Nat} (hh : s.held = false) (hp : s.link.parser = .response)
    (ht : s.link.tie = .columns ch) :
    exec .responseEnd s = .next (releaseLend .link ch (setTie .none (setParser .spent s))) := by
  simp only [exec, execResponseEnd, awake_running hh, hp, ht, if_true]
  rfl

/-- The frame is over, and the pin is high (R182). -/
def State.frameOver (s : State) : State := setParser .idle (setCsLow false s)

theorem exec_csNRise_command (clocked : Bool) (hh : s.held = false) (hp : s.link.parser = .command) :
    exec (.csNRise clocked) s = .next (raiseIf clocked .frameError s.frameOver) := by
  simp [exec, execCsNRise, hh, hp, State.frameOver]

theorem exec_csNRise_parameters (clocked : Bool) {c : Byte} {got : List Byte} {n : Nat} (hh : s.held = false)
    (hp : s.link.parser = .parameters c got n) :
    exec (.csNRise clocked) s = .next (raise .frameError s.frameOver) := by
  simp [exec, execCsNRise, hh, hp, State.frameOver]

theorem exec_csNRise_answered (clocked : Bool) (hh : s.held = false) (hp : s.link.parser = .response ∨ s.link.parser = .spent) :
    exec (.csNRise clocked) s = .next (endResponse s.frameOver) := by
  obtain hp | hp := hp <;> simp [exec, execCsNRise, hh, hp, State.frameOver]

theorem endResponse_none (h : s.link.tie = .none) : endResponse s = s := by simp [endResponse, h]

theorem endResponse_panel {snap : PanelSnap} (h : s.link.tie = .panel snap) : endResponse s = setTie .none s := by
  simp [endResponse, h]

theorem endResponse_columns {ch : Nat} (h : s.link.tie = .columns ch) :
    endResponse s = releaseLend .link ch (setTie .none s) := by simp [endResponse, h]

theorem endResponse_reset (h : s.link.tie = .reset) : endResponse s = enterReset .command s := by simp [endResponse, h]

theorem miso_highZ (h : s.link.csLow = false) : s.miso = .highZ := by simp [State.miso, h]

theorem miso_command (h : s.link.csLow = true) (hp : s.link.parser = .command) : s.miso = .byte s.link.summary := by
  simp [State.miso, h, hp]

theorem miso_parameters {c : Byte} {got : List Byte} {n : Nat} (h : s.link.csLow = true)
    (hp : s.link.parser = .parameters c got n) : s.miso = .byte 0 := by simp [State.miso, h, hp]

theorem miso_response (h : s.link.csLow = true) (hp : s.link.parser = .response) : s.miso = .response s.link.response := by
  simp [State.miso, h, hp]

theorem miso_spent (h : s.link.csLow = true) (hp : s.link.parser = .spent) : s.miso = .byte 0 := by
  simp [State.miso, h, hp]

/-! ## Reports (R162, R183, R187, R189) -/

theorem identifyData_eq : identifyData s = [0x04, 0x40, 0x01, BitVec.ofInt 8 (causeCode s.cause),
    BitVec.ofInt 8 (if s.setup.starting then 0 else startResultCode s.setup.calResult),
    BitVec.ofInt 8 (if s.setup.starting then 0 else startResultCode s.setup.setupResult)] := by
  simp only [identifyData, beBytes_one]
  rfl

theorem noticeData_eq (x : Notices) : noticeData x = beBytes 3 (pendingSources x).toNat ++ [x.fails]
    ++ [match highestPending x with
      | some i => BitVec.ofNat 8 i
      | none => 255] := by
  rw [noticeData, beBytes_one]
  cases highestPending x <;> rfl

theorem lastOpBytes_length (l : LastOp) : (lastOpBytes l).length = 8 := by simp [lastOpBytes]

theorem dirBytes_eq (slot : Nat) (d : DirEntry) : dirBytes slot d =
    [BitVec.ofInt 8 (dirStateCode d.state + (if slot = 15 then 16 else 0)), BitVec.ofNat 8 d.count] := by
  rw [dirBytes, beBytes_one]
  rfl

/-- Block i of blocks of two bytes. -/
theorem take_drop_blocks {l : List (List Byte)} {i : Nat} (h : ∀ x, x ∈ l → x.length = 2) {x : List Byte}
    (hx : l[i]? = some x) :
    (l.flatten.drop (2 * i)).take 2 = x := by
  induction l generalizing i with
  | nil => cases hx
  | cons y l ih =>
    have hy : y.length = 2 := h y (List.mem_cons_self ..)
    rw [List.flatten_cons]
    cases i with
    | zero =>
      cases hx
      exact List.take_left' hy
    | succ i =>
      rw [List.drop_append, List.drop_eq_nil_of_le (by omega), List.nil_append, hy, show 2 * (i + 1) - 2 = 2 * i by omega]
      exact ih (fun z hz => h z (List.mem_cons_of_mem _ hz)) hx

theorem setupStatusData_eq (u : Setup) : setupStatusData u = BitVec.ofInt 8 (opStateCode u)
    :: (lastOpBytes u.last ++ (if u.supplyLow then 1 else 0) :: ((List.range 16).map fun i => dirBytes i (u.dirAt i)).flatten) := by
  rw [setupStatusData, beBytes_one, beBytes_one]
  cases u.supplyLow <;> simp

theorem dirBlocks_length (u : Setup) (x : List Byte) (h : x ∈ (List.range 16).map fun i => dirBytes i (u.dirAt i)) :
    x.length = 2 := by
  obtain ⟨i, -, rfl⟩ := List.mem_map.1 h
  rw [dirBytes_eq]
  rfl

theorem setupStatusData_length (u : Setup) : (setupStatusData u).length = 42 := by
  simp [setupStatusData_eq, lastOpBytes_length, List.length_flatten, Function.comp_def, dirBytes_eq]

theorem setupStatusData_state (u : Setup) : (setupStatusData u).take 1 = [BitVec.ofInt 8 (opStateCode u)] := by
  rw [setupStatusData_eq]
  rfl

theorem setupStatusData_supply (u : Setup) : (setupStatusData u)[9]? = some (if u.supplyLow then 1 else 0) := by
  rw [setupStatusData_eq, List.getElem?_cons_succ, List.getElem?_append_right (lastOpBytes_length _).le, lastOpBytes_length]
  rfl

theorem setupStatusData_dir (u : Setup) {i : Nat} (hi : i < 16) :
    ((setupStatusData u).drop (10 + 2 * i)).take 2 = dirBytes i (u.dirAt i) := by
  have hskip : (setupStatusData u).drop 10 = ((List.range 16).map fun i => dirBytes i (u.dirAt i)).flatten := by
    rw [setupStatusData_eq, List.drop_succ_cons, List.drop_append, lastOpBytes_length,
      List.drop_eq_nil_of_le ((lastOpBytes_length _).trans_le (by decide))]
    rfl
  rw [← List.drop_drop, hskip]
  refine take_drop_blocks (dirBlocks_length u) ?_
  simp [hi]

end Sys2Proof.Machine

/-! ## The statements -/

open Sys2Proof Sys2Proof.Machine

/-- Settles O2: the lines and the summary byte are read bit by bit. -/
theorem summaryFormedAtFall : Obligations.SummaryFormedAtFall := by
  refine ⟨fun s p hp => ?_,
    fun s hh hidle => ⟨s.summaryByte, exec_csNFall_idle hh hidle, miso_command rfl rfl, summaryByte_bits⟩⟩
  simp only [hp]
  exact ⟨alertAsserted_iff, attnAsserted_iff⟩

/-- Settles O4: none of the three is refused during the start-up load, and each is answered from the state it finds. -/
theorem reportsAnswer : Obligations.ReportsAnswer := by
  refine ⟨fun s h => (takeCommand_hears h rfl : execNop s = _), fun s h => ?_, fun s h => ?_⟩
  · have hexec : execIdentify s = .next (s.answer .ok (identifyData s) .none) := takeCommand_hears h rfl
    rw [identifyData_eq] at hexec
    exact ⟨_, _, hexec, fun hs => by simp [hs], fun hs => by simp [hs]⟩
  · have hsetup := firstStepMayBegin_setup s
    refine ⟨firstStepMayBegin s, setupStatusData (firstStepMayBegin s).setup,
      (takeCommand_hears h rfl : execSetupStatus s = _), setupStatusData_length _, ?_, ?_,
      fun i hi => ?_, firstStepMayBegin_not_due, fun hdue => ?_⟩
    · rw [setupStatusData_state, hsetup]
      rfl
    · rw [setupStatusData_supply, hsetup]
    · rw [setupStatusData_dir _ hi, dirBytes_eq]
    · rw [firstStepMayBegin_eq, if_pos (firstStepDue_iff.1 hdue)]

/-- Settles O5: the report is R187's; a clear masks the sources it names, and the FAIL flags it names or all of them. -/
theorem noticesReadAndCleared : Obligations.NoticesReadAndCleared := by
  refine ⟨fun s h => ?_, fun s a b h => ⟨clearNotices a b s.notices, (takeCommand_takes h : execNoticeClear a b s = _),
    fun i hi => ?_, fun i hi => ?_⟩⟩
  · have hexec : execNoticeRead s = .next (s.answer .ok (noticeData s.notices) .none) := takeCommand_hears h rfl
    exact hexec.trans (congrArg (fun data => Host.Outcome.next (s.answer .ok data .none)) (noticeData_eq s.notices))
  · simp [clearNotices, hi]
  · rw [clearNotices]
    dsimp only
    cases a.getLsbD 5 <;> simp [hi]

/-- Settles O7: the frame ends as the parser's state and the work tied to the response say. -/
theorem frameEnds : Obligations.FrameEnds :=
  ⟨fun _ hh hp ht => exec_responseEnd_plain hh hp ht,
    fun _ _ hh hp ht => exec_responseEnd_columns hh hp ht,
    fun _ clocked hh hp => exec_csNRise_command clocked hh hp,
    fun _ clocked _ _ _ hh hp => exec_csNRise_parameters clocked hh hp,
    fun s clocked hh hp ht => (exec_csNRise_answered clocked hh hp).trans
      (congrArg Host.Outcome.next (endResponse_none (s := s.frameOver) ht)),
    fun s clocked _ hh hp ht => (exec_csNRise_answered clocked hh (.inl hp)).trans
      (congrArg Host.Outcome.next (endResponse_panel (s := s.frameOver) ht)),
    fun s clocked _ hh hp ht => (exec_csNRise_answered clocked hh (.inl hp)).trans
      (congrArg Host.Outcome.next (endResponse_columns (s := s.frameOver) ht)),
    fun _ => ⟨miso_highZ, fun hlow hp => by
      obtain hp | ⟨c, got, n, hp⟩ := hp
      · exact miso_spent hlow hp
      · exact miso_parameters hlow hp, miso_response⟩⟩
end

section
/-! SUPPORT. What a reset finds and leaves: the flash after a step cut off (R165, R169, R176; log 9), and every block at its
reset state (R184). -/

namespace Sys2Proof.Machine

variable {m : Memory} {a b n free slot : Nat} {s t : State} {u : Setup}

/-! ## Bytes in a row -/

theorem isBlank_bytes : isBlank (Memory.bytes m a n) = true ↔ ∀ i, i < n → Memory.read m (a + i) = blankByte := by
  simp [isBlank, Memory.bytes]

theorem bytes_congr {m' : Memory} (h : ∀ i, i < n → Memory.read m' (a + i) = Memory.read m (a + i)) :
    Memory.bytes m' a n = Memory.bytes m a n :=
  List.map_congr_left fun i hi => h i (List.mem_range.1 hi)

theorem bytes_succ : Memory.bytes m a (n + 1) = Memory.read m a :: Memory.bytes m (a + 1) n := by
  simp only [Memory.bytes, List.range_succ_eq_map, List.map_cons, List.map_map, Nat.add_zero]
  refine congrArg _ (List.map_congr_left fun i _ => ?_)
  simp only [Function.comp_apply, Nat.succ_eq_add_one]
  congr 1
  omega

/-- Bytes of the flash read as written. -/
theorem bytes_writeBytes {xs : List Byte} (h : Memory.wf m = true) (ha : a + xs.length ≤ flashSize) :
    Memory.bytes (Memory.writeBytes m a xs) a xs.length = xs := by
  induction xs generalizing m a with
  | nil => rfl
  | cons x xs ih =>
    rw [List.length_cons] at ha
    rw [List.length_cons, bytes_succ, Memory.writeBytes, ih (wf_write h) (by omega), read_writeBytes_other (.inl (by omega)),
      read_write_same h (by omega)]

/-! ## A wipe cut off (R165) -/

theorem read_blanked {l : List Nat} (h : Memory.wf m = true) (hb : b < flashSize) :
    Memory.read (l.foldl (fun m a => Memory.write m a blankByte) m) b = blankByte
      ∨ Memory.read (l.foldl (fun m a => Memory.write m a blankByte) m) b = Memory.read m b := by
  induction l generalizing m with
  | nil => exact .inr rfl
  | cons a l ih =>
    obtain hblank | hkept := ih (m := Memory.write m a blankByte) (wf_write h)
    · exact .inl hblank
    · by_cases hba : b = a
      · subst hba
        exact .inl (hkept.trans (read_write_same h hb))
      · exact .inr (hkept.trans (read_write_other hba))

/-- A byte after a part of a wipe: blank or as it was, but for the one byte that may be wiped in part. -/
theorem read_wipePart (h : Memory.wf m = true) (hb : b < flashSize) :
    ∃ old bits, (old = blankByte ∨ old = Memory.read m b)
      ∧ (Memory.read (wipePart m free slot) b = old
        ∨ Memory.read (wipePart m free slot) b = wipedPartly (b == slotBase slot) old bits) := by
  refine ⟨_, Config.cutBits (free + 1), read_blanked (l := (wipeOrder slot).take (Config.wipeProgress free)) h hb, ?_⟩
  unfold wipePart
  dsimp only
  split
  · next c _ =>
    by_cases hbc : b = c
    · subst hbc
      exact .inr (read_write_same (wf_foldl_blank h) hb)
    · exact .inl (read_write_other hbc)
  · exact .inl rfl

/-- A marker wiped in part does not read as SEALED (R165). -/
theorem wipedPartly_ne_sealed {old bits : Byte} (h : old ≠ sealed) : wipedPartly true old bits ≠ sealed := by
  unfold wipedPartly
  split
  · exact h
  · next hv => simpa using hv

/-- A wipe takes bits to one: a blank byte stays blank. -/
theorem wipedPartly_blank (bits : Byte) : wipedPartly false blankByte bits = blankByte := by
  unfold wipedPartly blankByte
  rw [if_neg (by simp)]
  exact BitVec.allOnes_or (w := 8)

theorem wipePart_marker (h : Memory.wf m = true) (hb : slotBase slot < flashSize)
    (hm : Memory.read m (slotBase slot) ≠ sealed) : Memory.read (wipePart m free slot) (slotBase slot) ≠ sealed := by
  obtain ⟨old, bits, hold, hread⟩ := read_wipePart (free := free) (slot := slot) h hb
  have hne : old ≠ sealed := by
    obtain rfl | rfl := hold
    · decide
    · exact hm
  rw [beq_self_eq_true] at hread
  obtain hread | hread := hread
  · rwa [hread]
  · rw [hread]
    exact wipedPartly_ne_sealed hne

theorem wipePart_blank (h : Memory.wf m = true) (hb : b < flashSize) (hne : b ≠ slotBase slot)
    (hblank : Memory.read m b = blankByte) : Memory.read (wipePart m free slot) b = blankByte := by
  obtain ⟨old, bits, hold, hread⟩ := read_wipePart (free := free) (slot := slot) h hb
  have hold : old = blankByte := by rwa [hblank, or_self] at hold
  rw [beq_false_of_ne hne, hold, wipedPartly_blank, or_self] at hread
  exact hread

theorem wipeCut_marker (h : Memory.wf m = true) (hb : slotBase slot < flashSize)
    (hm : Memory.read m (slotBase slot) ≠ sealed) : Memory.read (wipeCut m free slot) (slotBase slot) ≠ sealed := by
  have hpart := wipePart_marker (free := free) h hb hm
  unfold wipeCut
  dsimp only
  generalize wipePart m free slot = w at hpart ⊢
  generalize Memory.bytes m (placeBase slot 1) 11 = old
  split
  · rwa [read_writeBytes_other (.inl (by unfold placeBase; omega))]
  · exact hpart

/-- A wipe cut off leaves the first entry place blank where it was, and not blank where it was not (R165). -/
theorem wipeCut_first (h : Memory.wf m = true) (hb : slotBase slot + 2048 ≤ flashSize) :
    isBlank (Memory.bytes (wipeCut m free slot) (placeBase slot 1) 11) = isBlank (Memory.bytes m (placeBase slot 1) 11) := by
  have hplace : slotBase slot < placeBase slot 1 ∧ placeBase slot 1 + 11 ≤ flashSize := by unfold placeBase; omega
  have hstays (hblank : isBlank (Memory.bytes m (placeBase slot 1) 11) = true) :
      isBlank (Memory.bytes (wipePart m free slot) (placeBase slot 1) 11) = true := by
    rw [isBlank_bytes] at hblank ⊢
    exact fun i hi => wipePart_blank (b := placeBase slot 1 + i) h (by omega) (by omega) (hblank i hi)
  have hwf : Memory.wf (wipePart m free slot) = true := wf_wipePart h
  unfold wipeCut
  dsimp only
  generalize wipePart m free slot = w at hstays hwf ⊢
  generalize hold : Memory.bytes m (placeBase slot 1) 11 = old at hstays ⊢
  have hlength : old.length = 11 := by rw [← hold, bytes_length]
  split
  · have hwritten := bytes_writeBytes (a := placeBase slot 1) (xs := old) hwf (by omega)
    rw [hlength] at hwritten
    rw [hwritten]
  · next hw => exact (Bool.eq_false_iff.2 hw).trans (Bool.eq_false_iff.2 fun hblank => hw (hstays hblank)).symm

/-! ## What the scan finds after a cut-off (R163, R176) -/

theorem flashCut_voidMark (hp : u.phase = .voidMark) : (flashCut u free).1 = voidCut u.flash free (slotBase u.slot) := by
  unfold flashCut
  rw [hp]

theorem flashCut_wipe (hp : u.phase = .wipe) : (flashCut u free).1 = wipeCut u.flash free u.slot := by
  unfold flashCut
  rw [hp]

theorem flashCut_sealHeader (hp : u.phase = .sealHeader) : (flashCut u free).1 =
    Memory.programCut u.flash free (slotBase u.slot + 1) (headerFields u.slot u.snapshot.length) := by
  unfold flashCut
  rw [hp]

theorem flashCut_sealMarker (hp : u.phase = .sealMarker) : (flashCut u free).1 = sealCut u.flash free (slotBase u.slot) := by
  unfold flashCut
  rw [hp]

theorem Setup.Whole.slot_end (h : u.Whole) : slotBase u.slot + 2048 ≤ flashSize := by
  have hslot := h.slot
  unfold slotBase flashSize
  omega

/-- R176, VOID_MARK: the marker is neither SEALED nor blank. -/
theorem judge_voidMark (h : u.Whole) (hp : u.phase = .voidMark) (c : Nat) :
    (judgeSlot (flashCut u free).1 [] c u.slot).state = .bad := by
  have hend := h.slot_end
  rw [flashCut_voidMark hp]
  obtain ⟨hsealed, hblank⟩ := voidCut_marker (free := free) h.flash (base := slotBase u.slot) (by omega)
  exact judgeSlot_bad c hsealed (.inl (isBlank_bytes_first (by decide) hblank))

/-- R176, WIPE: an unsealed slot is BAD while its first entry place or its header is not blank. -/
theorem judge_wipe (h : u.Whole) (hp : u.phase = .wipe) (hm : u.flash.read (slotBase u.slot) ≠ sealed) (c : Nat) :
    (judgeSlot (flashCut u free).1 [] c u.slot).state =
      if isBlank (u.flash.bytes (placeBase u.slot 1) 11) = true
        ∧ isBlank (Memory.bytes (flashCut u free).1 (slotBase u.slot) 16) = true then .erased else .bad := by
  have hend := h.slot_end
  rw [flashCut_wipe hp]
  have hmarker := wipeCut_marker (free := free) h.flash (by omega) hm
  have hfirst := wipeCut_first (free := free) h.flash hend
  split
  · next hblank => exact judgeSlot_erased c hblank.2 (hfirst.trans hblank.1)
  · next hblank =>
    refine judgeSlot_bad c hmarker ?_
    rw [hfirst]
    rw [not_and_or, Bool.not_eq_true, Bool.not_eq_true] at hblank
    exact hblank.symm

/-- R176, PROGRAMMING: the header is still blank, so that the first entry place decides. -/
theorem judge_program (hp : u.phase = .program) (hh : isBlank (u.flash.bytes (slotBase u.slot) 16) = true) (c : Nat) :
    (judgeSlot (flashCut u free).1 [] c u.slot).state =
      if isBlank (Memory.bytes (flashCut u free).1 (placeBase u.slot 1) 11) = true then .erased else .bad := by
  have hheader : Memory.bytes (flashCut u free).1 (slotBase u.slot) 16 = u.flash.bytes (slotBase u.slot) 16 :=
    bytes_congr fun i hi => read_flashCut_program hp (.inl (by unfold placeBase; omega))
  rw [← hheader] at hh
  split
  · next hfirst => exact judgeSlot_erased c hh hfirst
  · next hfirst =>
    have hmarker := isBlank_bytes.1 hh 0 (by decide)
    exact judgeSlot_bad c (by rw [← Nat.add_zero (slotBase u.slot), hmarker]; decide) (.inr (by simpa using hfirst))

/-- R176, SEALING: the marker is not SEALED, and the first entry place is not blank. -/
theorem judge_sealing (h : u.Whole) (hp : u.phase = .sealHeader ∨ u.phase = .sealMarker)
    (hm : u.flash.read (slotBase u.slot) = blankByte) (hf : isBlank (u.flash.bytes (placeBase u.slot 1) 11) = false)
    (c : Nat) : (judgeSlot (flashCut u free).1 [] c u.slot).state = .bad := by
  have hend := h.slot_end
  have hkept : Memory.read (flashCut u free).1 (slotBase u.slot) ≠ sealed
      ∧ ∀ a, placeBase u.slot 1 ≤ a → Memory.read (flashCut u free).1 a = u.flash.read a := by
    unfold placeBase
    obtain hp | hp := hp
    · rw [flashCut_sealHeader hp]
      refine ⟨?_, fun a ha => read_programCut_other (.inr (by rw [headerFields_length]; omega))⟩
      rw [read_programCut_other (.inl (by omega)), hm]
      decide
    · rw [flashCut_sealMarker hp]
      exact ⟨sealCut_marker h.flash (by omega), fun a ha => read_markerCut_other (by omega)⟩
  obtain ⟨hmarker, hplaces⟩ := hkept
  refine judgeSlot_bad c hmarker (.inr ?_)
  rw [bytes_congr fun i _ => hplaces _ (Nat.le_add_right _ i)]
  exact hf

/-! ## Every block at its reset state (R184) -/

/-- A part entering reset is the part in reset, but for what a reset does not reach (R184). -/
theorem enterReset_eq (cause : Cause) : enterReset cause s = State.inReset cause (enterReset cause s).setup.flash s.panel.lamps
    s.link.csLow (enterReset cause s).free s.pending := by
  unfold enterReset
  dsimp only
  rw [firstStepMayBegin_panel, firstStepMayBegin_link, firstStepMayBegin_pending]
  rfl

theorem enterReset_flash (cause : Cause) : (enterReset cause s).setup.flash =
    (flashCut (firstStepMayBegin s).setup (firstStepMayBegin s).free).1 := rfl

/-- A reset leaves a flash that no step was writing (R176, R184). -/
theorem enterReset_flash_kept (cause : Cause) (h : s.setup.phase = .pumpCheck ∨ s.setup.phase.writesFlash = false) :
    (enterReset cause s).setup.flash = s.setup.flash := by
  have hnot : ¬ (s.setup.phase = .program ∧ programBegun s.setup = false) := by
    rintro ⟨hp, -⟩
    rw [hp] at h
    simp [Phase.writesFlash] at h
  rw [enterReset_flash, firstStepMayBegin_of_not s hnot]
  exact flashCut_not_writing h

/-- A reset in an operation leaves its slot as R176's table says. -/
theorem resetLeaves_of_flash (hs : s.flashKept = true) (cause : Cause)
    (ht : t.setup.flash = (enterReset cause s).setup.flash) : s.resetLeaves t := by
  have hwhole : (firstStepMayBegin s).setup.Whole := whole_firstStepMayBegin (flashKept_iff.1 hs)
  have hkept := enterReset_flash_kept (s := s) cause
  rw [← ht] at hkept
  rw [enterReset_flash] at ht
  have hsetup := firstStepMayBegin_setup s
  generalize (firstStepMayBegin s).setup = u at hwhole hsetup ht
  have hphase : s.setup.phase = u.phase := by rw [hsetup]
  have hslot : s.setup.slot = u.slot := by rw [hsetup]
  have hflash : s.setup.flash = u.flash := by rw [hsetup]
  unfold State.resetLeaves State.scansAs State.blankAt
  rw [hphase, hflash, ht] at hkept
  rw [hphase, hslot, hflash, ht]
  refine ⟨hkept, fun hp => judge_voidMark hwhole hp,
    fun hp hm => ⟨fun hf c => ?_, fun hf => ⟨fun hh c => ?_, fun hh c => ?_⟩⟩,
    fun hp hh => ⟨fun hf c => ?_, fun hf c => ?_⟩,
    fun hp hf hm => judge_sealing hwhole hp hm (Bool.eq_false_iff.2 hf)⟩
  · rw [judge_wipe hwhole hp hm, if_neg fun h => hf h.1]
  · rw [judge_wipe hwhole hp hm, if_pos ⟨hf, hh⟩]
  · rw [judge_wipe hwhole hp hm, if_neg fun h => hh h.2]
  · rw [judge_program hp hh, if_pos hf]
  · rw [judge_program hp hh, if_neg hf]

/-- What POWER_ON, RESET_N and SUPPLY_RESET put the part in; after POWER_ON the lamp chain is its own (R130, R184, log 12). -/
theorem exec_reset_event {i : Instr} {cause : Cause}
    (h : (i = .powerOn ∧ cause = .power) ∨ (i = .resetN ∧ cause = .pin) ∨ (i = .supplyReset ∧ cause = .supply)) :
    ∃ lamps n, exec i s =
      .next (State.inReset cause (enterReset cause s).setup.flash lamps s.link.csLow n s.pending) := by
  obtain ⟨rfl, rfl⟩ | ⟨rfl, rfl⟩ | ⟨rfl, rfl⟩ := h
  · refine ⟨(List.range 32).map fun i => Config.lampPowerUp ((enterReset .power s).free + i),
      (enterReset .power s).free + 32, ?_⟩
    simp [exec, execPowerOn, enterReset, State.inReset, Setup.reset]
  · exact ⟨_, _, congrArg Host.Outcome.next (enterReset_eq .pin)⟩
  · exact ⟨_, _, congrArg Host.Outcome.next (enterReset_eq .supply)⟩

end Sys2Proof.Machine

/-! ## The statements -/

open Sys2Proof Sys2Proof.Machine

/-- Settles O11: a reset event leaves the part in reset, with the flash as the step cut off has left it. -/
theorem resetsRestoreEverything : Obligations.ResetsRestoreEverything := by
  intro i cause s h
  obtain ⟨lamps, n, hexec⟩ := exec_reset_event (s := s) h
  exact ⟨_, hexec, rfl, rfl, rfl, rfl, rfl, rfl, rfl, rfl, ⟨lamps, rfl⟩, rfl, rfl, rfl, rfl, rfl,
    fun hp => enterReset_flash_kept cause (.inr hp), fun hs => resetLeaves_of_flash hs cause rfl⟩

/-- Settles O6: RESET ties the reset to its response, and the rise of CS_N takes what is tied to it. -/
theorem resetCommandTakenAtRise : Obligations.ResetCommandTakenAtRise := by
  refine ⟨fun s h => (takeCommand_takes h : execReset s = _), fun s clocked hh hp ht => ?_⟩
  have hexec := exec_csNRise_answered clocked hh hp
  rw [endResponse_reset (s := s.frameOver) ht, enterReset_eq] at hexec
  exact ⟨_, hexec, rfl, rfl, rfl, rfl, rfl, rfl, rfl, rfl, rfl, rfl, rfl, rfl, rfl, rfl,
    fun hphase => enterReset_flash_kept (s := s.frameOver) .command (.inr hphase)⟩
end

section
/-! SUPPORT. The bytes of a command: the parser counts them (R179), they spell one command alone, and decoding undoes the
wire's layout (R189). -/

namespace Sys2Proof.Machine

variable {s : State} {i j : Instr} {code : Byte} {ps : List Byte} {cal : Bool}

/-! ## Bytes, most significant first -/

theorem beNat_foldl (bs : List Byte) (a : Nat) :
    bs.foldl (fun a b => a * 256 + b.toNat) a = a * 256 ^ bs.length + beNat bs := by
  induction bs generalizing a with
  | nil => simp [beNat]
  | cons b bs ih =>
    rw [beNat, List.foldl_cons, List.foldl_cons, ih, ih, List.length_cons]
    ring

theorem beNat_cons (b : Byte) (bs : List Byte) : beNat (b :: bs) = b.toNat * 256 ^ bs.length + beNat bs := by
  rw [beNat, List.foldl_cons, beNat_foldl]
  simp

theorem beNat_lt (bs : List Byte) : beNat bs < 256 ^ bs.length := by
  induction bs with
  | nil => decide
  | cons b bs ih =>
    have hb : b.toNat < 256 := b.isLt
    rw [beNat_cons, List.length_cons, pow_succ]
    nlinarith

/-- Bytes keep a number but for multiples of what they can spell. -/
theorem beBytes_add_mul (n : Nat) (c v : Int) : beBytes n (c * 256 ^ n + v) = beBytes n v := by
  induction n generalizing c with
  | zero => rfl
  | succ n ih =>
    have hhead : (c * 256 ^ (n + 1) + v) / 256 ^ n = v / 256 ^ n + c * 256 := by
      rw [show c * 256 ^ (n + 1) + v = v + c * 256 * 256 ^ n by ring, Int.add_mul_ediv_right _ _ (by positivity)]
    have hbyte : BitVec.ofInt 8 (v / 256 ^ n + c * 256) = BitVec.ofInt 8 (v / 256 ^ n) := by
      apply BitVec.eq_of_toNat_eq
      rw [BitVec.toNat_ofInt, BitVec.toNat_ofInt]
      congr 1
      exact Int.add_mul_emod_self_right ..
    rw [beBytes, beBytes, hhead, hbyte, show c * 256 ^ (n + 1) + v = c * 256 * 256 ^ n + v by ring, ih]

/-- The bytes of the number that bytes spell. -/
theorem beBytes_beNat (bs : List Byte) : beBytes bs.length (beNat bs) = bs := by
  induction bs with
  | nil => rfl
  | cons b bs ih =>
    have hhead : ((b.toNat : Int) * 256 ^ bs.length + (beNat bs : Int)) / 256 ^ bs.length = b.toNat := by
      rw [add_comm, Int.add_mul_ediv_right _ _ (by positivity), Int.ediv_eq_zero_of_lt (by positivity), zero_add]
      exact_mod_cast beNat_lt bs
    rw [beNat_cons, List.length_cons]
    push_cast
    rw [beBytes, hhead, beBytes_add_mul, ih, BitVec.ofInt_natCast, BitVec.ofNat_toNat, BitVec.setWidth_eq]

/-- The number that a number's bytes spell. -/
theorem beNat_beBytes {n v : Nat} (h : v < 256 ^ n) : beNat (beBytes n v) = v := by
  induction n generalizing v with
  | zero => rw [pow_zero, Nat.lt_one_iff] at h; rw [h]; rfl
  | succ n ih =>
    have hpos : 0 < 256 ^ n := by positivity
    have htail : beBytes n (v : Int) = beBytes n ((v % 256 ^ n : Nat) : Int) := by
      rw [← beBytes_add_mul n ((v / 256 ^ n : Nat) : Int) ((v % 256 ^ n : Nat) : Int)]
      congr 1
      exact_mod_cast (Nat.div_add_mod' v (256 ^ n)).symm
    have hhead : (BitVec.ofInt 8 ((v : Int) / 256 ^ n)).toNat = v / 256 ^ n := by
      rw [show (v : Int) / 256 ^ n = ((v / 256 ^ n : Nat) : Int) by push_cast; rfl, BitVec.ofInt_natCast, BitVec.toNat_ofNat]
      exact Nat.mod_eq_of_lt (Nat.div_lt_of_lt_mul (by rwa [pow_succ] at h))
    rw [beBytes, beNat_cons, beBytes_length, hhead, htail, ih (Nat.mod_lt _ hpos)]
    exact Nat.div_add_mod' v (256 ^ n)

/-! ## Operands of two, three and eight bytes -/

theorem beBytes_two (h1 h0 : Byte) : beBytes 2 (h1 ++ h0).toNat = [h1, h0] := by
  have hnat : (h1 ++ h0).toNat = beNat [h1, h0] := by rw [toNat_append_eq]; simp [beNat]
  rw [hnat]
  exact beBytes_beNat [h1, h0]

theorem beBytes_three (h2 h1 h0 : Byte) : beBytes 3 (h2 ++ h1 ++ h0).toNat = [h2, h1, h0] := by
  have hnat : (h2 ++ h1 ++ h0).toNat = beNat [h2, h1, h0] := by rw [toNat_append_eq, toNat_append_eq]; simp [beNat]
  rw [hnat]
  exact beBytes_beNat [h2, h1, h0]

theorem exists_two_bytes (x : BitVec 16) : ∃ h1 h0 : Byte, x = h1 ++ h0 :=
  ⟨x.extractLsb' 8 8, x.extractLsb' 0 8, (BitVec.extractLsb'_append_extractLsb' (w := 8) (len := 8)).symm⟩

theorem exists_three_bytes (x : BitVec 24) : ∃ h2 h1 h0 : Byte, x = h2 ++ h1 ++ h0 := by
  obtain ⟨h2, h1, h⟩ := exists_two_bytes (x.extractLsb' 8 16)
  exact ⟨h2, h1, x.extractLsb' 0 8, by rw [← h]; exact (BitVec.extractLsb'_append_extractLsb' (w := 16) (len := 8)).symm⟩

theorem ofNat_beNat_beBytes (v : BitVec 64) : BitVec.ofNat 64 (beNat (beBytes 8 v.toNat)) = v := by
  rw [beNat_beBytes v.isLt, BitVec.ofNat_toNat, BitVec.setWidth_eq]

theorem beBytes_ofNat_beNat {bs : List Byte} (h : bs.length = 8) : beBytes 8 (BitVec.ofNat 64 (beNat bs)).toNat = bs := by
  have hlt := beNat_lt bs
  rw [h] at hlt
  rw [BitVec.toNat_ofNat, Nat.mod_eq_of_lt (show beNat bs < 2 ^ 64 from hlt), ← h]
  exact beBytes_beNat bs

/-- A length byte says the length of a text of at most 255 characters (R179). -/
theorem lengthByte_toNat {n : Nat} (h : n ≤ 255) : (BitVec.ofInt 8 (n : Int)).toNat = n := by
  rw [BitVec.ofInt_natCast, BitVec.toNat_ofNat]
  omega

/-! ## The wire's layout and decoding (R189) -/

/-- The command with CAL_EN at a level, for the two that sample the pin (log 7). -/
def atCal (cal : Bool) : Instr → Instr
  | .save slot _ => .save slot cal
  | .erase slot _ => .erase slot cal
  | i => i

theorem atCal_calLevel (i : Instr) : atCal (calLevel i) i = i := by cases i <;> rfl

theorem wire_read (h1 h0 n o : Byte) : wire (.read (h1 ++ h0) n o) = some (0x02, [h1, h0, n, o]) :=
  congrArg (fun h => some ((0x02 : Byte), h ++ [n, o])) (beBytes_two h1 h0)

theorem wire_write (h1 h0 n : Byte) (v : BitVec 64) :
    wire (.write (h1 ++ h0) n v) = some (0x03, h1 :: h0 :: n :: beBytes 8 v.toNat) :=
  congrArg (fun h => some ((0x03 : Byte), h ++ [n] ++ beBytes 8 v.toNat)) (beBytes_two h1 h0)

theorem wire_writeText (h1 h0 n : Byte) (text : List Byte) : wire (.writeText (h1 ++ h0) n text) =
    some (0x04, h1 :: h0 :: n :: BitVec.ofInt 8 (text.length : Int) :: text) := by
  refine (congrArg (fun h => some ((0x04 : Byte), h ++ [n] ++ beBytes 1 text.length ++ text)) (beBytes_two h1 h0)).trans ?_
  rw [beBytes_one]
  rfl

theorem wire_retire (h1 h0 : Byte) : wire (.retire (h1 ++ h0)) = some (0x06, [h1, h0]) :=
  congrArg (fun h => some ((0x06 : Byte), h)) (beBytes_two h1 h0)

theorem wire_columns (ch f1 f0 c1 c0 : Byte) :
    wire (.columns ch (f1 ++ f0) (c1 ++ c0)) = some (0x10, [ch, f1, f0, c1, c0]) :=
  congrArg₂ (fun f c => some ((0x10 : Byte), [ch] ++ f ++ c)) (beBytes_two f1 f0) (beBytes_two c1 c0)

theorem wire_noticeClear (s2 s1 s0 fails : Byte) :
    wire (.noticeClear (s2 ++ s1 ++ s0) fails) = some (0x13, [s2, s1, s0, fails]) :=
  congrArg (fun x => some ((0x13 : Byte), x ++ [fails])) (beBytes_three s2 s1 s0)

/-- Bytes laid out for a command decode to it. -/
theorem decodeCommand_wire (hwf : i.wellFormed = true) (hw : wire i = some (code, ps)) :
    decodeCommand cal (code :: ps) = some (atCal cal i) := by
  cases i
  case read handle _ _ =>
    obtain ⟨h1, h0, rfl⟩ := exists_two_bytes handle
    rw [wire_read] at hw
    cases hw
    rfl
  case write handle _ v =>
    obtain ⟨h1, h0, rfl⟩ := exists_two_bytes handle
    rw [wire_write] at hw
    cases hw
    have hvalue := ofNat_beNat_beBytes v
    refine (if_pos (e := none) (beBytes_length 8 v.toNat)).trans ?_
    rw [hvalue]
    rfl
  case writeText handle _ text =>
    obtain ⟨h1, h0, rfl⟩ := exists_two_bytes handle
    rw [wire_writeText] at hw
    cases hw
    exact if_pos (lengthByte_toNat (of_decide_eq_true hwf)).symm
  case retire handle =>
    obtain ⟨h1, h0, rfl⟩ := exists_two_bytes handle
    rw [wire_retire] at hw
    cases hw
    rfl
  case columns _ first count =>
    obtain ⟨f1, f0, rfl⟩ := exists_two_bytes first
    obtain ⟨c1, c0, rfl⟩ := exists_two_bytes count
    rw [wire_columns] at hw
    cases hw
    rfl
  case noticeClear sources _ =>
    obtain ⟨s2, s1, s0, rfl⟩ := exists_three_bytes sources
    rw [wire_noticeClear] at hw
    cases hw
    rfl
  case nop | identify | create | groupOpen | groupLaunch | groupDiscard | groupStatus | run | stop | single | force
    | clearStats | panelRead | noticeRead | save | erase | recallSetup | abort | setupStatus | reset =>
    cases hw
    rfl
  all_goals cases hw

/-- Whatever bytes after a command byte decode to a command are that command's own layout (R189). -/
def Spells (c : Byte) : Prop :=
  ∀ cal params i, decodeCommand cal (c :: params) = some i → i.wellFormed = true ∧ wire i = some (c, params)

theorem spells_plain {c : Byte} {j : Instr} (hwf : j.wellFormed = true) (hw : wire j = some (c, []))
    (hnil : ∀ cal, decodeCommand cal [c] = some j) (hcons : ∀ cal x xs, decodeCommand cal (c :: x :: xs) = none) :
    Spells c := by
  intro cal params i h
  cases params with
  | nil =>
    cases (hnil cal).symm.trans h
    exact ⟨hwf, hw⟩
  | cons x xs => cases (hcons cal x xs).symm.trans h

theorem spells_single {c : Byte} {f : Bool → Byte → Instr} (hwf : ∀ cal x, (f cal x).wellFormed = true)
    (hw : ∀ cal x, wire (f cal x) = some (c, [x])) (hnil : ∀ cal, decodeCommand cal [c] = none)
    (hone : ∀ cal x, decodeCommand cal [c, x] = some (f cal x))
    (hmore : ∀ cal x y ys, decodeCommand cal (c :: x :: y :: ys) = none) : Spells c := by
  intro cal params i h
  match params with
  | [] => cases (hnil cal).symm.trans h
  | [x] =>
    cases (hone cal x).symm.trans h
    exact ⟨hwf cal x, hw cal x⟩
  | x :: y :: ys => cases (hmore cal x y ys).symm.trans h

theorem spells_read : Spells 0x02 := by
  intro cal params i h
  match params with
  | [h1, h0, n, o] =>
    cases h
    exact ⟨rfl, wire_read h1 h0 n o⟩
  | [] | [_] | [_, _] | [_, _, _] | _ :: _ :: _ :: _ :: _ :: _ => cases h

theorem spells_write : Spells 0x03 := by
  intro cal params i h
  match params with
  | h1 :: h0 :: n :: value =>
    change (if value.length = 8 then _ else _) = _ at h
    split at h
    · next hlength =>
      cases h
      exact ⟨rfl, by rw [wire_write, beBytes_ofNat_beNat hlength]⟩
    · cases h
  | [] | [_] | [_, _] => cases h

theorem spells_writeText : Spells 0x04 := by
  intro cal params i h
  match params with
  | h1 :: h0 :: n :: len :: text =>
    change (if text.length = len.toNat then _ else _) = _ at h
    split at h
    · next hlength =>
      cases h
      refine ⟨decide_eq_true (hlength.trans_le (Nat.le_of_lt_succ len.isLt)), ?_⟩
      rw [wire_writeText, hlength, BitVec.ofInt_natCast, BitVec.ofNat_toNat, BitVec.setWidth_eq]
    · cases h
  | [] | [_] | [_, _] | [_, _, _] => cases h

theorem spells_create : Spells 0x05 := by
  intro cal params i h
  match params with
  | [_, _] =>
    cases h
    exact ⟨rfl, rfl⟩
  | [] | [_] | _ :: _ :: _ :: _ => cases h

theorem spells_retire : Spells 0x06 := by
  intro cal params i h
  match params with
  | [h1, h0] =>
    cases h
    exact ⟨rfl, wire_retire h1 h0⟩
  | [] | [_] | _ :: _ :: _ :: _ => cases h

theorem spells_columns : Spells 0x10 := by
  intro cal params i h
  match params with
  | [ch, f1, f0, c1, c0] =>
    cases h
    exact ⟨rfl, wire_columns ch f1 f0 c1 c0⟩
  | [] | [_] | [_, _] | [_, _, _] | [_, _, _, _] | _ :: _ :: _ :: _ :: _ :: _ :: _ => cases h

theorem spells_noticeClear : Spells 0x13 := by
  intro cal params i h
  match params with
  | [s2, s1, s0, fails] =>
    cases h
    exact ⟨rfl, wire_noticeClear s2 s1 s0 fails⟩
  | [] | [_] | [_, _] | [_, _, _] | _ :: _ :: _ :: _ :: _ :: _ => cases h

/-- The command table of R189. -/
theorem spells_known : ∀ n, n < 26 → Spells (BitVec.ofNat 8 n)
  | 0, _ => spells_plain (j := .nop) rfl rfl (fun _ => rfl) fun _ _ _ => rfl
  | 1, _ => spells_plain (j := .identify) rfl rfl (fun _ => rfl) fun _ _ _ => rfl
  | 2, _ => spells_read
  | 3, _ => spells_write
  | 4, _ => spells_writeText
  | 5, _ => spells_create
  | 6, _ => spells_retire
  | 7, _ => spells_single (f := fun _ => .groupOpen) (fun _ _ => rfl) (fun _ _ => rfl) (fun _ => rfl) (fun _ _ => rfl)
    fun _ _ _ _ => rfl
  | 8, _ => spells_single (f := fun _ => .groupLaunch) (fun _ _ => rfl) (fun _ _ => rfl) (fun _ => rfl) (fun _ _ => rfl)
    fun _ _ _ _ => rfl
  | 9, _ => spells_single (f := fun _ => .groupDiscard) (fun _ _ => rfl) (fun _ _ => rfl) (fun _ => rfl) (fun _ _ => rfl)
    fun _ _ _ _ => rfl
  | 10, _ => spells_plain (j := .groupStatus) rfl rfl (fun _ => rfl) fun _ _ _ => rfl
  | 11, _ => spells_plain (j := .run) rfl rfl (fun _ => rfl) fun _ _ _ => rfl
  | 12, _ => spells_plain (j := .stop) rfl rfl (fun _ => rfl) fun _ _ _ => rfl
  | 13, _ => spells_plain (j := .single) rfl rfl (fun _ => rfl) fun _ _ _ => rfl
  | 14, _ => spells_plain (j := .force) rfl rfl (fun _ => rfl) fun _ _ _ => rfl
  | 15, _ => spells_plain (j := .clearStats) rfl rfl (fun _ => rfl) fun _ _ _ => rfl
  | 16, _ => spells_columns
  | 17, _ => spells_plain (j := .panelRead) rfl rfl (fun _ => rfl) fun _ _ _ => rfl
  | 18, _ => spells_plain (j := .noticeRead) rfl rfl (fun _ => rfl) fun _ _ _ => rfl
  | 19, _ => spells_noticeClear
  | 20, _ => spells_single (f := fun cal slot => .save slot cal) (fun _ _ => rfl) (fun _ _ => rfl) (fun _ => rfl)
    (fun _ _ => rfl) fun _ _ _ _ => rfl
  | 21, _ => spells_single (f := fun cal slot => .erase slot cal) (fun _ _ => rfl) (fun _ _ => rfl) (fun _ => rfl)
    (fun _ _ => rfl) fun _ _ _ _ => rfl
  | 22, _ => spells_single (f := fun _ => .recallSetup) (fun _ _ => rfl) (fun _ _ => rfl) (fun _ => rfl) (fun _ _ => rfl)
    fun _ _ _ _ => rfl
  | 23, _ => spells_plain (j := .abort) rfl rfl (fun _ => rfl) fun _ _ _ => rfl
  | 24, _ => spells_plain (j := .setupStatus) rfl rfl (fun _ => rfl) fun _ _ _ => rfl
  | 25, _ => spells_plain (j := .reset) rfl rfl (fun _ => rfl) fun _ _ _ => rfl
  | n + 26, h => absurd h (by omega)

/-- A byte beyond the table begins no command (R181). -/
theorem decodeCommand_unknown {c : Byte} {n : Nat} (hc : c.toNat = n + 26) (params : List Byte) :
    decodeCommand cal (c :: params) = none := by
  delta decodeCommand
  dsimp only
  rw [hc]
  rfl

/-- Decoding undoes the layout, whatever the command byte. -/
theorem spells (c : Byte) : Spells c := by
  obtain hc | hc := Nat.lt_or_ge c.toNat 26
  · have h := spells_known c.toNat hc
    rwa [BitVec.ofNat_toNat, BitVec.setWidth_eq] at h
  · intro cal params i h
    rw [decodeCommand_unknown (n := c.toNat - 26) (by omega)] at h
    cases h

/-! ## One command for the bytes of a frame (R179, R189) -/

/-- The command byte says how many parameter bytes come, WRITE_TEXT's up to its length byte. -/
theorem wire_paramCount (hw : wire i = some (code, ps)) : paramCount code = some (if code = 0x04 then 4 else ps.length) := by
  cases i
  case nop | identify | read | write | writeText | create | retire | groupOpen | groupLaunch | groupDiscard | groupStatus
    | run | stop | single | force | clearStats | columns | panelRead | noticeRead | noticeClear | save | erase
    | recallSetup | abort | setupStatus | reset =>
    cases hw
    rfl
  all_goals cases hw

/-- Of all commands a frame could carry, only too long a text is ill-formed. -/
theorem wellFormed_or_text (hw : wire i = some (code, ps)) :
    (i.wellFormed = true ∧ code ≠ writeTextCode ∧ ps.length ≤ 11) ∨ ∃ h n text, i = .writeText h n text := by
  cases i
  case writeText h n text => exact .inr ⟨h, n, text, rfl⟩
  case nop | identify | read | write | create | retire | groupOpen | groupLaunch | groupDiscard | groupStatus
    | run | stop | single | force | clearStats | columns | panelRead | noticeRead | noticeClear | save | erase
    | recallSetup | abort | setupStatus | reset =>
    cases hw
    exact .inl ⟨rfl, by decide, by simp⟩
  all_goals cases hw

theorem wellFormed_text {h : BitVec 16} {n : Byte} {text : List Byte} (hw : wire (.writeText h n text) = some (code, ps)) :
    (Instr.writeText h n text).wellFormed = true ↔ ps.length ≤ 259 := by
  obtain ⟨h1, h0, rfl⟩ := exists_two_bytes h
  rw [wire_writeText] at hw
  cases hw
  rw [Instr.wellFormed, decide_eq_true_eq]
  simp only [List.length_cons]
  omega

/-- Two texts of the same bytes are the same command, however long. -/
theorem writeText_wire_inj {h h' : BitVec 16} {n n' : Byte} {text text' : List Byte}
    (hw : wire (.writeText h n text) = wire (.writeText h' n' text')) :
    Instr.writeText h n text = .writeText h' n' text' := by
  obtain ⟨h1, h0, rfl⟩ := exists_two_bytes h
  obtain ⟨h1', h0', rfl⟩ := exists_two_bytes h'
  rw [wire_writeText, wire_writeText] at hw
  simp only [Option.some.injEq, Prod.mk.injEq, List.cons.injEq] at hw
  obtain ⟨-, rfl, rfl, rfl, -, rfl⟩ := hw
  rfl

theorem wellFormed_of_wire_eq (hi : wire i = some (code, ps)) (hj : wire j = some (code, ps)) (hwf : i.wellFormed = true) :
    j.wellFormed = true := by
  obtain ⟨hjwf, -⟩ | ⟨h, n, text, rfl⟩ := wellFormed_or_text hj
  · exact hjwf
  · rw [wellFormed_text hj]
    obtain ⟨-, -, hlength⟩ | ⟨h', n', text', rfl⟩ := wellFormed_or_text hi
    · exact hlength.trans (by decide)
    · rwa [← wellFormed_text hi]

theorem eq_atCal_cases (h : i = atCal cal j) : i = j ∨ (∃ slot a b, i = .save slot a ∧ j = .save slot b)
    ∨ ∃ slot a b, i = .erase slot a ∧ j = .erase slot b := by
  cases j
  case save slot b => exact .inr (.inl ⟨slot, cal, b, h, rfl⟩)
  case erase slot b => exact .inr (.inr ⟨slot, cal, b, h, rfl⟩)
  all_goals exact .inl h

theorem wire_inj (hi : wire i = some (code, ps)) (hj : wire j = some (code, ps)) :
    i = j ∨ (∃ slot a b, i = .save slot a ∧ j = .save slot b) ∨ ∃ slot a b, i = .erase slot a ∧ j = .erase slot b := by
  by_cases hwf : i.wellFormed = true
  · have hdecode := decodeCommand_wire (cal := calLevel i) hwf hi
    rw [decodeCommand_wire (wellFormed_of_wire_eq hi hj hwf) hj, atCal_calLevel] at hdecode
    exact eq_atCal_cases (Option.some.inj hdecode).symm
  · have hjwf : ¬ j.wellFormed = true := fun h => hwf (wellFormed_of_wire_eq hj hi h)
    obtain ⟨h, -⟩ | ⟨h, n, text, rfl⟩ := wellFormed_or_text hi
    · exact absurd h hwf
    · obtain ⟨h, -⟩ | ⟨h', n', text', rfl⟩ := wellFormed_or_text hj
      · exact absurd h hjwf
      · exact .inl (writeText_wire_inj (hi.trans hj.symm))

/-! ## A word that holds a command's bytes (log 2) -/

/-- How many bytes follow a command byte: the table's count, and as many more as WRITE_TEXT's length byte says. -/
theorem wire_total (hwf : i.wellFormed = true) (hw : wire i = some (code, ps)) : ∃ n, paramCount code = some n
    ∧ n ≤ ps.length ∧ ps.length = if code = writeTextCode then n + ((code :: ps).getD n 0).toNat else n := by
  obtain ⟨-, hcode, -⟩ | ⟨h, n, text, rfl⟩ := wellFormed_or_text hw
  · refine ⟨ps.length, ?_, le_rfl, (if_neg hcode).symm⟩
    rw [wire_paramCount hw]
    exact congrArg some (if_neg hcode)
  · obtain ⟨h1, h0, rfl⟩ := exists_two_bytes h
    rw [wire_writeText] at hw
    cases hw
    refine ⟨4, rfl, Nat.le_add_left 4 text.length, ?_⟩
    have hlength : (BitVec.ofInt 8 (text.length : Int)).toNat = text.length := lengthByte_toNat (of_decide_eq_true hwf)
    refine Eq.trans ?_ (if_pos rfl).symm
    change text.length + 4 = 4 + (BitVec.ofInt 8 (text.length : Int)).toNat
    omega

theorem wordByte_of_bytes {w n k : Nat} {bs : List Byte} (h : (List.range n).map (wordByte w) = bs) (hk : k < n) :
    wordByte w k = bs.getD k 0 := by
  rw [← h, List.getD_eq_getElem?_getD]
  simp [hk]

/-- A word that holds a command's bytes, byte 0 lowest, spells the command with CAL_EN low (R189, log 2). -/
theorem decodeTableWord_wire {nbits w : Nat} (hwf : i.wellFormed = true) (hw : wire i = some (code, ps)) (h8 : 8 ≤ nbits)
    (hlt : w < 2 ^ nbits) (hbytes : (List.range (ps.length + 1)).map (wordByte w) = code :: ps) :
    decodeTableWord nbits w = some (atCal false i) := by
  obtain ⟨n, hcount, hn, htotal⟩ := wire_total hwf hw
  have hcode : wordByte w 0 = code := wordByte_of_bytes hbytes (Nat.succ_pos _)
  have hlength : wordByte w n = (code :: ps).getD n 0 := wordByte_of_bytes hbytes (Nat.lt_succ_of_le hn)
  simp only [decodeTableWord, if_neg (Nat.not_lt.2 h8), Nat.mod_eq_of_lt hlt, hcode, hcount, hlength]
  rw [← htotal, hbytes]
  exact decodeCommand_wire hwf hw

theorem decodeTableWord_unknown {nbits w : Nat} (h : paramCount (wordByte (w % 2 ^ nbits) 0) = none) :
    decodeTableWord nbits w = none := by
  unfold decodeTableWord
  dsimp only
  rw [h]
  split <;> rfl

/-! ## The parser (R179, R181) -/

theorem exec_commandByte {b : Byte} {n : Nat} (hh : s.held = false) (hp : s.link.parser = .command)
    (hn : paramCount b = some (n + 1)) : exec (.commandByte b) s = .next (setParser (.parameters b [] (n + 1)) s) := by
  simp only [exec, execCommandByte, awake_running hh, hp, hn, if_true]

theorem exec_parameterByte {b c : Byte} {got : List Byte} {n : Nat} (hh : s.held = false)
    (hp : s.link.parser = .parameters c got n) (hn : 2 ≤ n) :
    exec (.parameterByte b) s = .next (setParser (.parameters c (got ++ [b]) (n - 1)) s) := by
  simp only [exec, execParameterByte, awake_running hh, hp, hn, if_true]

/-- The fourth parameter byte of WRITE_TEXT says how many text bytes follow (R179). -/
theorem exec_parameterByte_length {b : Byte} {got : List Byte} (hh : s.held = false)
    (hp : s.link.parser = .parameters writeTextCode got 1) (hgot : got.length = 3) (hb : b ≠ 0) :
    exec (.parameterByte b) s = .next (setParser (.parameters writeTextCode (got ++ [b]) b.toNat) s) := by
  simp only [exec, execParameterByte, awake_running hh, hp]
  rw [if_neg (by decide), if_pos ⟨trivial, trivial, hgot, hb⟩]

theorem exec_unknownCommand {b : Byte} (hh : s.held = false) (hp : s.link.parser = .command) (hb : paramCount b = none) :
    exec (.unknownCommand b) s = .next (s.answer .unknownCommand [] .none) :=
  (awake_running hh).trans (congrArg Host.Outcome.next (if_pos ⟨hp, hb⟩))

end Sys2Proof.Machine

/-! ## The statement -/

open Sys2Proof Sys2Proof.Machine

/-- Settles O3: the parser's steps by its state; the layout of a command decodes to it, so that no two commands share it. -/
theorem parserCountsBytes : Obligations.ParserCountsBytes := by
  refine ⟨fun s b n hh hp hn => exec_commandByte hh hp hn, fun s b c got n hh hp hn => exec_parameterByte hh hp hn,
    fun s b got hh hp hgot hb => exec_parameterByte_length hh hp hgot hb, fun s b hh hp hb => exec_unknownCommand hh hp hb,
    fun i code ps => wire_paramCount, fun i j code ps => wire_inj,
    fun i code ps hwf hw => ⟨?_, fun nbits w hcal h8 hlt hbytes => ?_⟩,
    fun cal bs i h => ?_, fun nbits w => decodeTableWord_unknown⟩
  · rw [decodeCommand_wire hwf hw, atCal_calLevel]
  · rw [decodeTableWord_wire hwf hw h8 hlt hbytes, ← hcal, atCal_calLevel]
  · cases bs with
    | nil => cases h
    | cons code ps =>
      obtain ⟨hwf, hw⟩ := spells code cal ps i h
      exact ⟨hwf, code, ps, rfl, hw⟩
end

section
/-! SUPPORT. The SECDED code (R191): what one turned bit does to the data bits, their parity and their check bits, what the
check byte holds, and the outcomes of the test. -/

namespace Sys2Proof.Machine

variable {data : List Byte} {check : Byte} {j p : Nat}

/-! ## The data bits -/

theorem bitsOf_cons (b : Byte) (bs : List Byte) : bitsOf (b :: bs) = bitsOf [b] ++ bitsOf bs := by simp [bitsOf]

theorem bitsOf_singleton_length (b : Byte) : (bitsOf [b]).length = 8 := rfl

@[simp] theorem bitsOf_length (bs : List Byte) : (bitsOf bs).length = 8 * bs.length := by
  induction bs with
  | nil => rfl
  | cons b bs ih =>
    rw [bitsOf_cons, List.length_append, bitsOf_singleton_length, ih, List.length_cons]
    ring

/-- Bit i of a byte, counted from the most significant. -/
theorem bitsOf_singleton_getElem (b : Byte) {i : Nat} (h : i < (bitsOf [b]).length) : (bitsOf [b])[i] = b.getLsbD (7 - i) := by
  rw [bitsOf_singleton_length] at h
  interval_cases i <;> rfl

theorem bitsOf_flip_byte (b : Byte) (h : j < 8) :
    bitsOf [b ^^^ BitVec.ofNat 8 (2 ^ (7 - j))] = (bitsOf [b]).modify j not := by
  refine List.ext_getElem (by simp) fun i hi _ => ?_
  have hi8 : i < 8 := hi
  rw [bitsOf_singleton_getElem, List.getElem_modify, bitsOf_singleton_getElem, BitVec.getLsbD_xor, BitVec.getLsbD_ofNat,
    Nat.testBit_two_pow]
  by_cases hij : j = i
  · subst hij
    have htop : 7 - j < 8 := by omega
    simp [htop]
  · have hne : 7 - j ≠ 7 - i := by omega
    simp [hij, hne]

theorem flipBit_of_lt (b : Byte) (bs : List Byte) (h : j < 8) :
    flipBit j (b :: bs) = (b ^^^ BitVec.ofNat 8 (2 ^ (7 - j))) :: bs := by
  rw [flipBit, Nat.div_eq_of_lt h, Nat.mod_eq_of_lt h, List.modify_zero_cons]

theorem flipBit_add_eight (b : Byte) (bs : List Byte) : flipBit (j + 8) (b :: bs) = b :: flipBit j bs := by
  rw [flipBit, Nat.add_div_right _ (by decide), Nat.add_mod_right, List.modify_succ_cons, flipBit]

theorem flipBit_flipBit (j : Nat) (bs : List Byte) : flipBit j (flipBit j bs) = bs := by
  rw [flipBit, flipBit, List.modify_modify_eq]
  convert List.modify_id (j / 8) bs using 2
  funext b
  simp

theorem modify_append_left {α : Type} (f : α → α) {xs : List α} (ys : List α) (h : j < xs.length) :
    (xs ++ ys).modify j f = xs.modify j f ++ ys := by
  induction xs generalizing j with
  | nil => cases h
  | cons x xs ih =>
    cases j with
    | zero => rfl
    | succ j => exact congrArg (x :: ·) (ih (Nat.lt_of_succ_lt_succ h))

/-- Turning data bit j turns the j-th of the bits and no other. -/
theorem bitsOf_flipBit (j : Nat) (bs : List Byte) : bitsOf (flipBit j bs) = (bitsOf bs).modify j not := by
  induction bs generalizing j with
  | nil => simp [flipBit, bitsOf]
  | cons b bs ih =>
    rw [bitsOf_cons b bs]
    by_cases h : j < 8
    · rw [flipBit_of_lt b bs h, bitsOf_cons, bitsOf_flip_byte b h, modify_append_left not _ h]
    · obtain ⟨i, rfl⟩ := Nat.exists_eq_add_of_le' (Nat.not_lt.1 h)
      rw [flipBit_add_eight, bitsOf_cons, ih, Nat.add_comm i 8]
      exact (List.modifyTailIdx_add (List.modifyHead not) i (bitsOf [b]) (bitsOf bs)).symm

/-! ## Parity and check bits of turned bits -/

theorem parityOf_cons (b : Bool) (bits : List Bool) : parityOf (b :: bits) = xor b (parityOf bits) := by
  have hfoldl (a : Bool) : bits.foldl xor a = xor a (bits.foldl xor false) := by
    induction bits generalizing a with
    | nil => simp
    | cons c bits ih => rw [List.foldl_cons, List.foldl_cons, ih, ih (xor false c)]; simp
  rw [parityOf, List.foldl_cons, hfoldl, Bool.false_xor, parityOf]

theorem parityOf_turned {bits : List Bool} (h : j < bits.length) : parityOf (bits.modify j not) = !parityOf bits := by
  induction bits generalizing j with
  | nil => cases h
  | cons b bits ih =>
    cases j with
    | zero => simp [parityOf_cons]
    | succ j => simp [parityOf_cons, ih (Nat.lt_of_succ_lt_succ h)]

/-- The exclusive-or of the positions of the set bits. -/
def positionsXor : List Nat → List Bool → Nat
  | p :: ps, b :: bits => (if b then p else 0) ^^^ positionsXor ps bits
  | _, _ => 0

theorem foldl_zip_eq_positionsXor (ps : List Nat) (bits : List Bool) (a : Nat) :
    (ps.zip bits).foldl (fun a p => if p.2 then a ^^^ p.1 else a) a = a ^^^ positionsXor ps bits := by
  induction ps generalizing bits a with
  | nil => simp [positionsXor]
  | cons p ps ih =>
    cases bits with
    | nil => simp [positionsXor]
    | cons b bits => cases b <;> simp [positionsXor, ih, Nat.xor_assoc]

theorem checkBits_eq (bits : List Bool) : checkBits bits = positionsXor (dataPositions bits.length) bits := by
  rw [checkBits, foldl_zip_eq_positionsXor, Nat.zero_xor]

theorem positionsXor_turned {ps : List Nat} {bits : List Bool} (hp : ps[j]? = some p) (hb : j < bits.length) :
    positionsXor ps (bits.modify j not) = positionsXor ps bits ^^^ p := by
  induction ps generalizing j bits with
  | nil => cases hp
  | cons q ps ih =>
    cases bits with
    | nil => cases hb
    | cons b bits =>
      cases j with
      | zero =>
        obtain rfl : q = p := Option.some.inj hp
        cases b <;> simp [positionsXor, Nat.xor_comm]
      | succ j => simp [positionsXor, ih hp (Nat.lt_of_succ_lt_succ hb), Nat.xor_assoc]

/-- A turned bit turns the check bits by its position. -/
theorem checkBits_turned {bits : List Bool} (hp : (dataPositions bits.length)[j]? = some p) (hb : j < bits.length) :
    checkBits (bits.modify j not) = checkBits bits ^^^ p := by
  rw [checkBits_eq, checkBits_eq, List.length_modify, positionsXor_turned hp hb]

theorem positionsXor_lt {ps : List Nat} {n : Nat} (h : ∀ p ∈ ps, p < 2 ^ n) (bits : List Bool) :
    positionsXor ps bits < 2 ^ n := by
  induction ps generalizing bits with
  | nil => exact Nat.two_pow_pos n
  | cons p ps ih =>
    cases bits with
    | nil => exact Nat.two_pow_pos n
    | cons b bits =>
      refine Nat.xor_lt_two_pow ?_ (ih (fun q hq => h q (List.mem_cons_of_mem p hq)) bits)
      split
      · exact h p List.mem_cons_self
      · exact Nat.two_pow_pos n

/-! ## The positions -/

theorem mem_dataPositions {k : Nat} (h : p ∈ dataPositions k) :
    p < k + 8 ∧ p ≠ 0 ∧ [1, 2, 4, 8, 16, 32, 64].contains p = false := by
  simpa [dataPositions] using h

theorem dataPositions_nodup (k : Nat) : (dataPositions k).Nodup := List.nodup_range.filter _

/-- An entry's 80 bits have 80 positions. -/
theorem dataPositions_entry_length : (dataPositions 80).length = 80 := by decide

/-- A position is found at its own place. -/
theorem findIdx?_dataPositions {k : Nat} (h : (dataPositions k)[j]? = some p) :
    ((dataPositions k).findIdx? fun q => q == p) = some j := by
  obtain ⟨hj, rfl⟩ := List.getElem?_eq_some_iff.1 h
  rw [List.findIdx?_eq_some_iff_getElem]
  refine ⟨hj, by simp, fun i hij => ?_⟩
  simp [(dataPositions_nodup k).getElem_inj_iff, hij.ne]

/-- Seven bits hold the check bits of up to 120 data bits. -/
theorem checkBits_lt {bits : List Bool} (h : bits.length ≤ 120) : checkBits bits < 2 ^ 7 := by
  rw [checkBits_eq]
  refine positionsXor_lt (fun p hp => ?_) bits
  have hrange : p < bits.length + 8 := (mem_dataPositions hp).1
  omega

/-! ## The check byte -/

theorem top_clear {b : Byte} (h : b.toNat < 128) : b[7] = false :=
  Nat.testBit_lt_two_pow (show b.toNat < 2 ^ 7 from h)

theorem or_top_eq_xor {c : Byte} (h : c.toNat < 128) : c ||| 0x80 = c ^^^ 0x80 := by
  ext i hi
  interval_cases i <;> simp [top_clear h]

theorem and_low {c : Byte} (h : c.toNat < 128) : c &&& 0x7F = c := by
  ext i hi
  interval_cases i <;> simp [top_clear h]

theorem or_top_and_low {c : Byte} (h : c.toNat < 128) : (c ||| 0x80) &&& 0x7F = c := by
  ext i hi
  interval_cases i <;> simp [top_clear h]

/-- Setting the clear top bit of a byte turns its parity. -/
theorem parityOf_or_top {c : Byte} (h : c.toNat < 128) : parityOf (bitsOf [c ||| 0x80]) = !parityOf (bitsOf [c]) := by
  have hflip : [c ||| 0x80] = flipBit 0 [c] := congrArg (fun b => [b]) (or_top_eq_xor h)
  rw [hflip, bitsOf_flipBit, parityOf_turned (by simp)]

/-- The check bits of up to 15 bytes fit below a byte's top bit. -/
theorem checkBits_toNat (h : data.length ≤ 15) :
    (BitVec.ofNat 8 (checkBits (bitsOf data)) : Byte).toNat = checkBits (bitsOf data)
      ∧ (BitVec.ofNat 8 (checkBits (bitsOf data)) : Byte).toNat < 128 := by
  have hlt : checkBits (bitsOf data) < 2 ^ 7 := checkBits_lt (by rw [bitsOf_length]; omega)
  rw [BitVec.toNat_ofNat]
  omega

theorem checkByte_low (h : data.length ≤ 15) : (checkByte data &&& 0x7F).toNat = checkBits (bitsOf data) := by
  obtain ⟨heq, hlt⟩ := checkBits_toNat h
  unfold checkByte
  dsimp only
  split
  · rw [or_top_and_low hlt, heq]
  · rw [and_low hlt, heq]

theorem checkByte_parity (h : data.length ≤ 15) :
    xor (parityOf (bitsOf data)) (parityOf (bitsOf [checkByte data])) = false := by
  obtain ⟨-, hlt⟩ := checkBits_toNat h
  unfold checkByte
  dsimp only
  split
  case isTrue hodd => rw [parityOf_or_top hlt, Bool.xor_not, hodd]; rfl
  case isFalse heven => exact Bool.eq_false_iff.2 heven

/-! ## The test -/

theorem testCheck_clean (hs : (check &&& 0x7F).toNat = checkBits (bitsOf data))
    (hp : xor (parityOf (bitsOf data)) (parityOf (bitsOf [check])) = false) : testCheck data check = .clean data := by
  simp only [testCheck, hp, hs, Nat.xor_self, if_true, Bool.false_eq_true, if_false]

/-- An odd parity and a data bit's position as the syndrome: that bit is turned back. -/
theorem testCheck_position (h : (dataPositions (bitsOf data).length)[j]? = some p)
    (hs : (check &&& 0x7F).toNat ^^^ checkBits (bitsOf data) = p)
    (hp : xor (parityOf (bitsOf data)) (parityOf (bitsOf [check])) = true) :
    testCheck data check = .corrected (flipBit j data) := by
  obtain ⟨-, hzero, hpower⟩ := mem_dataPositions (List.mem_of_getElem? h)
  have hdata : ¬ (p = 0 ∨ [1, 2, 4, 8, 16, 32, 64].contains p = true) := by
    rw [hpower]
    exact not_or.2 ⟨hzero, Bool.false_ne_true⟩
  simp only [testCheck, hs, hp, if_true, if_neg hdata, findIdx?_dataPositions h]

theorem testCheck_checkByte (h : data.length ≤ 15) : testCheck data (checkByte data) = .clean data :=
  testCheck_clean (checkByte_low h) (checkByte_parity h)

/-- One wrong bit among the ten data bytes of an entry is corrected. -/
theorem testCheck_flipBit (h : data.length = 10) (hj : j < 80) :
    testCheck (flipBit j data) (checkByte data) = .corrected data := by
  have hbits : (bitsOf data).length = 80 := by rw [bitsOf_length, h]
  have hj' : j < (bitsOf data).length := by rwa [hbits]
  obtain ⟨p, hp⟩ : ∃ p, (dataPositions (bitsOf data).length)[j]? = some p :=
    ⟨_, List.getElem?_eq_getElem (by rwa [hbits, dataPositions_entry_length])⟩
  have hsyndrome : (checkByte data &&& 0x7F).toNat ^^^ checkBits (bitsOf (flipBit j data)) = p := by
    rw [bitsOf_flipBit, checkBits_turned hp hj', checkByte_low (by omega), ← Nat.xor_assoc, Nat.xor_self, Nat.zero_xor]
  have hparity : xor (parityOf (bitsOf (flipBit j data))) (parityOf (bitsOf [checkByte data])) = true := by
    rw [bitsOf_flipBit, parityOf_turned hj', Bool.not_xor, checkByte_parity (by omega)]
    rfl
  have hposition : (dataPositions (bitsOf (flipBit j data)).length)[j]? = some p := by
    rwa [bitsOf_flipBit, List.length_modify]
  rw [testCheck_position hposition hsyndrome hparity, flipBit_flipBit]

end Sys2Proof.Machine
end

section
/-! SUPPORT. An entry's field id and value read back from its bytes (R190, R191), and the statement. -/

namespace Sys2Proof.Machine

theorem kindOf_kindCode (k : Kind) : kindOf (kindCode k) = some k := by cases k <;> rfl

theorem kindCode_lt (k : Kind) : kindCode k < 12 := by cases k <;> decide

theorem fieldCode_lt {f : FieldId} (hi : f.inst < 64) (hn : f.num < 32) : fieldCode f < 32768 := by
  have := kindCode_lt f.kind
  unfold fieldCode
  omega

/-- Each field keeps its own bits of the code (R190). -/
theorem fieldOf_fieldCode {f : FieldId} (hi : f.inst < 64) (hn : f.num < 32) : fieldOf (fieldCode f) = some f := by
  have hkind : fieldCode f / 2048 = kindCode f.kind := by unfold fieldCode; omega
  have hinst : fieldCode f / 32 % 64 = f.inst := by unfold fieldCode; omega
  have hnum : fieldCode f % 32 = f.num := by unfold fieldCode; omega
  rw [fieldOf, if_pos (fieldCode_lt hi hn), hkind, hinst, hnum, kindOf_kindCode]
  rfl

/-- A signed 64-bit value's eight bytes spell it (11, opening). -/
theorem signed64_beNat_beBytes {v : Int} (hlo : -9223372036854775808 ≤ v) (hhi : v ≤ 9223372036854775807) :
    signed64 (beNat (beBytes 8 v)) = v := by
  have hpos : 0 ≤ v % 256 ^ 8 := Int.emod_nonneg v (by decide)
  have hlt : v % 256 ^ 8 < 256 ^ 8 := Int.emod_lt_of_pos v (by decide)
  have hbytes : beBytes 8 v = beBytes 8 ((v % 256 ^ 8).toNat : Int) := by
    rw [Int.toNat_of_nonneg hpos, ← beBytes_add_mul 8 (v / 256 ^ 8) (v % 256 ^ 8), Int.ediv_mul_add_emod]
  rw [hbytes, beNat_beBytes (by omega), signed64, BitVec.toInt_ofNat', Int.toNat_of_nonneg hpos]
  rw [Int.bmod_def]
  omega

theorem entryBytes_take (e : Nat × Int) : (entryBytes e).take 10 = beBytes 2 e.1 ++ beBytes 8 e.2 := by
  exact List.take_left' (by simp)

theorem entryBytes_check (e : Nat × Int) : (entryBytes e).getD 10 0 = checkByte ((entryBytes e).take 10) := by
  rw [entryBytes_take]
  simp [entryBytes]

end Sys2Proof.Machine

open Sys2Proof Sys2Proof.Machine

/-- Settles O55: a turned data bit shows as odd parity with its own position as the syndrome; an entry's code and value are
its first two bytes and the eight after them. -/
theorem checkCorrectsOneBit : Obligations.CheckCorrectsOneBit := by
  refine ⟨fun data h => ⟨testCheck_checkByte (by omega), fun j hj => testCheck_flipBit h hj⟩, fun f v hi hn hlo hhi => ?_⟩
  refine ⟨(entryBytes (fieldCode f, v)).take 10, entryBytes_length _, ?_, ?_, ?_⟩
  · rw [entryBytes_check]
    exact testCheck_checkByte (by simp)
  · rw [entryBytes_take, List.take_left' (beBytes_length 2 _), beNat_beBytes (by have := fieldCode_lt hi hn; omega),
      fieldOf_fieldCode hi hn]
  · rw [entryBytes_take, List.drop_left' (beBytes_length 2 _), signed64_beNat_beBytes hlo hhi]
end

section
/-! SUPPORT. What a step does by the queue it finds, and the statement. -/

namespace Sys2Proof.Machine

/-- The command at the front runs on the state whose queue is the rest. -/
theorem step_of_pending_cons {c : Instr} {rest : List Instr} {s : State} (h : s.pending = c :: rest) :
    step s = exec c { s with pending := rest } := by
  rw [step, h]

/-- With no command the part idles (log 1). -/
theorem step_of_pending_nil {s : State} (h : s.pending = []) : step s = .next s := by
  rw [step, h]

end Sys2Proof.Machine

open Sys2Proof Sys2Proof.Machine

/-- Settles O1: a queue has a front command or is empty, and each of the two has its equation. -/
theorem stepRunsFrontCommand : Obligations.StepRunsFrontCommand :=
  ⟨fun _ _ _ h => step_of_pending_cons h, fun _ h => step_of_pending_nil h⟩

end

section
/-! SUPPORT. The record table (R1 to R3), the groups (R16) and the bound of the launch queue (R20) under the operations
of the store: what a step may do to them leaves both invariants. -/

namespace Sys2Proof.Machine

variable {s t u : State} {k : Kind} {i : Nat}

/-! ## The relation -/

/-- The second state meets whichever of the two invariants the first one meets. -/
structure State.Keeps (s t : State) : Prop where
  table : s.tableKept = true → t.tableKept = true
  queue : s.queueKept = true → t.queueKept = true

theorem queueKept_iff : s.queueKept = true ↔ s.store.groups.length = 4 ∧ s.store.queue.length ≤ 16 := by
  simp [State.queueKept]

theorem keeps_refl : s.Keeps s := ⟨id, id⟩

theorem State.Keeps.trans (h : s.Keeps t) (h' : t.Keeps u) : s.Keeps u := ⟨h'.table ∘ h.table, h'.queue ∘ h.queue⟩

/-- The invariants speak of the store alone. -/
theorem keeps_of_store (h : t.store = s.store) : s.Keeps t := by
  constructor <;> intro hs
  · rwa [State.tableKept, h]
  · rwa [State.queueKept, h]

/-- What another state with the same store is kept by. -/
theorem State.Keeps.of_store (h : s.Keeps u) (ht : t.store = u.store) : s.Keeps t := h.trans (keeps_of_store ht)

/-- What starts from another state with the same store. -/
theorem State.Keeps.from_store (h : u.Keeps t) (hu : u.store = s.store) : s.Keeps t := (keeps_of_store hu).trans h

theorem keeps_foldl {α : Type} {g : State → α → State} (h : ∀ s x, State.Keeps s (g s x)) (l : List α) :
    s.Keeps (l.foldl g s) := by
  induction l generalizing s with
  | nil => exact keeps_refl
  | cons x l ih => exact (h s x).trans ih

theorem keeps_forChannels {g : Nat → State → State} (h : ∀ c s, State.Keeps s (g c s)) : s.Keeps (forChannels g s) :=
  keeps_foldl (fun s c => h c s) _

theorem keeps_foldIf {b : Bool} {g : State → State} (h : s.Keeps (g s)) : s.Keeps (foldIf b g s) := by
  cases b
  · exact keeps_refl
  · exact h

theorem keeps_ite {p : Prop} [Decidable p] (ht : s.Keeps t) (hu : s.Keeps u) : s.Keeps (if p then t else u) := by
  split <;> assumption

/-! ## Updates -/

theorem queueKept_setTable {l : List Rec} : ({ s with store := s.store.setTable k l } : State).queueKept = s.queueKept := by
  simp [State.queueKept]

/-- A change of one record that keeps its shape (R1, R3). -/
theorem keeps_modRec {g : Rec → Rec} (hg : ∀ r, recKept k r = true → recKept k (g r) = true) : s.Keeps (modRec k i g s) := by
  refine ⟨fun hs => tableKept_iff.2 fun k' => ?_, fun hs => queueKept_setTable.trans hs⟩
  obtain ⟨hlen, hrec⟩ := tableKept_iff.1 hs k'
  by_cases hk : k' = k
  · subst hk
    simp only [modRec_store, table_setTable, List.length_modify]
    exact ⟨hlen, forall_mem_modify hrec hg i⟩
  · simp only [modRec_store, table_setTable_other _ _ hk]
    exact ⟨hlen, hrec⟩

theorem keeps_setVal (f : FieldId) (v : Int) : s.Keeps (setVal f v s) :=
  keeps_modRec fun r hr => by simpa [recKept] using hr

theorem keeps_setText (i : Nat) (x : List Byte) : s.Keeps (setText i x s) := keeps_modRec fun _ hr => hr

theorem table_withLedger {st : Store} {gs : List Group} {q : List Change} {n : Nat} (k : Kind) :
    ({ st with groups := gs, queue := q, dropped := n } : Store).table k = st.table k := by cases k <;> rfl

/-- The same tables, as many groups, and no more changes than the queue holds (R16, R20). -/
theorem keeps_ledger {gs : List Group} {q : List Change} {n : Nat} (hg : gs.length = s.store.groups.length)
    (hq : s.store.queue.length ≤ 16 → q.length ≤ 16)
    (ht : t.store = { s.store with groups := gs, queue := q, dropped := n }) : s.Keeps t := by
  constructor <;> intro hs
  · refine tableKept_iff.2 fun k => ?_
    rw [ht, table_withLedger]
    exact tableKept_iff.1 hs k
  · obtain ⟨hgroups, hqueue⟩ := queueKept_iff.1 hs
    exact queueKept_iff.2 (by rw [ht]; exact ⟨hg.trans hgroups, hq hqueue⟩)

theorem keeps_setGroup (g : Nat) (x : Group) : s.Keeps (setGroup g x s) :=
  keeps_ledger (List.length_set ..) id rfl

theorem keeps_setQueue {q : List Change} (h : s.store.queue.length ≤ 16 → q.length ≤ 16) : s.Keeps (setQueue q s) :=
  keeps_ledger rfl h rfl

/-- A change put at the tail of a queue with room (R20). -/
theorem keeps_enqueue {c : Change} (h : s.store.queue.length < 16) : s.Keeps (setQueue (s.store.queue ++ [c]) s) :=
  keeps_setQueue fun _ => by simpa using h

theorem keeps_raiseIf (b : Bool) (n : Source) : s.Keeps (raiseIf b n s) := by cases b <;> exact keeps_of_store rfl

theorem keeps_emptyOrigin (o : Origin) : s.Keeps (emptyOrigin o s) := by
  unfold emptyOrigin
  split
  · exact keeps_setGroup ..
  · exact keeps_setGroup ..
  · exact keeps_refl

theorem setCarry_store (c : Nat) (v : Int) : (setCarry c v s).store = s.store := by
  unfold setCarry; split <;> rfl

theorem keeps_setCarry (c : Nat) (v : Int) : s.Keeps (setCarry c v s) := keeps_of_store (setCarry_store c v)

/-! ## What the owners do with a change (R26) -/

theorem feUpdate_store (ch : Nat) : (feUpdate ch s).store = s.store := by
  unfold feUpdate; dsimp only; split <;> rfl

theorem feStart_store : (feStart s).store = s.store := by rw [feStart_eq]

theorem keeps_rescale (w : List FieldId) (ch : Nat) : s.Keeps (rescale w ch s) := keeps_foldIf (keeps_setVal ..)

theorem keeps_levelRecompute : s.Keeps (levelRecompute s) :=
  (keeps_setVal ..).trans ((keeps_setVal ..).trans (keeps_raiseIf ..))

theorem keeps_trackingOff : s.Keeps (trackingOff s) := (keeps_setVal Fld.trAlHolding 0).of_store rfl

theorem keeps_autoLevelAfter (b : State) (e : Bool) : s.Keeps (autoLevelAfter b e s) := by
  unfold autoLevelAfter
  dsimp only
  split
  · exact (keeps_raiseIf ..).trans ((keeps_setVal ..).trans keeps_trackingOff)
  · exact keeps_ite keeps_trackingOff (keeps_ite (keeps_of_store rfl) keeps_refl)

theorem disarmIfChanged_store (b : State) : (disarmIfChanged b s).store = s.store := by
  unfold disarmIfChanged; split <;> rfl

theorem keeps_clearStats (i : Nat) : s.Keeps (clearStats i s) :=
  State.Keeps.of_store (u := setVals ((clearedFields i).map (·, 0)) s) (keeps_foldl (fun _ _ => keeps_setVal ..) _) rfl

theorem keeps_clearAllStats : s.Keeps (clearAllStats s) :=
  (keeps_foldl (fun _ _ => keeps_clearStats _) (s.liveOf .measurement)).of_store rfl

theorem keeps_definitionChange (i : Nat) : s.Keeps (definitionChange i s) :=
  (((keeps_clearStats i).trans (keeps_setVal (Fld.meOutcome i) 0)).trans
    (keeps_setVal (Fld.meStatus i) (mstatusCode .notYet))).of_store rfl

theorem sweepModeWritten_store (b : State) : (sweepModeWritten b s).store = s.store := by
  unfold sweepModeWritten
  repeat' split
  all_goals rfl

/-- What the owners do with a change keeps the store's shape. -/
theorem keeps_consequences (b : State) (w : List FieldId) (es : List Entry) (g : List Nat) :
    s.Keeps (consequences b w es g s) := by
  unfold consequences
  refine State.Keeps.trans ?_ (keeps_foldIf (keeps_of_store (sweepModeWritten_store b)))
  refine State.Keeps.trans ?_ (keeps_foldl (fun _ _ => keeps_foldIf (keeps_definitionChange _)) _)
  refine State.Keeps.trans ?_ (keeps_of_store (disarmIfChanged_store b))
  refine State.Keeps.trans ?_ (keeps_autoLevelAfter ..)
  refine State.Keeps.trans ?_ (keeps_foldIf keeps_levelRecompute)
  refine State.Keeps.trans ?_ (keeps_foldIf keeps_clearAllStats)
  refine State.Keeps.trans ?_ (keeps_forChannels fun _ _ => keeps_foldIf (keeps_of_store rfl))
  refine State.Keeps.trans ?_ (keeps_of_store feStart_store)
  refine State.Keeps.trans ?_ (keeps_forChannels fun _ _ => keeps_foldIf (keeps_of_store (feUpdate_store _)))
  exact (keeps_forChannels fun _ _ => keeps_rescale ..).trans (keeps_foldIf (keeps_setVal ..))

/-! ## Records made and retired (R12 to R15) -/

theorem defaultVals_length (k : Kind) (i : Nat) : (defaultVals k i).length = (specsOf k).length := by
  cases k <;> try rfl
  case palette =>
    change (paletteDefault i).length = 3
    unfold paletteDefault
    split
    · rfl
    · have hi : i < 16 := by omega
      interval_cases i <;> rfl

theorem keeps_createRec (k : Kind) (i : Nat) : s.Keeps (createRec k i s) := by
  have hmade : s.Keeps (modRec k i (fun r => { live := true, gen := r.gen, vals := defaultVals k i, text := [] }) s) := by
    refine keeps_modRec fun r hr => ?_
    simp only [recKept, defaultVals_length, beq_self_eq_true, Bool.true_and, Bool.and_eq_true, Bool.or_eq_true] at hr ⊢
    exact hr.2.imp id And.right
  unfold createRec
  dsimp only
  split
  · exact hmade.of_store rfl
  · exact hmade

theorem keeps_freeRec (hk : kindCreated k = true) (i : Nat) : s.Keeps (freeRec k i s) :=
  keeps_modRec fun r _ => by simp [recKept, defaultVals_length, hk]

theorem keeps_removeEntries (k : Kind) (i : Nat) : s.Keeps (removeEntries k i s) := by
  unfold removeEntries
  dsimp only
  refine State.Keeps.trans ?_ (keeps_foldIf (keeps_of_store rfl))
  refine State.Keeps.trans ?_ (keeps_foldl (fun _ _ => keeps_emptyOrigin _) _)
  refine keeps_ledger ?_ (fun hq => ?_) rfl
  · rw [List.length_map]
  · exact (List.length_filter_le ..).trans ((List.length_map _).trans_le hq)

theorem keeps_voidBinds (h : Int) (o : Nat) : s.Keeps (voidBinds h o s) := by
  unfold voidBinds
  exact ((keeps_foldIf (keeps_setVal ..)).trans (keeps_foldIf (keeps_setVal ..))).trans (keeps_raiseIf ..)

theorem keeps_dropBinding (k : Kind) (i b : Nat) : s.Keeps (dropBinding k i b s) := by
  unfold dropBinding
  refine keeps_ite ?_ keeps_refl
  exact (((keeps_setVal ..).trans (keeps_setVal ..)).trans (keeps_setCarry ..)).of_store rfl

theorem keeps_dropLamp (k : Kind) (i l : Nat) : s.Keeps (dropLamp k i l s) := by
  unfold dropLamp
  refine keeps_ite ?_ keeps_refl
  exact ((keeps_setVal ..).trans (keeps_foldIf (keeps_setVal ..))).of_store rfl

theorem keeps_dropGate (h : Int) (m : Nat) : s.Keeps (dropGate h m s) := by
  unfold dropGate
  dsimp only
  refine keeps_ite ?_ keeps_refl
  refine State.Keeps.trans ?_ (keeps_definitionChange m)
  exact ((keeps_foldIf (keeps_setVal ..)).trans (keeps_foldIf (keeps_setVal ..))).trans (keeps_foldIf (keeps_setVal ..))

/-- Only a record of a created kind is retired, and its place in the table stays (R13 to R15). -/
theorem keeps_retireRec (hk : kindCreated k = true) (i : Nat) : s.Keeps (retireRec k i s) := by
  unfold retireRec
  dsimp only
  have hpass (p : Prop) [Decidable p] (u : State) : u.Keeps (if p then dropMeasurement i u else u) :=
    keeps_ite (keeps_of_store rfl) keeps_refl
  refine State.Keeps.trans ?_ (hpass _ _)
  have hgate (p : Prop) [Decidable p] (l : List Nat) (h : Int) (u : State) :
      u.Keeps (if p then l.foldl (fun s m => dropGate h m s) u else u) :=
    keeps_ite (keeps_foldl (fun _ _ => keeps_dropGate ..) _) keeps_refl
  refine State.Keeps.trans ?_ (hgate ..)
  refine State.Keeps.trans ?_ (keeps_foldl (fun _ _ => keeps_dropLamp ..) _)
  refine State.Keeps.trans ?_ (keeps_foldl (fun _ _ => keeps_dropBinding ..) _)
  refine State.Keeps.trans ?_ (keeps_foldl (fun _ _ => keeps_voidBinds ..) _)
  exact (keeps_freeRec hk i).trans (keeps_removeEntries ..)

/-! ## Changes applied (R23 to R26) -/

theorem keeps_applyEntry (r : Bool) (acc : State × List FieldId) (e : Entry) : acc.1.Keeps (applyEntry r acc e).1 := by
  unfold applyEntry
  split
  · exact keeps_setText ..
  · split
    · exact keeps_setVal ..
    · exact keeps_ledger rfl id rfl

theorem keeps_applyEntries (r : Bool) (es : List Entry) (acc : State × List FieldId) :
    acc.1.Keeps (es.foldl (applyEntry r) acc).1 := by
  induction es generalizing acc with
  | nil => exact keeps_refl
  | cons e es ih => exact (keeps_applyEntry r acc e).trans (ih _)

theorem keeps_reclampMeasurement (i : Nat) : s.Keeps (reclampMeasurement i s) :=
  (keeps_setVal ..).trans (keeps_ite (keeps_setVal ..) keeps_refl)

theorem keeps_readoutAgree (o : Nat) : s.Keeps (readoutAgree o s) := by
  unfold readoutAgree
  refine keeps_ite ?_ keeps_refl
  exact ((keeps_foldIf (keeps_setVal ..)).trans (keeps_foldIf (keeps_setVal ..))).trans (keeps_raiseIf ..)

theorem keeps_reclamps (es : List Entry) (w : List FieldId) : s.Keeps (reclamps es w s) := by
  unfold reclamps
  refine State.Keeps.trans ?_ (keeps_foldl (fun _ _ => keeps_foldIf (keeps_readoutAgree _)) _)
  refine State.Keeps.trans ?_ (keeps_foldl (fun _ _ => keeps_foldIf (keeps_reclampMeasurement _)) _)
  refine State.Keeps.trans ?_ (keeps_foldl (fun _ _ => keeps_foldIf (keeps_setVal ..)) _)
  exact (keeps_forChannels fun _ _ => keeps_foldIf (keeps_setVal ..)).trans (keeps_foldIf (keeps_setVal ..))

/-- A recall retires and makes again cursors and measurements, which are created kinds (R173). -/
theorem keeps_recallRecords (es : List Entry) : s.Keeps (recallRecords es s) := by
  unfold recallRecords
  refine State.Keeps.trans ?_ (keeps_foldl (fun _ _ => keeps_foldIf (keeps_createRec ..)) _)
  refine State.Keeps.trans ?_ (keeps_foldl (fun _ _ => keeps_foldIf (keeps_createRec ..)) _)
  exact (keeps_foldl (fun _ _ => keeps_retireRec rfl _) _).trans (keeps_foldl (fun _ _ => keeps_retireRec rfl _) _)

theorem keeps_applyChange (c : Change) : s.Keeps (applyChange c s) := by
  unfold applyChange
  dsimp only
  refine State.Keeps.of_store (u := emptyOrigin c.origin _) ?_ rfl
  refine State.Keeps.trans ?_ (keeps_emptyOrigin _)
  refine State.Keeps.trans ?_ (keeps_consequences ..)
  refine State.Keeps.trans ?_ (keeps_reclamps ..)
  exact (keeps_ite (keeps_recallRecords _) keeps_refl).trans (keeps_applyEntries _ _ (_, []))

/-- The change picked leaves a queue that is no longer (R23). -/
theorem pickReady_length {earlier : List FieldId} {q rest : List Change} {c : Change} (h : pickReady earlier q = some (c, rest)) :
    q.length = rest.length + 1 := by
  induction q generalizing earlier rest with
  | nil => cases h
  | cons d q ih =>
    unfold pickReady at h
    split at h
    · cases h; rfl
    · obtain ⟨⟨x, l⟩, hx, heq⟩ := Option.map_eq_some_iff.1 h
      cases heq
      rw [List.length_cons, List.length_cons, ih hx]

theorem keeps_drain (n : Nat) : s.Keeps (drain n s) := by
  induction n generalizing s with
  | zero => exact keeps_refl
  | succ n ih =>
    unfold drain
    split
    · exact keeps_refl
    · next c rest h =>
      have hlen := pickReady_length h
      exact ((keeps_setQueue (by omega)).trans (keeps_applyChange c)).trans ih

theorem keeps_examine : s.Keeps (examine s) := keeps_drain _

theorem keeps_releaseAll : s.Keeps (releaseAll s) := keeps_setQueue fun h => (List.length_map _).trans_le h

theorem keeps_flush : s.Keeps (examine (releaseAll s)) := keeps_releaseAll.trans keeps_examine

/-! ## The sweep controller -/

theorem captureStart_store : (captureStart s).store = s.store := by rw [captureStart_eq]

theorem settleOrArm_store : (settleOrArm s).store = s.store := by
  unfold settleOrArm
  split
  · rfl
  · exact captureStart_store

theorem abandon_store : (abandon s).store = s.store := by
  unfold abandon; split <;> rfl

theorem restartNext_store (a : Acq) : (restartNext a s).store = s.store := by
  unfold restartNext
  split
  · rfl
  · rfl
  · exact settleOrArm_store

theorem keeps_restartEvent : s.Keeps (restartEvent s) := by
  unfold restartEvent
  refine State.Keeps.of_store (u := examine (releaseAll (restartAbandon s))) ?_ (restartNext_store _)
  have habandon : s.Keeps (restartAbandon s) :=
    ((keeps_of_store abandon_store).trans (keeps_setVal Fld.tbAvgDepth 0)).of_store rfl
  exact habandon.trans keeps_flush

/-- A change joins a queue with room (R20, R22, R23). -/
theorem keeps_joinQueue {o : Origin} {es : List Entry} (h : s.store.queue.length < 16) : s.Keeps (joinQueue o es s) := by
  unfold joinQueue
  dsimp only
  split
  · exact (keeps_enqueue h).trans keeps_restartEvent
  · exact (keeps_enqueue h).trans keeps_examine
  · exact (keeps_enqueue h).trans keeps_examine

theorem takeRun_store : (takeRun s).store = s.store := by
  unfold takeRun
  split
  · exact settleOrArm_store
  · rfl

theorem keeps_takeStop : s.Keeps (takeStop s) := by
  rw [takeStop_halted]
  refine State.Keeps.of_store (u := if s.sweep.acq.capture then examine (releaseAll (setAcq .stopped (abandon s))) else s) ?_ rfl
  exact keeps_ite ((keeps_of_store (t := setAcq .stopped (abandon s)) abandon_store).trans keeps_flush) keeps_refl

theorem keeps_takeSingle : s.Keeps (takeSingle s) := by
  obtain h | h | h := acq_cases s.sweep.acq
  · rw [takeSingle_stopped h]
    exact keeps_of_store settleOrArm_store
  · rw [takeSingle_capture h, abandonAndFlush_capture h]
    exact ((keeps_of_store abandon_store).trans keeps_flush).of_store settleOrArm_store
  · rw [takeSingle_waits h]
    exact keeps_of_store rfl

theorem takeForce_store (h : takeForce s = some t) : t.store = s.store := by
  unfold takeForce at h
  split at h <;> cases h <;> rfl

theorem keeps_takeForce : s.Keeps ((takeForce s).getD s) := by
  cases h : takeForce s with
  | none => exact keeps_refl
  | some t => exact keeps_of_store (takeForce_store h)

theorem keeps_takeRunStop : s.Keeps (takeRunStop s) := keeps_ite (keeps_of_store takeRun_store) keeps_takeStop

/-! ## The sweep end (R77) -/

theorem keeps_movedTo (code : Int) : s.Keeps (s.movedTo code) := by
  unfold State.movedTo
  exact (((keeps_setVal ..).trans (keeps_setVal ..)).trans (keeps_setVal Fld.trLevelClipped 0)).of_store rfl

theorem keeps_trackStep (h : Header) : s.Keeps (trackStep h s) := by
  by_cases hv : h.validCount = 0
  · rw [trackStep, if_pos hv]
    exact keeps_refl
  · rw [trackStep_eq hv]
    refine keeps_ite (keeps_setVal ..) (keeps_ite (keeps_setVal ..) ?_)
    exact (keeps_setVal Fld.trAlHolding 0).trans (keeps_movedTo _)

theorem keeps_track : s.Keeps (track s) := by
  unfold track
  refine keeps_ite ?_ keeps_refl
  dsimp only
  refine keeps_ite (keeps_of_store rfl) ?_
  split
  · refine State.Keeps.trans ?_ (keeps_trackStep _)
    exact keeps_of_store rfl
  · exact keeps_of_store rfl

theorem keeps_showChannel (no depth ch : Nat) : s.Keeps (showChannel no depth ch s) := by
  unfold showChannel
  split
  · exact keeps_refl
  · refine State.Keeps.trans ?_ (keeps_setVal ..)
    exact keeps_of_store rfl

theorem keeps_combSweepEnd : s.Keeps (combSweepEnd s) := by
  unfold combSweepEnd
  have hshow : s.Keeps (forChannels (showChannel s.nextSweepNo s.endDepth) s) :=
    keeps_forChannels fun _ _ => keeps_showChannel ..
  exact keeps_ite (hshow.trans (keeps_setVal ..)) hshow

theorem keeps_sweepCounts : s.Keeps (sweepCounts s) :=
  ((keeps_setVal Fld.tbSweepCount s.nextSweepNo).trans
    (keeps_setVal Fld.trLastKind (trigKindCode s.sweep.trigKind))).of_store rfl

theorem sweepNext_store : (sweepNext s).store = s.store := by
  unfold sweepNext
  split
  · rfl
  · split
    · rfl
    · exact captureStart_store

theorem measSweepEnd_store : (measSweepEnd s).store = s.store := (measSweepEnd_kept (s := s) 0).1

theorem keeps_sweepEnd : s.Keeps (sweepEnd s) := by
  unfold sweepEnd
  refine State.Keeps.of_store (u := track (examine (releaseAll (sweepCounts (combSweepEnd s))))) ?_
    (measSweepEnd_store.trans sweepNext_store)
  exact ((keeps_combSweepEnd.trans keeps_sweepCounts).trans keeps_flush).trans keeps_track

theorem enterWaiting_store : (enterWaiting s).store = s.store := by
  unfold enterWaiting; split <;> rfl

theorem keeps_columnComplete : s.Keeps (columnComplete s) := by
  have hcol (n : Nat) : s.Keeps { combComplete s with sweep := { (combComplete s).sweep with colCount := n } } :=
    keeps_of_store rfl
  unfold columnComplete
  dsimp only
  split
  · exact keeps_ite ((hcol _).trans (keeps_of_store enterWaiting_store)) (hcol _)
  · exact keeps_ite ((hcol _).trans keeps_sweepEnd) (hcol _)
  · exact keeps_of_store rfl

/-! ## Writes and panel adjustments (R10, R11, R21) -/

theorem foldIf_store {b : Bool} {g : State → State} (h : (g s).store = s.store) : (foldIf b g s).store = s.store := by
  cases b
  · rfl
  · exact h

theorem lockCarries_store : (lockCarries s).store = s.store :=
  foldl_keeps State.store _ (fun _ _ => foldIf_store (setCarry_store ..)) _ s

theorem configWrite_store (f : FieldId) (v : Int) : (configWrite f v s).store = (setVal f v s).store := by
  unfold configWrite
  dsimp only
  split
  · exact setCarry_store ..
  · exact foldIf_store lockCarries_store
  · rfl

theorem keeps_configWrite (f : FieldId) (v : Int) : s.Keeps (configWrite f v s) :=
  (keeps_setVal f v).of_store (configWrite_store f v)

theorem keeps_storeWrite {p : WritePath} {f : FieldId} {v : Val} (h : storeWrite p f v s = .ok t) : s.Keeps t := by
  unfold storeWrite at h
  split at h
  · split at h <;> cases h
    · exact keeps_configWrite ..
    · exact keeps_setText ..
  · dsimp only at h
    split at h
    · cases h; exact keeps_setGroup ..
    · split at h <;> cases h; exact keeps_setGroup ..
  · split at h
    · cases h
    · next hq => split at h <;> cases h; exact keeps_joinQueue (by omega)

theorem coalesce_length (f : FieldId) (v : Val) (q : List Change) : (coalesce f v q).length = q.length := by
  induction q with
  | nil => rfl
  | cons c q ih =>
    unfold coalesce
    split
    · simp [ih]
    · rfl

theorem keeps_panelAdjust {f : FieldId} {v : Int} (h : panelAdjust f v s = some t) : s.Keeps t := by
  have hjoin (h : (if s.store.queue.length < 16 ∧ 0 < s.poolFree then some (joinQueue .panel [{ id := f, val := .int v }] s)
      else none) = some t) : s.Keeps t := by
    split at h <;> cases h
    exact keeps_joinQueue (by omega)
  unfold panelAdjust at h
  split at h
  · split at h
    · cases h
      exact keeps_setQueue fun hq => (coalesce_length ..).trans_le hq
    · exact hjoin h
  · exact hjoin h

theorem keeps_submit {f : FieldId} {sp : FieldSpec} {v : Int} (h : submit f sp v s = some t) : s.Keeps t := by
  unfold submit at h
  split at h
  · split at h <;> cases h
    exact keeps_configWrite ..
  · exact keeps_panelAdjust h

end Sys2Proof.Machine
end

section
/-! SUPPORT. Every command keeps the record table (R1 to R3), the four groups (R16) and the bound of the launch queue
(R20). -/

namespace Sys2Proof.Machine

variable {s t u : State}

/-! ## The panel (R113 to R126) -/

theorem keeps_stepTarget {c : Nat} {toggle : Bool} {d : Int} (h : stepTarget c toggle d s = some t) : s.Keeps t := by
  unfold stepTarget at h
  split at h
  · obtain ⟨x, hx, rfl⟩ := Option.map_eq_some_iff.1 h
    exact (keeps_submit hx).of_store rfl
  · cases h

/-- A TOGGLE or CYCLE, or what happens where it is refused. -/
theorem keeps_stepTarget_getD {c : Nat} {toggle : Bool} {d : Int} (hu : s.Keeps u) :
    s.Keeps ((stepTarget c toggle d s).getD u) := by
  cases h : stepTarget c toggle d s with
  | none => exact hu
  | some t => exact keeps_stepTarget h

theorem keeps_level50 : s.Keeps (level50 s) := by
  unfold level50
  split
  · exact keeps_refl
  · split
    · exact keeps_refl
    · dsimp only
      split
      · next h => exact (keeps_panelAdjust h).of_store rfl
      · exact keeps_refl

theorem keeps_panelAction (a : Int) : s.Keeps (panelAction a s) := by
  unfold panelAction
  exact keeps_ite keeps_takeRunStop (keeps_ite keeps_takeSingle (keeps_ite keeps_takeForce
    (keeps_ite keeps_level50 (keeps_ite keeps_clearAllStats (keeps_setVal ..)))))

theorem keeps_press (k : Nat) : s.Keeps (press k s) := by
  have hnotify : s.Keeps (notifyPress k s) := keeps_of_store rfl
  unfold press
  exact keeps_ite hnotify (keeps_ite (keeps_stepTarget_getD hnotify) (keeps_ite (keeps_stepTarget_getD hnotify)
    (keeps_ite (keeps_panelAction _) keeps_refl)))

theorem keeps_scanKey (raw : Bool) (k : Nat) : s.Keeps (scanKey raw k s) := by
  have hscan (g : Key → Key) : s.Keeps (modKey k g s) := keeps_of_store rfl
  exact keeps_ite ((hscan _).trans (keeps_press k)) (hscan _)

theorem keeps_adjust (e : Nat) (steps : Int) : s.Keeps (adjust e steps s) := by
  unfold adjust
  dsimp only
  split
  · split
    · refine keeps_ite (keeps_setCarry ..) ?_
      split
      · next h => exact ((keeps_submit h).trans (keeps_setCarry ..)).of_store rfl
      · exact keeps_setCarry ..
    · exact keeps_refl
  · exact keeps_refl

theorem keeps_detent (e : Nat) (sg : Int) : s.Keeps (detent e sg s) := by
  have hbegun (g : Enc → Enc) : s.Keeps (modEnc e g s) := keeps_of_store rfl
  have hnotify (n : Int) (u : State) : u.Keeps (notifyDetent e n u) := keeps_of_store rfl
  unfold detent
  refine (hbegun fun x => { x with since := some 0 }).trans ?_
  exact keeps_ite (hnotify ..) (keeps_ite (keeps_adjust ..) (keeps_ite (keeps_stepTarget_getD (hnotify ..))
    (keeps_ite (keeps_stepTarget_getD (hnotify ..)) keeps_refl)))

theorem keeps_stepEncoder (pair : Bool × Bool) (e : Nat) : s.Keeps (stepEncoder pair e s) := by
  have hsample (g : Enc → Enc) : s.Keeps (modEnc e g s) := keeps_of_store rfl
  exact keeps_ite (hsample _) ((hsample _).trans (keeps_detent ..))

theorem keeps_retryCarry (e : Nat) : s.Keeps (retryCarry e s) :=
  keeps_ite keeps_refl (keeps_ite (keeps_adjust ..) (keeps_setCarry ..))

/-! ## Sample words and measurements -/

theorem keeps_lockWord (p : Nat) (framed : Bool) : s.Keeps (lockWord p framed s).1 := by
  unfold lockWord
  split
  · split
    · exact keeps_refl
    · exact State.Keeps.of_store (u := setVal (Fld.chLocked p) 0 (setLockCount p 0 s)) ((keeps_setVal ..).from_store rfl) rfl
  · split
    · exact keeps_ite ((keeps_setVal ..).from_store rfl) (keeps_of_store rfl)
    · exact keeps_of_store rfl

theorem compareSample_store (item : Option Sample) : (compareSample item s).store = s.store := by
  unfold compareSample
  split
  · rfl
  · split
    · rfl
    · dsimp only
      split <;> rfl

theorem keeps_closePeriod : s.Keeps (closePeriod s) := by
  rw [closePeriod_eq]
  exact keeps_ite (keeps_columnComplete.from_store rfl) (keeps_of_store rfl)

theorem keeps_takeItem (p : Nat) (item : Option Sample) : s.Keeps (takeItem p item s) := by
  have hgot (cb : Comb) : s.Keeps { s with comb := cb } := keeps_of_store rfl
  exact keeps_ite ((hgot _).trans keeps_closePeriod) (hgot _)

theorem keeps_sampleWord (p : Nat) (framed : Bool) (r : Nat) : s.Keeps (sampleWord p framed r s) := by
  have hcompare (b : Prop) [Decidable b] (item : Option Sample) (u : State) :
      u.Keeps (if b then compareSample item u else u) := keeps_ite (keeps_of_store (compareSample_store item)) keeps_refl
  have hitem (b : Prop) [Decidable b] (item : Option Sample) (u : State) :
      u.Keeps (if b then takeItem p item u else u) := keeps_ite (keeps_takeItem ..) keeps_refl
  have hopen (b : Prop) [Decidable b] : s.Keeps (if b then closePeriod s else s) := keeps_ite keeps_closePeriod keeps_refl
  unfold sampleWord
  exact (((hopen _).trans (keeps_lockWord ..)).trans (hcompare ..)).trans (hitem ..)

theorem keeps_setVals (ws : List (FieldId × Int)) : s.Keeps (setVals ws s) := keeps_foldl (fun _ _ => keeps_setVal ..) ws

theorem keeps_limitTest (i : Nat) (tested : Bool) : s.Keeps (limitTest i tested s).1 := by
  obtain ⟨h, -⟩ | ⟨h, -⟩ := outcome_cases s i tested
  · rw [limitTest_failed h]
    exact (keeps_setVals _).of_store rfl
  · rw [limitTest_passed h]
    exact keeps_setVals _

theorem keeps_statUpdate (i : Nat) (v : Int) : s.Keeps (statUpdate i v s) := by
  obtain h | h := statUpdate_cases i v s
  · rw [h]; exact keeps_refl
  · rw [h]; exact (keeps_setVals _).from_store rfl

theorem keeps_completeMember (ex : Bool) (m : Member) : s.Keeps (completeMember ex m s).1 := by
  by_cases h : s.meas.stamps.getD m.inst 0 = m.stamp
  · rw [completeMember_current h]
    refine State.Keeps.trans ?_ (keeps_limitTest ..)
    obtain h | ⟨v, -, h⟩ := withStats_cases s ex m
    · rw [h]; exact keeps_setVals _
    · rw [h]; exact (keeps_setVals _).trans (keeps_statUpdate ..)
  · rw [completeMember_stale h]
    exact keeps_refl

theorem keeps_completeMembers (ex : Bool) (ms : List Member) (acc : State × Bool) :
    acc.1.Keeps (completeMembers ex ms acc).1 := by
  induction ms generalizing acc with
  | nil => exact keeps_refl
  | cons m ms ih => exact (keeps_completeMember ex m).trans (ih ((completeMember ex m acc.1).1, acc.2 || (completeMember ex m acc.1).2))

theorem keeps_passFinish (p : Pass) (stop : Bool) : s.Keeps (passFinish p stop s) := by
  rw [passFinish_eq]
  refine State.Keeps.of_store (u := if stop then takeStop s else s) (keeps_ite keeps_takeStop keeps_refl) ?_
  exact releaseEach_keeps State.store (fun _ _ => rfl) p.lent _

/-! ## The setup unit (R162 to R178) -/

/-- A state whose store differs in the groups alone, of which it has as many (R16). -/
def State.Regroups (s t : State) : Prop :=
  t.store = { s.store with groups := t.store.groups } ∧ t.store.groups.length = s.store.groups.length

theorem keeps_of_regroups (h : s.Regroups t) : s.Keeps t := keeps_ledger h.2 id h.1

theorem regroups_of_store (h : t.store = s.store) : s.Regroups t := by rw [State.Regroups, h]; exact ⟨rfl, rfl⟩

theorem State.Regroups.trans (h : s.Regroups t) (h' : t.Regroups u) : s.Regroups u :=
  ⟨by rw [h'.1, h.1], h'.2.trans h.2⟩

theorem regroups_setGroup (g : Nat) (x : Group) : s.Regroups (setGroup g x s) := ⟨rfl, List.length_set ..⟩

theorem regroups_beginRecall (n : Nat) : s.Regroups (beginRecall n s) := by
  unfold beginRecall
  dsimp only
  split
  · exact regroups_of_store rfl
  · exact regroups_setGroup (s := beginOp .recall n .readHeader s) ..

theorem regroups_startSetup : s.Regroups (startSetup s) := by
  unfold startSetup
  split
  · exact regroups_beginRecall 0
  · exact regroups_of_store rfl

theorem raiseIf_store (b : Bool) (n : Source) : (raiseIf b n s).store = s.store := by cases b <;> rfl

theorem regroups_startCalDone (r : StartResult) : s.Regroups (startCalDone r s) :=
  State.Regroups.trans (t := s.calDone r) (regroups_of_store (calDone_store r)) regroups_startSetup

theorem regroups_startCalibration : s.Regroups (startCalibration s) := by
  unfold startCalibration
  split
  · exact regroups_beginRecall 15
  · exact regroups_startCalDone .absent

theorem regroups_endRecall (r : SetupResult) : s.Regroups (endRecall r s) := by
  unfold endRecall
  split
  · split
    · exact regroups_startCalDone _
    · exact regroups_of_store rfl
  · exact regroups_of_store rfl

theorem regroups_failHeader : s.Regroups (failHeader s) := by
  rw [failHeader_eq]
  refine State.Regroups.trans ?_ (regroups_endRecall _)
  unfold State.headerBad
  split
  · exact regroups_of_store rfl
  · exact regroups_setGroup 3 Group.reset

/-- Group 3's change joins a queue with room (R172). -/
theorem keeps_launch3 : s.Keeps (launch3 s) := by
  by_cases he : (s.store.group 3).entries = []
  · rw [launch3_empty he]
    exact keeps_of_regroups ((regroups_setGroup 3 Group.reset).trans (regroups_endRecall (s := emptyGroup3 s) _))
  · obtain hq | hq := le_or_gt 16 s.store.queue.length
    · rw [launch3_full he hq]
      exact keeps_of_store rfl
    · have hlaunched : s.Regroups s.launched3 := by
        rw [launched3_eq]
        exact regroups_setGroup 3 _
      have hended := hlaunched.trans (regroups_endRecall (readResult s.setup.counts))
      rw [launch3_launches he hq]
      exact (keeps_of_regroups hended).trans (keeps_joinQueue (by rw [hended.1]; exact hq))

theorem keeps_endReading : s.Keeps (endReading s) := by
  unfold endReading
  refine keeps_ite ?_ keeps_launch3
  exact (keeps_foldl (fun _ _ => keeps_configWrite ..) s.setup.calBuf).trans (keeps_of_regroups (regroups_endRecall _))

theorem regroups_takeEntry (f : FieldId) (v : Int) : s.Regroups (takeEntry f v s) := by
  unfold takeEntry
  dsimp only
  split
  · exact regroups_of_store rfl
  · exact ⟨rfl, List.length_set ..⟩

theorem regroups_standingEntry (data : List Byte) : s.Regroups (standingEntry data s) := by
  unfold standingEntry
  dsimp only
  split
  · exact regroups_of_store rfl
  · have htake (b : Bool) (f : FieldId) (v : Int) (n : Nat) : s.Regroups
        (if b = true then takeEntry f v s else modCounts (fun c => { c with unknown := n }) s) := by
      cases b
      · exact regroups_of_store rfl
      · exact regroups_takeEntry f v
    exact htake ..

theorem regroups_readEntry (flips : Flips) : s.Regroups (readEntry flips s) := by
  have hmod (g : Setup → Setup) (u : State) : u.Regroups (modSetup g u) := regroups_of_store rfl
  unfold readEntry
  dsimp only
  split
  · exact (hmod _ _).trans (regroups_standingEntry _)
  · exact ((hmod _ _).trans (hmod _ _)).trans (regroups_standingEntry _)
  · exact regroups_of_store rfl

theorem regroups_cutTidy : s.Regroups (cutTidy s) := by
  have hgroup (b : Prop) [Decidable b] : s.Regroups (if b then s else emptyGroup3 s) := by
    split
    · exact regroups_of_store rfl
    · exact regroups_setGroup 3 Group.reset
  have hdir (b : Prop) [Decidable b] (d : DirEntry) (x : DirState) :
      s.Regroups (if b then setDirState s.setup.slot x s else setDir s.setup.slot d s) := by
    split <;> exact regroups_of_store rfl
  unfold cutTidy
  split
  · exact regroups_of_store rfl
  · exact regroups_of_store rfl
  · exact regroups_of_store rfl
  · exact regroups_of_store rfl
  · exact hdir ..
  · exact hgroup _
  · exact hgroup _
  · exact hgroup _
  · exact regroups_of_store rfl

theorem regroups_cutOff (r : SetupResult) : s.Regroups (cutOff r s) :=
  have hstop : s.Regroups (stopFlash (firstStepMayBegin s)) := regroups_of_store (firstStepMayBegin_store s)
  (hstop.trans regroups_cutTidy).trans (regroups_of_store rfl)

/-! ## Outcomes and replies -/

/-- Whatever comes next, the invariants of the store are kept. -/
def OutKeeps (s : State) (o : Out) : Prop := ∀ t, o = .next t → s.Keeps t

theorem outKeeps_next (h : s.Keeps t) : OutKeeps s (.next t) := fun _ hu => by cases hu; exact h

theorem outKeeps_awake (h : s.Keeps t) : OutKeeps s (awake s t) := outKeeps_next (keeps_ite keeps_refl h)

theorem outKeeps_takeCommand {i : Instr} {body : State → Reply} (h : s.Keeps (body s).st) :
    OutKeeps s (takeCommand i body s) := by
  obtain hc | ⟨-, hc⟩ | ⟨-, -, hc⟩ := takeCommand_cases (i := i) (body := body) (s := s) <;> rw [hc]
  · exact outKeeps_next keeps_refl
  · exact outKeeps_next (keeps_of_store rfl)
  · exact outKeeps_next (h.of_store rfl)

/-! ## Record and group commands (R5 to R18) -/

theorem outKeeps_read (handle : BitVec 16) (field option : Byte) : OutKeeps s (execRead handle field option s) := by
  refine outKeeps_takeCommand ?_
  split
  · exact keeps_refl
  · split <;> exact keeps_refl

theorem keeps_numericWrite (f : FieldId) (sp : FieldSpec) (v : Int) : s.Keeps (numericWrite f sp v s).st := by
  unfold numericWrite
  dsimp only
  split
  · exact keeps_refl
  · split
    · exact keeps_refl
    · next h => exact keeps_storeWrite h

theorem outKeeps_write (handle : BitVec 16) (field : Byte) (value : BitVec 64) :
    OutKeeps s (execWrite handle field value s) := by
  refine outKeeps_takeCommand ?_
  split
  · exact keeps_refl
  · exact keeps_numericWrite ..

theorem outKeeps_writeText (handle : BitVec 16) (field : Byte) (text : List Byte) :
    OutKeeps s (execWriteText handle field text s) := by
  refine outKeeps_takeCommand ?_
  split
  · exact keeps_refl
  · split
    · exact keeps_refl
    · split
      · exact keeps_refl
      · split
        · exact keeps_refl
        · next h => exact keeps_storeWrite h

theorem outKeeps_create (kind objectKind : Byte) : OutKeeps s (execCreate kind objectKind s) := by
  refine outKeeps_takeCommand ?_
  split
  · exact keeps_refl
  · split
    · exact keeps_refl
    · split
      · exact keeps_refl
      · exact (keeps_createRec ..).trans (keeps_foldIf (keeps_setVal ..))

/-- The kind of the record that a handle names is the handle's (R2). -/
theorem kindOf_of_lookup {h : Handle} {k : Kind} {i : Nat} (hl : s.lookup h = some (k, i)) : kindOf h.kind = some k := by
  unfold State.lookup at hl
  split at hl
  · cases hl
  · next k' hk =>
    split at hl <;> cases hl
    exact hk

theorem outKeeps_retire (handle : BitVec 16) : OutKeeps s (execRetire handle s) := by
  refine outKeeps_takeCommand ?_
  dsimp only
  split
  · exact keeps_refl
  · next k hk =>
    split
    · exact keeps_refl
    · next hcreated =>
      split
      · exact keeps_refl
      · next k' i hl =>
        have hkind := Option.some.inj ((kindOf_of_lookup hl).symm.trans hk)
        subst hkind
        exact (keeps_retireRec (Bool.not_eq_false _ ▸ hcreated) i).trans keeps_examine

theorem outKeeps_groupOpen (g : Byte) : OutKeeps s (execGroupOpen g s) := by
  refine outKeeps_takeCommand ?_
  split
  · exact keeps_refl
  · split
    · exact keeps_refl
    · exact keeps_setGroup ..

theorem outKeeps_groupLaunch (g : Byte) : OutKeeps s (execGroupLaunch g s) := by
  refine outKeeps_takeCommand ?_
  split
  · exact keeps_refl
  · split
    · exact keeps_refl
    · unfold launchGroup
      dsimp only
      split
      · exact keeps_setGroup ..
      · split
        · exact keeps_refl
        · next hq => exact (keeps_setGroup ..).trans (keeps_joinQueue (by simpa using hq))

theorem outKeeps_groupDiscard (g : Byte) : OutKeeps s (execGroupDiscard g s) := by
  refine outKeeps_takeCommand ?_
  split
  · exact keeps_refl
  · split
    · exact (keeps_setGroup g.toNat Group.reset).of_store rfl
    · exact keeps_refl
    · exact keeps_refl

theorem outKeeps_groupStatus : OutKeeps s (execGroupStatus s) := outKeeps_takeCommand (keeps_ledger rfl id rfl)

/-! ## Acquisition commands -/

theorem outKeeps_force : OutKeeps s (execForce s) := by
  refine outKeeps_takeCommand ?_
  split
  · next h => exact keeps_of_store (takeForce_store h)
  · exact keeps_refl

theorem outKeeps_columns (ch : Byte) (first count : BitVec 16) : OutKeeps s (execColumns ch first count s) := by
  refine outKeeps_takeCommand ?_
  split
  · exact keeps_refl
  · split
    · exact keeps_refl
    · exact keeps_of_store rfl

/-! ## Frames (R179 to R184) -/

theorem outKeeps_csNFall : OutKeeps s (execCsNFall s) := by
  refine outKeeps_next (keeps_ite (keeps_of_store rfl) ?_)
  split <;> exact keeps_of_store rfl

theorem outKeeps_commandByte (byte : Byte) : OutKeeps s (execCommandByte byte s) := by
  refine outKeeps_awake (keeps_ite ?_ keeps_refl)
  split
  · exact keeps_of_store rfl
  · exact keeps_refl

theorem outKeeps_parameterByte (byte : Byte) : OutKeeps s (execParameterByte byte s) := by
  refine outKeeps_awake ?_
  split
  · exact keeps_ite (keeps_of_store rfl) (keeps_ite (keeps_of_store rfl) keeps_refl)
  · exact keeps_refl

theorem panelSubtract_store (snap : PanelSnap) : (panelSubtract snap s).store = s.store := by
  unfold panelSubtract
  dsimp only
  split <;> split <;> rfl

theorem outKeeps_responseEnd : OutKeeps s (execResponseEnd s) := by
  refine outKeeps_awake (keeps_ite ?_ keeps_refl)
  dsimp only
  split
  · exact keeps_of_store rfl
  · exact keeps_of_store ((panelSubtract_store _).trans rfl)
  · exact keeps_of_store rfl

/-- In reset the store stands at its reset values (R1, R16, R20, R184). -/
theorem keeps_of_reset (h : t.store = Store.reset) : s.Keeps t := by
  have hreset : State.Keeps State.reset t := keeps_of_store h
  exact ⟨fun _ => hreset.table (by decide), fun _ => hreset.queue (by decide)⟩

theorem outKeeps_csNRise (clocked : Bool) : OutKeeps s (execCsNRise clocked s) := by
  have hend : s.Keeps (endResponse (setParser .idle (setCsLow false s))) := by
    unfold endResponse
    split
    · exact keeps_of_store rfl
    · exact keeps_of_store rfl
    · exact keeps_of_reset rfl
    · exact keeps_of_store rfl
  refine outKeeps_next (keeps_ite (keeps_of_store rfl) ?_)
  split
  · exact keeps_of_store (raiseIf_store ..)
  · exact keeps_of_store rfl
  · exact hend
  · exact hend
  · exact keeps_of_store rfl

/-! ## The setup unit's commands -/

theorem outKeeps_save (slot : Byte) (calEn : Bool) : OutKeeps s (execSave slot calEn s) := by
  refine outKeeps_takeCommand ?_
  split
  · exact keeps_refl
  · exact keeps_of_store rfl

theorem outKeeps_erase (slot : Byte) (calEn : Bool) : OutKeeps s (execErase slot calEn s) := by
  refine outKeeps_takeCommand ?_
  split
  · exact keeps_refl
  · exact keeps_of_store rfl

theorem outKeeps_recall (slot : Byte) : OutKeeps s (execRecall slot s) := by
  refine outKeeps_takeCommand ?_
  split
  · exact keeps_refl
  · exact keeps_of_regroups (regroups_beginRecall _)

theorem outKeeps_abort : OutKeeps s (execAbort s) := by
  refine outKeeps_takeCommand ?_
  split
  · exact keeps_refl
  · exact keeps_of_regroups (regroups_cutOff _)

theorem outKeeps_supplyFall : OutKeeps s (execSupplyFall s) := by
  refine outKeeps_awake (keeps_ite keeps_refl (keeps_ite ?_ (keeps_of_store rfl)))
  exact keeps_of_regroups ((regroups_of_store rfl).trans (regroups_cutOff _))

theorem failedAttempt_store : (failedAttempt s).store = s.store := by unfold failedAttempt; split <;> rfl

theorem entryDone_store : (entryDone s).store = s.store := by unfold entryDone; dsimp only; split <;> rfl

theorem outKeeps_pumpCheck (ok : Bool) : OutKeeps s (execPumpCheck ok s) :=
  outKeeps_awake (keeps_ite (keeps_ite (keeps_of_store rfl) (keeps_of_store rfl)) keeps_refl)

theorem outKeeps_wipe : OutKeeps s (execWipe s) :=
  outKeeps_awake (keeps_ite (keeps_ite (keeps_of_store rfl) (keeps_of_store rfl)) keeps_refl)

theorem outKeeps_entryProgram (stuck : Flips) : OutKeeps s (execEntryProgram stuck s) := by
  refine outKeeps_awake (keeps_ite ?_ keeps_refl)
  split
  · exact keeps_refl
  · exact keeps_ite (keeps_of_store entryDone_store) (keeps_of_store failedAttempt_store)

theorem outKeeps_headerProgram (stuck : Flips) : OutKeeps s (execHeaderProgram stuck s) :=
  outKeeps_awake (keeps_ite (keeps_ite (keeps_of_store rfl) (keeps_of_store failedAttempt_store)) keeps_refl)

theorem outKeeps_headerReread (flips : Flips) : OutKeeps s (execHeaderReread flips s) := by
  refine outKeeps_awake (keeps_ite ?_ keeps_refl)
  dsimp only
  split
  · exact keeps_of_regroups regroups_failHeader
  · exact keeps_ite (keeps_ite keeps_endReading (keeps_of_store rfl)) (keeps_of_regroups regroups_failHeader)

theorem outKeeps_entryRead (flips : Flips) : OutKeeps s (execEntryRead flips s) := by
  have hread : s.Keeps (readEntry flips s) := keeps_of_regroups (regroups_readEntry flips)
  exact outKeeps_awake (keeps_ite (keeps_ite (hread.trans keeps_endReading) hread) keeps_refl)

theorem keeps_startFrontEnd : s.Keeps (startFrontEnd s) :=
  (keeps_forChannels fun _ _ => keeps_of_store rfl).trans (keeps_of_store feStart_store)

theorem outKeeps_resetRelease (vsense : Nat) (flips : Flips) : OutKeeps s (execResetRelease vsense flips s) := by
  refine outKeeps_next (keeps_ite ?_ keeps_refl)
  have hjudged : s.Keeps (judgeSupply vsense { s with held := false }) := keeps_of_store (by rw [judgeSupply_eq])
  unfold release
  refine State.Keeps.trans ?_ (keeps_of_regroups regroups_startCalibration)
  exact ((hjudged.trans keeps_startFrontEnd).trans keeps_levelRecompute).of_store rfl

/-! ## The timers, the front end and the renderer -/

theorem outKeeps_feFrameLatch : OutKeeps s (execFeFrameLatch s) := by
  refine outKeeps_awake ?_
  split
  · exact keeps_refl
  · exact keeps_of_store (feStart_store.trans rfl)

theorem outKeeps_settleExpiry : OutKeeps s (execSettleExpiry s) := by
  refine outKeeps_awake ?_
  split
  · exact keeps_refl
  · exact keeps_ite (keeps_of_store (captureStart_store.trans rfl)) (keeps_of_store rfl)

theorem outKeeps_holdoffExpiry : OutKeeps s (execHoldoffExpiry s) := by
  refine outKeeps_awake ?_
  split
  · exact keeps_refl
  · exact keeps_ite (keeps_of_store (captureStart_store.trans rfl)) (keeps_of_store rfl)

theorem outKeeps_autoTimerExpiry : OutKeeps s (execAutoTimerExpiry s) := by
  refine outKeeps_awake ?_
  split
  · exact keeps_refl
  · exact keeps_ite (keeps_of_store rfl) (keeps_of_store rfl)

theorem outKeeps_passCompletion : OutKeeps s (execPassCompletion s) := by
  refine outKeeps_awake ?_
  split
  · exact keeps_refl
  · next p _ => exact (keeps_completeMembers p.exclude p.members (s, false)).trans (keeps_passFinish ..)

theorem frameLends_store : (frameLends s).store = s.store :=
  forChannels_keeps State.store (fun _ _ => foldIf_store rfl) s

theorem outKeeps_frameStart : OutKeeps s (execFrameStart s) := by
  refine outKeeps_awake ?_
  split
  · exact keeps_refl
  · exact keeps_ite (keeps_of_store rfl) (keeps_of_store (frameLends_store.trans rfl))

theorem outKeeps_line (y : Fin 600) : OutKeeps s (execLine y s) := by
  refine outKeeps_awake ?_
  split
  · exact keeps_of_store rfl
  · exact keeps_ite (keeps_of_store rfl) keeps_refl

theorem outKeeps_frameEnd : OutKeeps s (execFrameEnd s) := by
  refine outKeeps_awake ?_
  split
  · exact keeps_refl
  · have hrelease : s.Keeps (forChannels (releaseLend .renderer) s) := keeps_forChannels fun _ _ => keeps_of_store rfl
    refine keeps_ite keeps_refl (State.Keeps.of_store (u := setVal Fld.diFrameCount _ _) ?_ rfl)
    exact ((hrelease.trans (keeps_setVal ..)).trans (keeps_raiseIf ..)).trans (keeps_setVal ..)

theorem outKeeps_carryRetry : OutKeeps s (execCarryRetry s) := by
  refine outKeeps_awake (keeps_ite ?_ keeps_refl)
  exact (keeps_foldl (fun _ _ => keeps_retryCarry _) _).from_store rfl

/-! ## Every command -/

/-- Every command keeps the record table, the groups and the queue's bound (R1, R16, R20). -/
theorem outKeeps_exec : ∀ i : Instr, OutKeeps s (exec i s)
  | .nop => outKeeps_takeCommand keeps_refl
  | .identify => outKeeps_takeCommand keeps_refl
  | .read handle field option => outKeeps_read handle field option
  | .write handle field value => outKeeps_write handle field value
  | .writeText handle field text => outKeeps_writeText handle field text
  | .create kind objectKind => outKeeps_create kind objectKind
  | .retire handle => outKeeps_retire handle
  | .groupOpen group => outKeeps_groupOpen group
  | .groupLaunch group => outKeeps_groupLaunch group
  | .groupDiscard group => outKeeps_groupDiscard group
  | .groupStatus => outKeeps_groupStatus
  | .run => show OutKeeps s (execRun s) from outKeeps_takeCommand (keeps_of_store takeRun_store)
  | .stop => show OutKeeps s (execStop s) from outKeeps_takeCommand keeps_takeStop
  | .single => show OutKeeps s (execSingle s) from outKeeps_takeCommand keeps_takeSingle
  | .force => outKeeps_force
  | .clearStats => show OutKeeps s (execClearStats s) from outKeeps_takeCommand keeps_clearAllStats
  | .columns channel first count => outKeeps_columns channel first count
  | .panelRead => show OutKeeps s (execPanelRead s) from outKeeps_takeCommand keeps_refl
  | .noticeRead => outKeeps_takeCommand keeps_refl
  | .noticeClear sources fails =>
    show OutKeeps s (execNoticeClear sources fails s) from outKeeps_takeCommand (keeps_of_store rfl)
  | .save slot calEn => outKeeps_save slot calEn
  | .erase slot calEn => outKeeps_erase slot calEn
  | .recallSetup slot => outKeeps_recall slot
  | .abort => outKeeps_abort
  | .setupStatus =>
    show OutKeeps s (execSetupStatus s) from outKeeps_takeCommand (keeps_of_store (firstStepMayBegin_store s))
  | .reset => show OutKeeps s (execReset s) from outKeeps_takeCommand keeps_refl
  | .unknownCommand _ => outKeeps_awake (keeps_ite (keeps_of_store rfl) keeps_refl)
  | .csNFall => outKeeps_csNFall
  | .responseEnd => outKeeps_responseEnd
  | .csNRise clocked => outKeeps_csNRise clocked
  | .powerOn => outKeeps_next (keeps_of_reset rfl)
  | .resetN => outKeeps_next (keeps_of_reset rfl)
  | .supplyReset => outKeeps_next (keeps_of_reset rfl)
  | .resetRelease vsense flips => outKeeps_resetRelease vsense flips
  | .startupCompletion => outKeeps_awake (keeps_ite (keeps_of_store (takeRun_store.trans rfl)) keeps_refl)
  | .supplyFall => outKeeps_supplyFall
  | .supplyRise => outKeeps_awake (keeps_of_store rfl)
  | .sampleWord port framed code => outKeeps_awake (keeps_sampleWord port.val framed code.toNat)
  | .feFrameLatch => outKeeps_feFrameLatch
  | .settleExpiry => outKeeps_settleExpiry
  | .holdoffExpiry => outKeeps_holdoffExpiry
  | .autoTimerExpiry => outKeeps_autoTimerExpiry
  | .passCompletion => outKeeps_passCompletion
  | .keyScan _ => outKeeps_awake (keeps_foldl (fun _ _ => keeps_scanKey ..) _)
  | .encoderSample _ => outKeeps_awake (keeps_foldl (fun _ _ => keeps_stepEncoder ..) _)
  | .carryRetry => outKeeps_carryRetry
  | .lampRefresh => outKeeps_awake (keeps_of_store rfl)
  | .blinkToggle => outKeeps_awake (keeps_of_store rfl)
  | .frameStart => outKeeps_frameStart
  | .line y => outKeeps_line y
  | .frameEnd => outKeeps_frameEnd
  | .pumpCheck ok => outKeeps_pumpCheck ok
  | .voidMark => outKeeps_awake (keeps_ite (keeps_of_store rfl) keeps_refl)
  | .wipe => outKeeps_wipe
  | .entryProgram stuck => outKeeps_entryProgram stuck
  | .headerProgram stuck => outKeeps_headerProgram stuck
  | .seal => outKeeps_awake (keeps_ite (keeps_of_store rfl) keeps_refl)
  | .headerReread flips => outKeeps_headerReread flips
  | .entryRead flips => outKeeps_entryRead flips
  | .group3LaunchRetry => outKeeps_awake (keeps_ite keeps_launch3 keeps_refl)
  | .commandByte byte => outKeeps_commandByte byte
  | .parameterByte byte => outKeeps_parameterByte byte

/-- A step runs one command, or none. -/
theorem keeps_step (h : step s = .next t) : s.Keeps t := by
  unfold step at h
  split at h
  · cases h
    exact keeps_refl
  · next c rest _ => exact (outKeeps_exec (s := { s with pending := rest }) c t h).from_store rfl

end Sys2Proof.Machine

/-! ## The statements -/

open Sys2Proof Sys2Proof.Machine

/-- Settles O56: every command keeps the shape of each kind's records. -/
theorem stepKeepsRecordTable : Obligations.StepKeepsRecordTable := fun _ _ hs hstep => (keeps_step hstep).table hs

/-- Settles O57: the groups are never more or fewer, and a change joins the queue only where it has room. -/
theorem stepKeepsQueueBound : Obligations.StepKeepsQueueBound := fun _ _ hs hstep => (keeps_step hstep).queue hs

/-- Settles O60: each invariant holds of the reset values. -/
theorem resetKeepsInvariants : Obligations.ResetKeepsInvariants := by
  refine ⟨?_, ?_, ?_, ?_⟩ <;> decide
end

section
/-! SUPPORT. READ and WRITE on the link (R2, R3, R5, R7): the field that a handle and a number name, and each command's
answer by its checks. -/

namespace Sys2Proof.Machine

variable {s t : State} {h : BitVec 16} {n o : Byte} {v : BitVec 64} {f : FieldId} {sp : FieldSpec} {k : Kind} {i : Nat}
  {x : Int} {e : Status} {p : WritePath}

/-! ## The field named (R2, R3) -/

/-- The kind's record of that number is live with the generation (R2). -/
def State.holdsRec (s : State) (k : Kind) (i g : Nat) : Prop :=
  i < kindSize k ∧ s.isLive k i = true ∧ (s.recAt k i).gen = g

theorem handleOf_toNat (h : BitVec 16) :
    handleOf h.toNat = { kind := h.toNat / 4096, inst := h.toNat / 16 % 256, gen := h.toNat % 16 } := by
  have := h.isLt
  rw [handleOf, Nat.mod_eq_of_lt (a := h.toNat / 4096) (by omega)]

theorem lookup_eq_some {hd : Handle} :
    s.lookup hd = some (k, i) ↔ kindOf hd.kind = some k ∧ i = hd.inst ∧ s.holdsRec k hd.inst hd.gen := by
  unfold State.lookup State.holdsRec
  cases hk : kindOf hd.kind with
  | none => simp
  | some k' =>
    dsimp only
    split
    · simp only [Option.some.injEq, Prod.mk.injEq, eq_comm (a := i)]
      constructor
      · rintro ⟨rfl, rfl⟩
        exact ⟨rfl, rfl, ‹_›⟩
      · rintro ⟨rfl, rfl, -⟩
        exact ⟨rfl, rfl⟩
    · next hn =>
      simp only [reduceCtorEq, Option.some.injEq, false_iff]
      rintro ⟨rfl, -, hrec⟩
      exact hn hrec

theorem lookup_eq_none {hd : Handle} :
    s.lookup hd = none ↔ ∀ k, kindOf hd.kind = some k → ¬ s.holdsRec k hd.inst hd.gen := by
  constructor
  · intro hl k hk hrec
    have hsome := lookup_eq_some.2 ⟨hk, rfl, hrec⟩
    rw [hl] at hsome
    cases hsome
  · intro hn
    cases hl : s.lookup hd with
    | none => rfl
    | some y =>
      obtain ⟨hk, -, hrec⟩ := lookup_eq_some.1 hl
      exact absurd hrec (hn _ hk)

theorem fieldAt_noRecord (hl : s.lookup (handleOf h.toNat) = none) : s.fieldAt h n = .error .noRecord := by
  rw [State.fieldAt, hl]

theorem fieldAt_noField (hl : s.lookup (handleOf h.toNat) = some (k, i)) (hs : specAt k n.toNat = none) :
    s.fieldAt h n = .error .noField := by
  rw [State.fieldAt, hl]
  dsimp only
  rw [hs]

theorem fieldAt_ok (hl : s.lookup (handleOf h.toNat) = some (k, i)) (hs : specAt k n.toNat = some sp) :
    s.fieldAt h n = .ok ({ kind := k, inst := i, num := n.toNat }, sp) := by
  rw [State.fieldAt, hl]
  dsimp only
  rw [hs]

/-- What the checks of R2 and R3 have found where they pass. -/
theorem fieldAt_found (hf : s.fieldAt h n = .ok (f, sp)) :
    s.lookup (handleOf h.toNat) = some (f.kind, f.inst) ∧ f.num = n.toNat ∧ specAt f.kind f.num = some sp := by
  unfold State.fieldAt at hf
  split at hf
  · cases hf
  · next hl =>
    split at hf
    · cases hf
    · next hs =>
      cases hf
      exact ⟨hl, rfl, hs⟩

/-! ## READ (R5, R6) -/

theorem exec_read (ht : s.takes (.read h n o) = true) (hf : s.fieldAt h n = .ok (f, sp)) :
    exec (.read h n o) s = .next (if 2 ≤ o.toNat then s.answer .badValue [] .none
      else s.answer .ok (readData s f (o == 1)) .none) := by
  rw [exec, execRead, takeCommand_takes ht, hf]
  dsimp only
  split <;> rfl

theorem exec_read_error (ht : s.takes (.read h n o) = true) (hf : s.fieldAt h n = .error e) :
    exec (.read h n o) s = .next (s.answer e [] .none) := by
  rw [exec, execRead, takeCommand_takes ht, hf]
  rfl

theorem beBytes_flag (b : Bool) : beBytes 1 (ofBool b) = [if b then 1 else 0] := by cases b <;> decide

theorem textData_eq (x : List Byte) : textData x = BitVec.ofNat 8 x.length :: x := by
  rw [textData, beBytes_one, BitVec.ofInt_natCast]
  rfl

theorem readData_value (hf : ¬ (f.kind = .object ∧ f.num = 10)) (b : Bool) :
    readData s f b = (if s.pendingField f then 1 else 0) :: beBytes 8 (if b then s.eff f else s.get f) := by
  rw [readData, if_neg hf, beBytes_flag]
  rfl

theorem readData_text (hk : f.kind = .object) (hn : f.num = 10) (b : Bool) :
    readData s f b = (if s.pendingField f then 1 else 0)
      :: textData (if b then s.effText f.inst else (s.recAt .object f.inst).text) := by
  rw [readData, if_pos ⟨hk, hn⟩, beBytes_flag]
  rfl

/-- READ by its option: the live data, the effective data, or BAD_VALUE. -/
theorem exec_read_options (ht : s.takes (.read h n o) = true) (hf : s.fieldAt h n = .ok (f, sp)) :
    (o = 0 → exec (.read h n o) s = .next (s.answer .ok (readData s f false) .none))
    ∧ (o = 1 → exec (.read h n o) s = .next (s.answer .ok (readData s f true) .none))
    ∧ (2 ≤ o.toNat → exec (.read h n o) s = .next (s.answer .badValue [] .none)) := by
  rw [exec_read ht hf]
  refine ⟨?_, ?_, fun ho => by rw [if_pos ho]⟩
  · rintro rfl; rfl
  · rintro rfl; rfl

/-! ## WRITE (R7) -/

theorem exec_write (ht : s.takes (.write h n v) = true) (hf : s.fieldAt h n = .ok (f, sp)) :
    exec (.write h n v) s = .next (respond (numericWrite f sp v.toInt s)) := by
  rw [exec, execWrite, takeCommand_takes ht, hf]

theorem exec_write_error (ht : s.takes (.write h n v) = true) (hf : s.fieldAt h n = .error e) :
    exec (.write h n v) s = .next (s.answer e [] .none) := by
  rw [exec, execWrite, takeCommand_takes ht, hf]
  rfl

/-- A write that fails one of checks 3 to 5 (R7). -/
theorem exec_write_refused (ht : s.takes (.write h n v) = true) (hf : s.fieldAt h n = .ok (f, sp))
    (hc : s.writeCheck (s.pathFor sp.cls) f sp v.toInt = some e) :
    exec (.write h n v) s = .next (s.answer e [] .none) := by
  rw [exec_write ht hf, numericWrite]
  dsimp only
  rw [hc]
  rfl

/-- A write that passes its checks and finds no room (R7 check 6). -/
theorem exec_write_full (ht : s.takes (.write h n v) = true) (hf : s.fieldAt h n = .ok (f, sp)) (hp : s.pathFor sp.cls = p)
    (hc : s.writeCheck p f sp v.toInt = none)
    (hw : storeWrite p f (.int (s.storedValue p f sp v.toInt).1) s = .error e) :
    exec (.write h n v) s = .next (s.answer e [] .none) := by
  subst hp
  rw [exec_write ht hf, numericWrite]
  dsimp only
  rw [hc]
  dsimp only
  rw [hw]
  rfl

/-- A write that is stored: its status says whether the value was moved, and its data is the value (R7, R8). -/
theorem exec_write_stored (ht : s.takes (.write h n v) = true) (hf : s.fieldAt h n = .ok (f, sp)) (hp : s.pathFor sp.cls = p)
    (hc : s.writeCheck p f sp v.toInt = none)
    (hw : storeWrite p f (.int (s.storedValue p f sp v.toInt).1) s = .ok t) :
    exec (.write h n v) s = .next (t.answer (if (s.storedValue p f sp v.toInt).2 then .clamped else .ok)
      (beBytes 8 (s.storedValue p f sp v.toInt).1) .none) := by
  subst hp
  rw [exec_write ht hf, numericWrite]
  dsimp only
  rw [hc]
  dsimp only
  rw [hw]
  rfl

/-! ## Checks 3 to 5 (R7) -/

theorem writeCheck_readOnly (hr : sp.cls = .result ∨ (f.kind = .object ∧ f.num = 0)) :
    s.writeCheck p f sp x = some .readOnly := if_pos hr

theorem writeCheck_badValue (hr : ¬ (sp.cls = .result ∨ (f.kind = .object ∧ f.num = 0))) (hv : enumOk f sp x = false) :
    s.writeCheck p f sp x = some .badValue := by
  rw [State.writeCheck, if_neg hr, if_pos hv]

theorem writeCheck_badReference (hr : ¬ (sp.cls = .result ∨ (f.kind = .object ∧ f.num = 0))) (hv : enumOk f sp x = true)
    (hx : s.refOk p f sp x = false) : s.writeCheck p f sp x = some .badReference := by
  rw [State.writeCheck, if_neg hr, if_neg (by simp [hv]), if_pos hx]

theorem writeCheck_passes (hr : ¬ (sp.cls = .result ∨ (f.kind = .object ∧ f.num = 0))) (hv : enumOk f sp x = true)
    (hx : s.refOk p f sp x = true) : s.writeCheck p f sp x = none := by
  rw [State.writeCheck, if_neg hr, if_neg (by simp [hv]), if_neg (by simp [hx])]

/-- A value of an enumeration, but for the BINDING.KINDs that do not suit a control (R7, R119). -/
theorem enumOk_enum {m : Nat} (hty : sp.ty = .enum m) (hx : 0 ≤ x ∧ x < m) (hf : f.kind ≠ .binding) : enumOk f sp x = true := by
  simp [enumOk, hty, hx, hf]

theorem enumOk_numeric {lo hi : Int} (hty : sp.ty = .numeric lo hi) : enumOk f sp x = true := by simp [enumOk, hty]

theorem refOk_of_gates (hk : f.kind = .measurement) (hn : 2 ≤ f.num ∧ f.num ≤ 4) (hg : s.gatesOk p f x = false) :
    s.refOk p f sp x = false := by
  simp [State.refOk, hk, hn, hg]

theorem refOk_of_readout (hk : f.kind = .object) (hn : 11 ≤ f.num ∧ f.num ≤ 13) (hr : s.readoutOk p f x = false) :
    s.refOk p f sp x = false := by
  simp [State.refOk, hk, hn, hr]

theorem refOk_of_binding (hk : f.kind = .binding) (hb : s.bindingOk f x = false) : s.refOk p f sp x = false := by
  simp [State.refOk, hk, hb]

theorem refOk_of_lamp (hk : f.kind = .lamp) (hl : s.lampOk f x = false) : s.refOk p f sp x = false := by
  simp [State.refOk, hk, hl]

theorem refOk_of_cursorRef (hty : sp.ty = .cursorRef) (hx : x ≠ -1) (hr : s.refersTo [.cursor] x = none) :
    s.refOk p f sp x = false := by
  simp [State.refOk, hty, noRef, hx, hr]

theorem refOk_of_bindRef (hty : sp.ty = .bindRef) (hx : x ≠ -1) (hr : s.refersTo [.measurement, .cursor] x = none) :
    s.refOk p f sp x = false := by
  simp [State.refOk, hty, noRef, hx, hr]

/-- GATE under CURSORS without two live cursors, each of the three fields by the value the write puts in its place (R8). -/
theorem gatesOk_false {a b g : Int} (hg : (if f.num = 2 then x else s.refVal p (Fld.meGate f.inst)) = g)
    (ha : (if f.num = 3 then x else s.refVal p (Fld.meGateA f.inst)) = a)
    (hb : (if f.num = 4 then x else s.refVal p (Fld.meGateB f.inst)) = b) (hk : f.kind = .measurement) (h1 : g = 1)
    (hl : s.gatesLive a b = false) : s.gatesOk p f x = false := by
  have hval (m : Nat) : ((⟨.measurement, f.inst, m⟩ : FieldId) = f) = (f.num = m) := by
    obtain ⟨k, i, j⟩ := f
    simp only at hk
    subst hk
    simp [eq_comm]
  unfold State.gatesOk
  simp only [hval, hg, ha, hb, if_pos h1, hl]

/-- BIND, BIND2 and FORM of a READOUT, each by the value the write puts in its place (R152). -/
theorem readoutOk_false {form b b2 : Int} (hk : f.kind = .object) (ho : s.get (Fld.obKind f.inst) = 6)
    (hx : ¬ (x = -1 ∧ f.num ≠ 13)) (hform : form = if f.num = 13 then x else s.refVal p (Fld.obForm f.inst))
    (hb : b = if f.num = 11 then x else s.refVal p (Fld.obBind f.inst))
    (hb2 : b2 = if f.num = 12 then x else s.refVal p (Fld.obBind2 f.inst))
    (hbad : (b ≠ -1 ∧ s.refersTo (bindKinds form) b = none) ∨ (b2 ≠ -1 ∧ s.refersTo (bind2Kinds form) b2 = none)) :
    s.readoutOk p f x = false := by
  have hval (m : Nat) : ((⟨.object, f.inst, m⟩ : FieldId) = f) = (f.num = m) := by
    obtain ⟨k, i, j⟩ := f
    simp only at hk
    subst hk
    simp [eq_comm]
  unfold State.readoutOk
  rw [if_pos (by simpa [readoutKind] using ho)]
  simp only [hval, ← hform, ← hb, ← hb2, noRef, if_neg hx]
  obtain ⟨hne, hnone⟩ | ⟨hne, hnone⟩ := hbad
  · simp [State.agrees, noRef, hne, hnone]
  · simp [State.agrees, noRef, hne, hnone]

/-! ## Bindings and lamps (R119, R128) -/

/-- The fields that are no TARGET: results, bindings' own, OBJECT.KIND, and those of no number or enumeration (R119). -/
def Untargetable (g : FieldId) (sq : FieldSpec) : Prop :=
  sq.cls = .result ∨ g.kind = .binding ∨ (g.kind = .object ∧ g.num = 0) ∨ sq.ty = .text ∨ sq.ty = .label
    ∨ sq.ty = .cursorRef ∨ sq.ty = .bindRef ∨ sq.ty = .fieldRef

theorem targetable_false {g : FieldId} {sq : FieldSpec} (hbad : Untargetable g sq) : targetable g sq = false := by
  obtain h | h | ⟨h, h'⟩ | h | h | h | h | h := hbad <;> simp [targetable, *]

/-- No number for an ADJUST, no on/off for a TOGGLE, neither an on/off nor an enumeration for a CYCLE (R119). -/
def Unsuited (kind : Int) (ty : FType) : Prop :=
  kind = 2 ∧ (∀ lo hi, ty ≠ .numeric lo hi) ∨ kind = 3 ∧ ty ≠ .onOff ∨ kind = 4 ∧ ty ≠ .onOff ∧ ∀ m, ty ≠ .enum m

theorem suits_false {kind : Int} {ty : FType} (hk : Unsuited kind ty) : suits kind ty = false := by
  obtain ⟨rfl, h⟩ | ⟨rfl, h⟩ | ⟨rfl, h, h'⟩ := hk <;> cases ty <;> simp_all [suits, kindAdjust, kindToggle, kindCycle]

theorem needsTarget_iff {kind : Int} : needsTarget kind = true ↔ kind = 2 ∨ kind = 3 ∨ kind = 4 := by
  simp [needsTarget, kindAdjust, kindToggle, kindCycle, or_assoc]

/-- A BINDING.KIND that its TARGET does not suit (R119). -/
theorem bindingOk_kind_false (hn : f.num = 0) (hx : needsTarget x = true)
    (hbad : ∀ g sq, s.namesField (s.get (Fld.biTarget f.inst)) = some (g, sq) →
      targetable g sq = false ∨ suits x sq.ty = false) : s.bindingOk f x = false := by
  have hsuits : s.targetSuits x (s.get (Fld.biTarget f.inst)) = false := by
    unfold State.targetSuits
    split
    · next hg => obtain h | h := hbad _ _ hg <;> simp [h]
    · rfl
  simp [State.bindingOk, hn, hx, hsuits]

/-- A TARGET of none under a KIND that needs one (R119). -/
theorem bindingOk_none_false (hn : f.num = 1) (hk : needsTarget (s.get (Fld.biKind f.inst)) = true) (hx : x = -1) :
    s.bindingOk f x = false := by
  simp [State.bindingOk, hn, hx, noRef, hk]

/-- A TARGET that may be none, or does not suit the KIND (R119). -/
theorem bindingOk_target_false (hn : f.num = 1) (hx : x ≠ -1)
    (hbad : ∀ g sq, s.namesField x = some (g, sq) → targetable g sq = false
      ∨ (needsTarget (s.get (Fld.biKind f.inst)) = true ∧ suits (s.get (Fld.biKind f.inst)) sq.ty = false)) :
    s.bindingOk f x = false := by
  simp only [State.bindingOk, hn, if_neg (by decide : ¬ (1 : Nat) = 0), if_pos, noRef, if_neg hx]
  split
  · next hg => obtain h | ⟨h, h'⟩ := hbad _ _ hg <;> simp [*]
  · rfl

theorem lampOk_source_false (hn : f.num = 0) (hx : x = 2 ∨ x = 3) (hl : s.get (Fld.laField f.inst) = -1) :
    s.lampOk f x = false := by
  simp [State.lampOk, hn, hx, hl, noRef]

theorem lampOk_none_false (hn : f.num = 1) (hx : x = -1)
    (hl : s.get (Fld.laSource f.inst) = 2 ∨ s.get (Fld.laSource f.inst) = 3) : s.lampOk f x = false := by
  simp [State.lampOk, hn, hx, hl, noRef]

theorem lampOk_field_false (hn : f.num = 1) (hx : x ≠ -1) (hbad : ∀ g sq, s.namesField x = some (g, sq) → sq.ty = .text) :
    s.lampOk f x = false := by
  simp only [State.lampOk, hn, if_neg (by decide : ¬ (1 : Nat) = 0), if_pos, noRef, if_neg hx]
  split
  · next hg => simp [hbad _ _ hg]
  · rfl

/-! ## The value as stored (R8) -/

theorem storedValue_numeric {lo hi : Int} (hty : sp.ty = .numeric lo hi) (hk : f.kind ≠ .notice) :
    (s.storedValue p f sp x).1 = s.dependentClamp p f (limit lo hi x) := by
  simp [State.storedValue, hty, hk]

theorem storedValue_clamped {lo hi : Int} (hty : sp.ty = .numeric lo hi) :
    (s.storedValue p f sp x).2 = decide ((s.storedValue p f sp x).1 ≠ x) := by
  simp [State.storedValue, hty]

/-- A value that is no number is stored as it comes (R8). -/
theorem storedValue_kept (hn : ∀ lo hi, sp.ty ≠ .numeric lo hi) (hl : sp.ty ≠ .label) : s.storedValue p f sp x = (x, false) := by
  unfold State.storedValue
  split
  · exact absurd ‹_› (hn _ _)
  · exact absurd ‹_› hl
  · rfl

/-- The limit of an offset stays within the field's own range (R27, R30). -/
theorem offsetLimit_bounds (scale probe : Int) : 0 < offsetLimit scale probe ∧ offsetLimit scale probe ≤ 10000000000 := by
  unfold offsetLimit probeFactor
  split_ifs <;> omega

/-- To limit twice is to limit to the inner range. -/
theorem limit_limit {lo hi lo' hi' x : Int} (hlo : lo ≤ lo') (hhi : hi' ≤ hi) (h : lo' ≤ hi') :
    limit lo' hi' (limit lo hi x) = limit lo' hi' x := by
  unfold limit
  split_ifs <;> omega

/-- Every numeric field's range has its ends in order (R3). -/
theorem numeric_ordered {lo hi : Int} (hs : specAt k i = some sp) (hty : sp.ty = .numeric lo hi) : lo ≤ hi := by
  have hall : ∀ k, ((specsOf k).all fun sp => match sp.ty with
      | .numeric lo hi => decide (lo ≤ hi)
      | _ => true) = true := by
    intro k
    cases k <;> decide
  have hsp := List.all_eq_true.1 (hall k) sp (List.mem_of_getElem? hs)
  rw [hty] at hsp
  exact of_decide_eq_true hsp

theorem tens_bounds {x hi : Int} (h : 0 ≤ x ∧ x ≤ hi) : 0 ≤ tens x ∧ tens x ≤ hi := by
  unfold tens
  split <;> omega

theorem positionMax_bounds (a : Int) : 0 ≤ positionMax a ∧ positionMax a ≤ 1023 := by
  unfold positionMax
  split <;> omega

/-- The dependent part of the clamp leaves a value within its field's range (R8, R25). -/
theorem dependentClamp_bounds {lo hi : Int} (hs : specAt f.kind f.num = some sp) (hty : sp.ty = .numeric lo hi)
    (hx : lo ≤ x ∧ x ≤ hi) : lo ≤ s.dependentClamp p f x ∧ s.dependentClamp p f x ≤ hi := by
  unfold State.dependentClamp
  split
  case h_1 hk hn =>
    rw [hk, hn] at hs
    cases hs
    cases hty
    have hlim := offsetLimit_bounds (s.refVal p (Fld.chScale f.inst)) (s.refVal p (Fld.chProbe f.inst))
    have := limit_bounds (lo := -offsetLimit (s.refVal p (Fld.chScale f.inst)) (s.refVal p (Fld.chProbe f.inst))) (v := x)
      (by omega : _ ≤ offsetLimit (s.refVal p (Fld.chScale f.inst)) (s.refVal p (Fld.chProbe f.inst)))
    dsimp only
    omega
  case h_2 hk hn =>
    rw [hk, hn] at hs
    cases hs
    cases hty
    have hmax := positionMax_bounds (s.refVal p (Fld.cuAxis f.inst))
    have := limit_bounds (v := x) hmax.1
    omega
  case h_3 hk hn =>
    rw [hk, hn] at hs
    cases hs
    cases hty
    have : limitedTo Fld.trAlStable (s.refVal p Fld.trAlStable) ≤ 100 := (limit_bounds (lo := 0) (by decide)).2
    omega
  case h_4 hk hn =>
    rw [hk, hn] at hs
    cases hs
    cases hty
    exact tens_bounds hx
  case h_5 hk hn =>
    rw [hk, hn] at hs
    cases hs
    cases hty
    have : limitedTo (Fld.meLimitLo f.inst) (s.refVal p (Fld.meLimitLo f.inst)) ≤ 10000000000000000 :=
      (limit_bounds (lo := -10000000000000000) (by decide)).2
    omega
  case h_6 => exact hx

theorem storedValue_bounds {lo hi : Int} (hs : specAt f.kind f.num = some sp) (hty : sp.ty = .numeric lo hi) :
    lo ≤ (s.storedValue p f sp x).1 ∧ (s.storedValue p f sp x).1 ≤ hi := by
  by_cases hk : f.kind = .notice
  · have hrange : lo = 0 ∧ hi = 524287 := by
      rw [hk] at hs
      have hmem : sp ∈ noticeSpecs := List.mem_of_getElem? hs
      simp only [noticeSpecs, List.mem_cons, List.not_mem_nil, or_false] at hmem
      obtain rfl | rfl := hmem <;> cases hty <;> exact ⟨rfl, rfl⟩
    obtain ⟨rfl, rfl⟩ := hrange
    simp only [State.storedValue, hty, hk, if_pos]
    omega
  · rw [storedValue_numeric hty hk]
    exact dependentClamp_bounds hs hty (limit_bounds (numeric_ordered hs hty))

end Sys2Proof.Machine
end

section
/-! SUPPORT. The refusals of READ and WRITE, one lemma per owner (R7, R8, R119, R128, R152), and the statement. -/

namespace Sys2Proof.Machine

variable {s : State} {h : BitVec 16} {n : Byte} {v : BitVec 64} {f : FieldId} {sp : FieldSpec}

/-- A handle or field that READ and WRITE refuse alike (R2, R3, R5, R7). -/
theorem exec_field_error {e : Status} {i : Instr} (hi : (∃ o, i = .read h n o) ∨ (∃ v, i = .write h n v))
    (ht : s.takes i = true) (hf : s.fieldAt h n = .error e) : exec i s = .next (s.answer e [] .none) := by
  obtain ⟨o, rfl⟩ | ⟨v, rfl⟩ := hi
  · exact exec_read_error ht hf
  · exact exec_write_error ht hf

/-- A reference that fails check 5 (R7). -/
theorem exec_write_badReference (ht : s.takes (.write h n v) = true) (hf : s.fieldAt h n = .ok (f, sp))
    (hr : ¬ (sp.cls = .result ∨ (f.kind = .object ∧ f.num = 0))) (hv : enumOk f sp v.toInt = true)
    (hx : s.refOk (s.pathFor sp.cls) f sp v.toInt = false) :
    exec (.write h n v) s = .next (s.answer .badReference [] .none) :=
  exec_write_refused ht hf (writeCheck_badReference hr hv hx)

/-- A value outside its field's set (R7 check 4). -/
theorem exec_write_badValue (ht : s.takes (.write h n v) = true) (hf : s.fieldAt h n = .ok (f, sp))
    (hr : ¬ (sp.cls = .result ∨ (f.kind = .object ∧ f.num = 0))) (hv : enumOk f sp v.toInt = false) :
    exec (.write h n v) s = .next (s.answer .badValue [] .none) :=
  exec_write_refused ht hf (writeCheck_badValue hr hv)

/-- A GATE field under CURSORS without two live cursors (R8). -/
theorem exec_write_gates {a b g : Int} (ht : s.takes (.write h n v) = true) (hf : s.fieldAt h n = .ok (f, sp))
    (hk : f.kind = .measurement) (hn : f.num = 2 ∧ v = 1 ∨ f.num = 3 ∨ f.num = 4)
    (hg : (if f.num = 2 then v.toInt else s.refVal (s.pathFor .sweep) (Fld.meGate f.inst)) = g)
    (ha : (if f.num = 3 then v.toInt else s.refVal (s.pathFor .sweep) (Fld.meGateA f.inst)) = a)
    (hb : (if f.num = 4 then v.toInt else s.refVal (s.pathFor .sweep) (Fld.meGateB f.inst)) = b) (h1 : g = 1)
    (hl : s.gatesLive a b = false) : exec (.write h n v) s = .next (s.answer .badReference [] .none) := by
  obtain ⟨-, -, hs⟩ := fieldAt_found hf
  have hspec : sp.cls = .sweep ∧ enumOk f sp v.toInt = true := by
    rw [hk] at hs
    obtain ⟨hnum, rfl⟩ | hnum | hnum := hn <;> rw [hnum] at hs <;> cases hs
    · exact ⟨rfl, enumOk_enum rfl (by decide) (by simp [hk])⟩
    · exact ⟨rfl, rfl⟩
    · exact ⟨rfl, rfl⟩
  have hnum : 2 ≤ f.num ∧ f.num ≤ 4 := by omega
  refine exec_write_badReference ht hf (by simp [hspec.1, hk]) hspec.2 (refOk_of_gates hk hnum ?_)
  rw [hspec.1]
  exact gatesOk_false hg ha hb hk h1 hl

/-- A KIND written that a field does not suit (R119). -/
theorem unsuited_toInt {v : BitVec 64} {ty : FType} (h : v = 2 ∧ (∀ lo hi, ty ≠ .numeric lo hi) ∨ v = 3 ∧ ty ≠ .onOff
    ∨ v = 4 ∧ ty ≠ .onOff ∧ ∀ m, ty ≠ .enum m) : Unsuited v.toInt ty := by
  refine h.imp (And.imp_left ?_) (Or.imp (And.imp_left ?_) (And.imp_left ?_)) <;> rintro rfl <;> rfl

/-- WRITE's checks of a BINDING's KIND and TARGET (R119). -/
theorem exec_write_binding (ht : s.takes (.write h n v) = true) (hf : s.fieldAt h n = .ok (f, sp)) (hk : f.kind = .binding) :
    (f.num = 0 → (v = 2 ∧ f.inst < 48) ∨ (v = 5 ∧ 48 ≤ f.inst) →
      exec (.write h n v) s = .next (s.answer .badValue [] .none))
    ∧ (f.num = 0 → (v = 2 ∧ 48 ≤ f.inst) ∨ v = 3 ∨ v = 4 → s.bindingOk f v.toInt = false →
      exec (.write h n v) s = .next (s.answer .badReference [] .none))
    ∧ (f.num = 1 → s.bindingOk f v.toInt = false → exec (.write h n v) s = .next (s.answer .badReference [] .none)) := by
  obtain ⟨-, -, hs⟩ := fieldAt_found hf
  rw [hk] at hs
  refine ⟨fun hn hv => ?_, fun hn hv hb => ?_, fun hn hb => ?_⟩ <;> rw [hn] at hs <;> cases hs
  · refine exec_write_badValue ht hf (by simp [hk]) ?_
    obtain ⟨rfl, hi⟩ | ⟨rfl, hi⟩ := hv <;> simp [enumOk, hk, hn, kindAdjust, kindAction, hi]
  · refine exec_write_badReference ht hf (by simp [hk]) ?_ (refOk_of_binding hk hb)
    obtain ⟨rfl, hi⟩ | rfl | rfl := hv <;> simp [enumOk, kindAdjust, kindAction, *]
  · exact exec_write_badReference ht hf (by simp [hk]) rfl (refOk_of_binding hk hb)

/-- WRITE's checks of a LAMP's SOURCE and FIELD (R128). -/
theorem exec_write_lamp (ht : s.takes (.write h n v) = true) (hf : s.fieldAt h n = .ok (f, sp)) (hk : f.kind = .lamp)
    (hn : f.num = 0 ∧ (v = 2 ∨ v = 3) ∨ f.num = 1) (hl : s.lampOk f v.toInt = false) :
    exec (.write h n v) s = .next (s.answer .badReference [] .none) := by
  obtain ⟨-, -, hs⟩ := fieldAt_found hf
  rw [hk] at hs
  refine exec_write_badReference ht hf ?_ ?_ (refOk_of_lamp hk hl)
  · obtain ⟨hn, -⟩ | hn := hn <;> rw [hn] at hs <;> cases hs <;> simp [hk]
  · obtain ⟨hn, hv⟩ | hn := hn <;> rw [hn] at hs <;> cases hs
    · obtain rfl | rfl := hv <;> exact enumOk_enum rfl (by decide) (by simp [hk])
    · rfl

/-- WRITE's checks of a READOUT's bindings and FORM (R152). -/
theorem exec_write_readout (ht : s.takes (.write h n v) = true) (hf : s.fieldAt h n = .ok (f, sp)) (hk : f.kind = .object)
    (hn : (11 ≤ f.num ∧ f.num ≤ 12 ∧ v.toInt ≠ -1) ∨ (f.num = 13 ∧ 0 ≤ v.toInt ∧ v.toInt < 6))
    (hr : s.readoutOk (s.pathFor .view) f v.toInt = false) :
    exec (.write h n v) s = .next (s.answer .badReference [] .none) := by
  obtain ⟨-, -, hs⟩ := fieldAt_found hf
  rw [hk] at hs
  have hspec : sp.cls = .view ∧ enumOk f sp v.toInt = true := by
    obtain hnum | hnum | hnum : f.num = 11 ∨ f.num = 12 ∨ f.num = 13 := by omega
    all_goals rw [hnum] at hs; cases hs
    · exact ⟨rfl, rfl⟩
    · exact ⟨rfl, rfl⟩
    · exact ⟨rfl, enumOk_enum rfl (by omega) (by simp [hk])⟩
  have hnum : 11 ≤ f.num ∧ f.num ≤ 13 := by omega
  refine exec_write_badReference ht hf ?_ hspec.2 (refOk_of_readout hk hnum (hspec.1 ▸ hr))
  simp only [hspec.1, reduceCtorEq, false_or, not_and]
  omega

end Sys2Proof.Machine

/-! ## The statement -/

open Sys2Proof Sys2Proof.Machine

/-- Settles O15: READ's data by its option; each refusal by the check it fails; each value stored within its field's range. -/
theorem readAnswersValue : Obligations.ReadAnswersValue := by
  refine ⟨fun s h n o f sp ht hf htext => ?_, fun s h n o f sp ht hf hk hn => ?_, fun s i h n hi ht => ⟨fun hrec => ?_,
    fun k hkind hinst hlive hgen hs => ?_⟩, fun s h n v f sp ht hf => ⟨fun hr => ?_, fun hc ho => ?_⟩,
    fun s h n v f sp ht hf hk => ?_, fun s h n v f sp ht hf hk => ?_,
    fun s h n v f sp form b b2 ht hf hk ho hn hform hb hb2 hbad => ?_, fun s p i sp v => ?_⟩
  · have hread := exec_read_options ht hf
    rwa [readData_value htext, readData_value htext] at hread
  · have hread := exec_read_options ht hf
    rwa [readData_text hk hn, readData_text hk hn, textData_eq, textData_eq] at hread
  · refine exec_field_error hi ht (fieldAt_noRecord (lookup_eq_none.2 ?_))
    rw [handleOf_toNat]
    exact hrec
  · refine exec_field_error hi ht (fieldAt_noField (k := k) (i := h.toNat / 16 % 256) (lookup_eq_some.2 ?_) hs)
    rw [handleOf_toNat]
    exact ⟨hkind, rfl, hinst, hlive, hgen⟩
  · exact exec_write_refused ht hf (writeCheck_readOnly hr)
  · have hr : ¬ (sp.cls = .result ∨ (f.kind = .object ∧ f.num = 0)) := not_or.2 ⟨hc, ho⟩
    refine ⟨fun hty => ?_, fun m hty hv => ?_, fun hty hv => ?_, fun hty hv hnone => ?_, fun hty hv hnone => ?_,
      fun hk hn hv hl => ?_, fun hk hn hg hl => ?_⟩
    · exact exec_write_badValue ht hf hr (by simp [enumOk, hty])
    · exact exec_write_badValue ht hf hr (by simp only [enumOk, hty]; simp; omega)
    · exact exec_write_badValue ht hf hr (by simp only [enumOk, hty]; simp; omega)
    · exact exec_write_badReference ht hf hr (by simp [enumOk, hty]) (refOk_of_cursorRef hty hv hnone)
    · exact exec_write_badReference ht hf hr (by simp [enumOk, hty]) (refOk_of_bindRef hty hv hnone)
    · exact exec_write_gates ht hf hk (.inl ⟨hn, hv⟩) rfl rfl rfl (by rw [hn, hv]; rfl) (by simpa [hn] using hl)
    · refine exec_write_gates ht hf hk (.inr hn) rfl rfl rfl ?_ hl
      rw [if_neg (by omega)]
      exact hg
  · obtain ⟨hvalue, hkind, htarget⟩ := exec_write_binding ht hf hk
    refine ⟨fun hn => ⟨hvalue hn, fun hv hbad => hkind hn hv (bindingOk_kind_false hn ?_ fun g sq hg => ?_)⟩,
      fun kind hn hkindEq => ⟨fun hv hneeds => htarget hn (bindingOk_none_false hn ?_ hv),
        fun hv hbad => htarget hn (bindingOk_target_false hn hv fun g sq hg => ?_)⟩⟩
    · rw [needsTarget_iff]
      obtain ⟨rfl, -⟩ | rfl | rfl := hv <;> decide
    · have hb : (sq.cls = .result ∨ g.kind = .binding ∨ (g.kind = .object ∧ g.num = 0)) ∨ Unsuited v.toInt sq.ty := by
        rw [or_assoc, or_assoc]
        exact (hbad g sq hg).imp_right (Or.imp_right (Or.imp_right unsuited_toInt))
      refine hb.imp (fun hb => targetable_false ?_) suits_false
      exact hb.imp_right (Or.imp_right .inl)
    · rw [← hkindEq, needsTarget_iff]
      exact hneeds
    · rw [← hkindEq, needsTarget_iff]
      have hb : Untargetable g sq ∨ Unsuited kind sq.ty := by
        simpa only [Untargetable, Unsuited, or_assoc] using hbad g sq hg
      exact hb.imp targetable_false fun hb => ⟨hb.imp And.left (Or.imp And.left And.left), suits_false hb⟩
  · exact ⟨fun hn hv hl => exec_write_lamp ht hf hk (.inl ⟨hn, hv⟩)
        (lampOk_source_false hn (by obtain rfl | rfl := hv <;> decide) hl),
      fun hn hv hl => exec_write_lamp ht hf hk (.inr hn) (lampOk_none_false hn hv hl),
      fun hn hv hbad => exec_write_lamp ht hf hk (.inr hn) (lampOk_field_false hn hv hbad)⟩
  · exact exec_write_readout ht hf hk hn (readoutOk_false hk ho (by omega) hform hb hb2 hbad)
  · refine ⟨?_, ?_, ?_, ?_, fun f lo hi hs hty => storedValue_bounds hs hty, fun f lo hi hty => ?_⟩
    · rintro ⟨⟩
      have hlim := offsetLimit_bounds (s.refVal p (Fld.chScale i)) (s.refVal p (Fld.chProbe i))
      exact limit_limit (neg_le_neg hlim.2) hlim.2 (neg_le_self hlim.1.le)
    · rintro ⟨⟩
      have hmax := positionMax_bounds (s.refVal p (Fld.cuAxis i))
      exact limit_limit le_rfl hmax.2 hmax.1
    · rintro ⟨⟩; rfl
    · rintro ⟨⟩; rfl
    · rw [storedValue_clamped hty, decide_eq_true_iff]
end

section
/-! SUPPORT. The paths of a write (R10, R11): a CONFIG write is live at once, a held one goes into its group. -/

namespace Sys2Proof.Machine

variable {s t : State} {f : FieldId} {sp : FieldSpec} {g : Nat} {x : Val} {k : Kind} {i : Nat}

/-! ## Records kept -/

theorem recordsKept_setVal (f : FieldId) (v : Int) : s.recordsKept (setVal f v s) := by
  refine fun k i => ⟨live_setVal, gen_setVal, ?_⟩
  rw [setVal, recAt_modRec]
  split
  · next h => rw [h.1, h.2.1]
  · rfl

/-! ## The paths (R10, R11) -/

theorem pathFor_config (h : sp.cls = .config) : s.pathFor sp.cls = .live := by rw [h]; rfl

theorem pathFor_held (hc : sp.cls ≠ .config) (hg : s.holdingGroup = some g) : s.pathFor sp.cls = .held g := by
  rw [State.pathFor, if_neg hc, hg]

theorem pathFor_loose (hc : sp.cls ≠ .config) (hg : s.holdingGroup = none) : s.pathFor sp.cls = .loose := by
  rw [State.pathFor, if_neg hc, hg]

/-- A held write takes the place of the field's entry, takes one from the pool, or finds none (R11, R19). -/
theorem storeWrite_held (g : Nat) (f : FieldId) (x : Val) (s : State) :
    (entryFor f (s.store.group g).entries = none → 0 < s.poolFree → storeWrite (.held g) f x s = .ok (setGroup g
      { s.store.group g with entries := (s.store.group g).entries ++ [{ id := f, val := x }] } s))
    ∧ (entryFor f (s.store.group g).entries = none → s.poolFree = 0 → storeWrite (.held g) f x s = .error .groupFull)
    ∧ (entryFor f (s.store.group g).entries ≠ none → storeWrite (.held g) f x s = .ok (setGroup g
      { s.store.group g with entries := replaceEntry f x (s.store.group g).entries } s)) := by
  unfold storeWrite
  refine ⟨fun he hp => ?_, fun he hp => ?_, fun he => ?_⟩
  · dsimp only
    rw [if_neg (by simp [he]), if_neg (by omega)]
  · dsimp only
    rw [if_neg (by simp [he]), if_pos hp]
  · dsimp only
    rw [if_pos (Option.isSome_iff_ne_none.2 he)]

/-! ## Calibration fields (R10, R39) -/

/-- A fixed record is live, with generation 0 (R1, R2). -/
theorem holdsRec_fixed (ht : s.tableKept = true) (hk : kindCreated k = false) (hi : i < kindSize k) : s.holdsRec k i 0 := by
  obtain ⟨hlen, hrec⟩ := tableKept_iff.1 ht k
  have hr := hrec (s.recAt k i) (by
    rw [State.recAt, List.getD_eq_getElem _ _ (by omega)]
    exact List.getElem_mem _)
  simp only [recKept, hk, Bool.false_or, Bool.and_eq_true, beq_iff_eq] at hr
  obtain ⟨-, hlive, hgen⟩ := hr
  exact ⟨hi, hlive, hgen⟩

/-- The handle of a fixed record names it (R2, R189). -/
theorem lookup_fixed (ht : s.tableKept = true) (hk : kindCreated k = false) (hi : i < kindSize k) {w : Nat}
    (hw : w = handleCode k i 0) : s.lookup (handleOf (BitVec.ofNat 16 w).toNat) = some (k, i) := by
  have hkind : kindCode k < 16 := by cases k <;> decide
  have hinst : i < 256 := hi.trans_le (by cases k <;> decide)
  have hkindOf : kindOf (kindCode k) = some k := by cases k <;> rfl
  have hcode : (BitVec.ofNat 16 w).toNat = kindCode k * 4096 + i * 16 := by
    rw [BitVec.toNat_ofNat, hw, handleCode]
    omega
  have hdiv : (kindCode k * 4096 + i * 16) / 4096 % 16 = kindCode k := by omega
  have hmod : (kindCode k * 4096 + i * 16) / 16 % 256 = i := by omega
  have hgen : (kindCode k * 4096 + i * 16) % 16 = 0 := by omega
  rw [hcode, lookup_eq_some, handleOf, hdiv, hmod, hgen]
  exact ⟨hkindOf, rfl, holdsRec_fixed ht hk hi⟩

theorem fieldAt_fixed (ht : s.tableKept = true) (hk : kindCreated k = false) (hi : i < kindSize k) {w n : Nat}
    (hw : w = handleCode k i 0) (hn : n < 256) (hs : specAt k n = some sp) :
    s.fieldAt (BitVec.ofNat 16 w) (BitVec.ofNat 8 n) = .ok (⟨k, i, n⟩, sp) := by
  have hnum : (BitVec.ofNat 8 n).toNat = n := Nat.mod_eq_of_lt hn
  have hf := fieldAt_ok (n := BitVec.ofNat 8 n) (lookup_fixed ht hk hi hw) (sp := sp) (by rw [hnum]; exact hs)
  rwa [hnum] at hf

/-- A calibration field's row: CONFIG, numeric, with the range of a knot or of the trim (R27, R39). -/
theorem specAt_calibration {n : Nat} {lo hi : Int}
    (hn : (10 ≤ n ∧ n ≤ 18 ∧ lo = -32 ∧ hi = 31) ∨ (n = 19 ∧ lo = 24576 ∧ hi = 40960)) :
    ∃ sp, specAt .channel n = some sp ∧ sp.cls = .config ∧ sp.ty = .numeric lo hi := by
  obtain ⟨hlo, hhi, rfl, rfl⟩ | ⟨rfl, rfl, rfl⟩ := hn
  · interval_cases n <;> exact ⟨_, rfl, rfl, rfl⟩
  · exact ⟨_, rfl, rfl, rfl⟩

end Sys2Proof.Machine

/-! ## The statements -/

open Sys2Proof Sys2Proof.Machine

/-- Settles O16: the write passes its checks, is limited to its range, and is one field's update. -/
theorem calibrationWriteIsLive : Obligations.CalibrationWriteIsLive := by
  intro s c n lo hi v hs ht hc hn
  obtain ⟨sp, hspec, hcls, hty⟩ := specAt_calibration hn
  have hf := fieldAt_fixed (k := .channel) (w := 16 * c) ht rfl hc (by simp [handleCode, kindCode]; omega) (by omega) hspec
  have hcheck : s.writeCheck .live ⟨.channel, c, n⟩ sp v.toInt = none :=
    writeCheck_passes (by simp [hcls]) (enumOk_numeric hty) (by simp [State.refOk, hty])
  have hvalue : (s.storedValue .live ⟨.channel, c, n⟩ sp v.toInt).1 = limit lo hi v.toInt := by
    rw [storedValue_numeric hty (by simp)]
    obtain ⟨hlo, hhi, -⟩ | ⟨rfl, -⟩ := hn
    · unfold State.dependentClamp
      split <;> simp_all
    · rfl
  have hexec := exec_write_stored hs hf (pathFor_config hcls) hcheck rfl
  rw [storedValue_clamped hty, hvalue] at hexec
  have hstored : FieldId.stored ⟨.channel, c, n⟩ = true :=
    decide_eq_true ⟨hc, by change n < 23; omega, nofun⟩
  refine ⟨_, hexec, get_setVal_kept ht hstored, fun g hg => get_setVal_other hg, ⟨rfl, ?_⟩, setTable_groups .., setTable_queue ..,
    rfl, rfl, rfl, rfl, rfl, rfl, rfl, recordsKept_setVal (s := s) ⟨.channel, c, n⟩ _, restKept_answer (shell_configWrite _ _)⟩
  by_cases h : limit lo hi v.toInt = v.toInt <;> simp [h, State.answer]

/-- Settles O17: the entry is replaced, added, or refused by the pool, and the group alone moves. -/
theorem heldWriteJoinsGroup : Obligations.HeldWriteJoinsGroup := by
  intro s h n v f sp g hs hf hc hg hcheck
  have hp := pathFor_held hc hg
  obtain ⟨hnew, hfull, hreplaced⟩ := storeWrite_held g f (.int (s.storedValue (.held g) f sp v.toInt).1) s
  exact ⟨fun he hpool => exec_write_stored hs hf hp hcheck (hnew he hpool),
    fun he hpool => exec_write_full hs hf hp hcheck (hfull he hpool),
    fun he => exec_write_stored hs hf hp hcheck (hreplaced he)⟩
end

section
/-! SUPPORT. What owners, re-clamps and clean-ups do to the store: they write fields, and nothing else of it (R15, R25,
R26). One lemma per shared operation says which fields. -/

namespace Sys2Proof.Machine

variable {s t u : State} {P Q : FieldId → Prop} {f g : FieldId} {v : Int} {k : Kind} {i : Nat}

/-- The second store is the first with fields written, each of the given ones. -/
def State.Writes (P : FieldId → Prop) (s t : State) : Prop :=
  ∃ ws : List (FieldId × Int), (∀ w, w ∈ ws → P w.1) ∧ t.store = (setVals ws s).store

/-! ## The relation -/

theorem setVal_store_congr (h : t.store = s.store) (f : FieldId) (v : Int) : (setVal f v t).store = (setVal f v s).store := by
  simp only [setVal, modRec_store, h]

theorem setVals_store_congr (h : t.store = s.store) (ws : List (FieldId × Int)) :
    (setVals ws t).store = (setVals ws s).store := by
  induction ws generalizing s t with
  | nil => exact h
  | cons w ws ih => exact ih (setVal_store_congr h w.1 w.2)

theorem setVals_append (ws ws' : List (FieldId × Int)) : setVals (ws ++ ws') s = setVals ws' (setVals ws s) :=
  List.foldl_append

theorem writes_of_store (h : t.store = s.store) : s.Writes P t := ⟨[], nofun, h⟩

theorem writes_refl : s.Writes P s := writes_of_store rfl

theorem State.Writes.trans (h : s.Writes P t) (h' : t.Writes P u) : s.Writes P u := by
  obtain ⟨ws, hws, ht⟩ := h
  obtain ⟨ws', hws', hu⟩ := h'
  refine ⟨ws ++ ws', fun w hw => (List.mem_append.1 hw).elim (hws w) (hws' w), ?_⟩
  rw [setVals_append, hu, setVals_store_congr ht]

theorem State.Writes.of_store (h : s.Writes P t) (hu : u.store = t.store) : s.Writes P u := h.trans (writes_of_store hu)

theorem State.Writes.mono (h : s.Writes P t) (hPQ : ∀ f, P f → Q f) : s.Writes Q t := by
  obtain ⟨ws, hws, ht⟩ := h
  exact ⟨ws, fun w hw => hPQ _ (hws w hw), ht⟩

theorem writes_setVal (h : P f) : s.Writes P (setVal f v s) :=
  ⟨[(f, v)], fun w hw => by rw [List.mem_singleton.1 hw]; exact h, rfl⟩

theorem writes_foldl {α : Type} {g : State → α → State} {l : List α} (h : ∀ x, x ∈ l → ∀ s, State.Writes P s (g s x)) :
    s.Writes P (l.foldl g s) := by
  induction l generalizing s with
  | nil => exact writes_refl
  | cons x l ih => exact (h x List.mem_cons_self s).trans (ih fun y hy => h y (List.mem_cons_of_mem _ hy))

theorem writes_forChannels {g : Nat → State → State} (h : ∀ c s, State.Writes P s (g c s)) : s.Writes P (forChannels g s) :=
  writes_foldl fun c _ s => h c s

theorem writes_ite {p : Prop} [Decidable p] (ht : s.Writes P t) (hu : s.Writes P u) : s.Writes P (if p then t else u) := by
  split <;> assumption

theorem writes_foldIf {b : Bool} {g : State → State} (h : b = true → s.Writes P (g s)) : s.Writes P (foldIf b g s) := by
  cases b
  · exact writes_refl
  · exact h rfl

/-! ## What it leaves -/

theorem writes_keeps (h : s.Writes P t) : s.Keeps t := by
  obtain ⟨ws, -, ht⟩ := h
  exact (keeps_setVals ws).of_store ht

theorem writes_groups (h : s.Writes P t) : t.store.groups = s.store.groups := by
  obtain ⟨ws, -, ht⟩ := h
  rw [ht, setVals_groups]

theorem writes_queue (h : s.Writes P t) : t.store.queue = s.store.queue := by
  obtain ⟨ws, -, ht⟩ := h
  rw [ht, setVals_queue]

theorem recordsKept_trans (h : s.recordsKept t) (h' : t.recordsKept u) : s.recordsKept u := fun k i =>
  have ⟨hlive, hgen, htext⟩ := h k i
  have ⟨hlive', hgen', htext'⟩ := h' k i
  ⟨hlive'.trans hlive, hgen'.trans hgen, htext'.trans htext⟩

theorem recordsKept_of_store (h : t.store = s.store) : s.recordsKept t := fun k i => by
  simp only [State.isLive, State.recAt, h, and_self]

theorem recordsKept_setVals (ws : List (FieldId × Int)) : s.recordsKept (setVals ws s) := by
  induction ws generalizing s with
  | nil => exact recordsKept_of_store rfl
  | cons w ws ih => exact recordsKept_trans (recordsKept_setVal w.1 w.2) ih

theorem writes_recordsKept (h : s.Writes P t) : s.recordsKept t := by
  obtain ⟨ws, -, ht⟩ := h
  exact recordsKept_trans (recordsKept_setVals ws) (recordsKept_of_store ht)

/-- A field that is none of those written reads as before; TIMEBASE.STATE is the sweep controller's (log 28). -/
theorem writes_get (h : s.Writes P t) (hg : ¬ P g) (hs : g ≠ Fld.tbState) : t.get g = s.get g := by
  obtain ⟨ws, hws, ht⟩ := h
  rw [get_of_store ht hs, get_setVals_other fun hmem => hg ?_]
  obtain ⟨w, hw, rfl⟩ := List.mem_map.1 hmem
  exact hws w hw

/-! ## The owners (R26) -/

theorem writes_raiseIf (b : Bool) (n : Source) : s.Writes P (raiseIf b n s) := writes_of_store (raiseIf_store b n)

theorem writes_rescale (w : List FieldId) (c : Nat) : s.Writes (fun f => f.kind = .channel ∧ f.num = 22) (rescale w c s) :=
  writes_foldIf fun _ => writes_setVal ⟨rfl, rfl⟩

theorem writes_levelRecompute :
    s.Writes (fun f => f = Fld.trLevelCode ∨ f = Fld.trLevelClipped) (levelRecompute s) :=
  ((writes_setVal (.inl rfl)).trans (writes_setVal (.inr rfl))).trans (writes_raiseIf ..)

theorem writes_trackingOff : s.Writes (· = Fld.trAlHolding) (trackingOff s) :=
  State.Writes.of_store (t := setVal Fld.trAlHolding 0 s) (writes_setVal rfl) rfl

theorem writes_autoLevelAfter (b : State) (e : Bool) :
    s.Writes (fun f => f = Fld.trAlHolding ∨ f = Fld.trAutoLevel) (autoLevelAfter b e s) := by
  have hoff (u : State) : u.Writes (fun f => f = Fld.trAlHolding ∨ f = Fld.trAutoLevel) (trackingOff u) :=
    writes_trackingOff.mono fun _ => .inl
  unfold autoLevelAfter
  exact writes_ite (((writes_raiseIf ..).trans (writes_setVal (.inr rfl))).trans (hoff _))
    (writes_ite (hoff _) (writes_ite (writes_of_store rfl) writes_refl))

theorem writes_clearStats (i : Nat) : s.Writes (· ∈ clearedFields i) (clearStats i s) :=
  ⟨(clearedFields i).map (·, 0), fun w hw => by obtain ⟨f, hf, rfl⟩ := List.mem_map.1 hw; exact hf, rfl⟩

/-- A field that a clearing of statistics writes (R109). -/
def FieldId.cleared (f : FieldId) : Prop := f.kind = .measurement ∧ 10 ≤ f.num ∧ f.num ≠ 14

theorem cleared_of_mem (h : f ∈ clearedFields i) : f.cleared := by
  obtain ⟨hk, -, hn, hn'⟩ := clearedFields_place h
  exact ⟨hk, hn, hn'⟩

theorem writes_clearAllStats : s.Writes FieldId.cleared (clearAllStats s) :=
  State.Writes.of_store (t := clearEach (s.liveOf .measurement) s)
    (writes_foldl fun _ _ _ => (writes_clearStats _).mono fun _ => cleared_of_mem) rfl

/-- A field that a definition change of one measurement writes (R91). -/
def FieldId.redefined (i : Nat) (f : FieldId) : Prop := f.kind = .measurement ∧ f.inst = i ∧ 8 ≤ f.num

theorem writes_definitionChange (i : Nat) : s.Writes (FieldId.redefined i) (definitionChange i s) := by
  have hclear : s.Writes (FieldId.redefined i) (clearStats i s) := (writes_clearStats i).mono fun f hf => by
    obtain ⟨hk, hi, hn, -⟩ := clearedFields_place hf
    exact ⟨hk, hi, by omega⟩
  refine State.Writes.of_store
    (t := setVal (Fld.meStatus i) (mstatusCode .notYet) (setVal (Fld.meOutcome i) 0 (clearStats i s))) ?_ rfl
  exact (hclear.trans (writes_setVal ⟨rfl, rfl, (by decide : 8 ≤ 14)⟩)).trans
    (writes_setVal ⟨rfl, rfl, (by decide : 8 ≤ 8)⟩)

/-- The owners write fields alone. -/
theorem writes_consequences (b : State) (w : List FieldId) (es : List Entry) (l : List Nat) :
    s.Writes (fun _ => True) (consequences b w es l s) := by
  have any {P : FieldId → Prop} {s t : State} (h : s.Writes P t) : s.Writes (fun _ => True) t := h.mono fun _ _ => trivial
  unfold consequences
  refine State.Writes.trans ?_ (writes_foldIf fun _ => writes_of_store (sweepModeWritten_store b))
  refine State.Writes.trans ?_ (writes_foldl fun _ _ _ => writes_foldIf fun _ => any (writes_definitionChange _))
  refine State.Writes.trans ?_ (writes_of_store (disarmIfChanged_store b))
  refine State.Writes.trans ?_ (any (writes_autoLevelAfter ..))
  refine State.Writes.trans ?_ (writes_foldIf fun _ => any writes_levelRecompute)
  refine State.Writes.trans ?_ (writes_foldIf fun _ => any writes_clearAllStats)
  refine State.Writes.trans ?_ (writes_forChannels fun _ _ => writes_foldIf fun _ => writes_of_store rfl)
  refine State.Writes.trans ?_ (writes_of_store feStart_store)
  refine State.Writes.trans ?_ (writes_forChannels fun _ _ => writes_foldIf fun _ => writes_of_store (feUpdate_store _))
  exact (writes_forChannels fun _ _ => any (writes_rescale ..)).trans (writes_foldIf fun _ => writes_setVal trivial)

/-! ## Re-clamps (R25) -/

theorem writes_reclampMeasurement (i : Nat) : s.Writes (fun _ => True) (reclampMeasurement i s) :=
  (writes_setVal trivial).trans (writes_ite (writes_setVal trivial) writes_refl)

theorem writes_readoutAgree (o : Nat) : s.Writes (fun _ => True) (readoutAgree o s) := by
  unfold readoutAgree
  refine writes_ite ?_ writes_refl
  exact ((writes_foldIf fun _ => writes_setVal trivial).trans (writes_foldIf fun _ => writes_setVal trivial)).trans
    (writes_raiseIf ..)

theorem writes_reclamps (es : List Entry) (w : List FieldId) : s.Writes (fun _ => True) (reclamps es w s) := by
  unfold reclamps
  refine State.Writes.trans ?_ (writes_foldl fun _ _ _ => writes_foldIf fun _ => writes_readoutAgree _)
  refine State.Writes.trans ?_ (writes_foldl fun _ _ _ => writes_foldIf fun _ => writes_reclampMeasurement _)
  refine State.Writes.trans ?_ (writes_foldl fun _ _ _ => writes_foldIf fun _ => writes_setVal trivial)
  exact (writes_forChannels fun _ _ => writes_foldIf fun _ => writes_setVal trivial).trans
    (writes_foldIf fun _ => writes_setVal trivial)

/-! ## Clean-ups of a retirement (R15) -/

theorem writes_voidBinds (h : Int) (o : Nat) :
    s.Writes (fun f => f = Fld.obBind o ∨ f = Fld.obBind2 o) (voidBinds h o s) := by
  unfold voidBinds
  exact ((writes_foldIf fun _ => writes_setVal (.inl rfl)).trans (writes_foldIf fun _ => writes_setVal (.inr rfl))).trans
    (writes_raiseIf ..)

theorem writes_dropBinding (k : Kind) (i b : Nat) :
    s.Writes (fun f => f = Fld.biKind b ∨ f = Fld.biTarget b) (dropBinding k i b s) := by
  unfold dropBinding
  refine writes_ite (State.Writes.of_store (t := setVal (Fld.biKind b) 1 (setVal (Fld.biTarget b) noRef s)) ?_ ?_) writes_refl
  · exact (writes_setVal (.inr rfl)).trans (writes_setVal (.inl rfl))
  · exact setCarry_store ..

theorem writes_dropLamp (k : Kind) (i l : Nat) :
    s.Writes (fun f => f = Fld.laSource l ∨ f = Fld.laField l) (dropLamp k i l s) := by
  unfold dropLamp
  refine writes_ite (State.Writes.of_store (t := foldIf _ (setVal (Fld.laSource l) 0) (setVal (Fld.laField l) noRef s)) ?_ rfl)
    writes_refl
  exact (writes_setVal (.inr rfl)).trans (writes_foldIf fun _ => writes_setVal (.inl rfl))

/-- A field that the clean-up of a measurement's gate writes (R15, R91). -/
def FieldId.ungated (m : Nat) (f : FieldId) : Prop :=
  f.kind = .measurement ∧ f.inst = m ∧ (2 ≤ f.num ∧ f.num ≤ 4 ∨ 8 ≤ f.num)

theorem writes_dropGate (h : Int) (m : Nat) : s.Writes (FieldId.ungated m) (dropGate h m s) := by
  have hgate (n : Nat) (hn : 2 ≤ n ∧ n ≤ 4) : FieldId.ungated m ⟨.measurement, m, n⟩ := ⟨rfl, rfl, .inl hn⟩
  unfold dropGate
  refine writes_ite (State.Writes.trans ?_ ((writes_definitionChange m).mono ?_)) writes_refl
  · exact ((writes_foldIf fun _ => writes_setVal (hgate 3 (by decide))).trans
      (writes_foldIf fun _ => writes_setVal (hgate 4 (by decide)))).trans
      (writes_foldIf fun _ => writes_setVal (hgate 2 (by decide)))
  · exact fun f ⟨hk, hi, hn⟩ => ⟨hk, hi, .inr hn⟩

end Sys2Proof.Machine
end

section
/-! SUPPORT. The commands of the change groups (R16, R18). -/

namespace Sys2Proof.Machine

variable {s : State} {g : Byte}

/-- GROUP_OPEN by its checks (R16). -/
theorem exec_groupOpen (ht : s.takes (.groupOpen g) = true) :
    exec (.groupOpen g) s = .next (if 3 ≤ g.toNat then s.answer .badValue [] .none
      else if s.holdingGroup.isSome ∨ (s.store.group g.toNat).state ≠ .empty then s.answer .groupBusy [] .none
      else (setGroup g.toNat { state := .holding, entries := [], reserved := 0 } s).answer .ok [] .none) := by
  rw [exec, execGroupOpen, takeCommand_takes ht]
  split_ifs <;> rfl

/-- GROUP_DISCARD by the group's number and state (R18). -/
theorem exec_groupDiscard (ht : s.takes (.groupDiscard g) = true) :
    exec (.groupDiscard g) s = .next (if 3 ≤ g.toNat then s.answer .badValue [] .none
      else match (s.store.group g.toNat).state with
        | .holding => (oweRetry (setGroup g.toNat Group.reset s)).answer .ok [] .none
        | .launched => s.answer .wrongState [] .none
        | .empty => s.answer .ok [] .none) := by
  rw [exec, execGroupDiscard, takeCommand_takes ht]
  split_ifs
  · rfl
  · cases (s.store.group g.toNat).state <;> rfl

/-- The eleven bytes of GROUP_STATUS (R18, R189). -/
theorem groupStatusData_eq (s : State) : groupStatusData s =
    [BitVec.ofInt 8 (groupStateCode (s.store.group 0).state), BitVec.ofNat 8 (s.groupCount 0),
      BitVec.ofInt 8 (groupStateCode (s.store.group 1).state), BitVec.ofNat 8 (s.groupCount 1),
      BitVec.ofInt 8 (groupStateCode (s.store.group 2).state), BitVec.ofNat 8 (s.groupCount 2),
      BitVec.ofInt 8 (groupStateCode (s.store.group 3).state), BitVec.ofNat 8 (s.groupCount 3),
      BitVec.ofNat 8 s.poolFree, BitVec.ofNat 8 s.store.queue.length, BitVec.ofNat 8 s.store.dropped] := by
  simp [groupStatusData, beBytes_one]

/-- The state and the count of a group as GROUP_STATUS gives them (R18). -/
theorem groupStatusData_group {n : Nat} (hn : n < 4) :
    (groupStatusData s)[2 * n]? = some (BitVec.ofInt 8 (groupStateCode (s.store.group n).state))
    ∧ (groupStatusData s)[2 * n + 1]? = some (BitVec.ofNat 8 (s.groupCount n)) := by
  rw [groupStatusData_eq]
  interval_cases n <;> exact ⟨rfl, rfl⟩

theorem groupCount_empty {n : Nat} (h : (s.store.group n).state = .empty) : s.groupCount n = 0 := by
  simp only [State.groupCount, h]

theorem groupCount_holding {n : Nat} (h : (s.store.group n).state = .holding) :
    s.groupCount n = (s.store.group n).entries.length + (s.store.group n).reserved := by
  simp only [State.groupCount, h]

theorem groupCount_launched {n : Nat} {c : Change} (h : (s.store.group n).state = .launched)
    (hc : (s.store.queue.filter fun x => x.origin == if n = 3 then Origin.recall else Origin.group n) = [c]) :
    s.groupCount n = c.entries.length := by
  simp only [State.groupCount, h, hc]
  simp

end Sys2Proof.Machine

/-! ## The statement -/

open Sys2Proof Sys2Proof.Machine

/-- Settles O23: each command by the branch its hypotheses choose; GROUP_STATUS by its eleven bytes. -/
theorem groupsOpenedAndDiscarded : Obligations.GroupsOpenedAndDiscarded := by
  refine ⟨fun s g ht => ?_, fun s g ht => ?_, fun s ht => ⟨groupStatusData s, ?_, ?_, ?_, fun n hn => ?_⟩⟩
  · rw [exec_groupOpen ht]
    refine ⟨fun hg hn he => ?_, fun hg hbusy => ?_, fun hg => by rw [if_pos hg]⟩
    · rw [if_neg (by omega), if_neg (by simp [hn, he])]
    · rw [if_neg (by omega), if_pos (hbusy.imp_left Option.isSome_iff_ne_none.2)]
  · rw [exec_groupDiscard ht]
    refine ⟨fun hg => by rw [if_pos hg], fun hg he => ?_, fun hg he => ?_, fun hg he => ?_⟩ <;> rw [if_neg (by omega), he]
  · rw [exec, execGroupStatus, takeCommand_takes ht]
    rfl
  · rw [groupStatusData_eq]
    rfl
  · rw [groupStatusData_eq]
    rfl
  · obtain ⟨hstate, hcount⟩ := groupStatusData_group (s := s) hn
    refine ⟨hstate, fun h => ?_, fun h => ?_, fun c h hc => ?_⟩
    · rw [hcount, groupCount_empty h]
      rfl
    · rw [hcount, groupCount_holding h]
    · rw [hcount, groupCount_launched h hc]
end

section
/-! SUPPORT. The launch queue (R20, R22, R23) and what the application of a change leaves in it (R24); GROUP_LAUNCH (R17). -/

namespace Sys2Proof.Machine

variable {s t u : State} {g : Byte} {c : Change} {o : Origin} {es : List Entry} {q : List Change}

/-! ## A change applied (R24) -/

/-- Entries written move records and the count of those dropped, but neither the groups nor the queue (R25). -/
theorem applyEntries_ledger (r : Bool) (es : List Entry) (acc : State × List FieldId) :
    (es.foldl (applyEntry r) acc).1.store.groups = acc.1.store.groups
    ∧ (es.foldl (applyEntry r) acc).1.store.queue = acc.1.store.queue := by
  induction es generalizing acc with
  | nil => exact ⟨rfl, rfl⟩
  | cons e es ih =>
    obtain ⟨hgroups, hqueue⟩ := ih (applyEntry r acc e)
    have hstep : (applyEntry r acc e).1.store.groups = acc.1.store.groups
        ∧ (applyEntry r acc e).1.store.queue = acc.1.store.queue := by
      unfold applyEntry
      split
      · exact ⟨setTable_groups .., setTable_queue ..⟩
      · split
        · exact ⟨setTable_groups .., setTable_queue ..⟩
        · exact ⟨rfl, rfl⟩
    exact ⟨hgroups.trans hstep.1, hqueue.trans hstep.2⟩

/-- What a change that is no recall does to the records and the owners (R24 to R26). -/
def plainChange (es : List Entry) (before : State) : State :=
  let written := es.foldl (applyEntry false) (before, [])
  let s := reclamps es written.2 written.1
  consequences before written.2 es
    ((List.range 8).filter fun i => decide (written.1.get (Fld.meGate i) ≠ s.get (Fld.meGate i))) s

theorem applyChange_plain (hc : c.origin ≠ .recall) :
    applyChange c s = oweRetry (emptyOrigin c.origin (plainChange (inFieldOrder c.entries) s)) := by
  unfold applyChange
  rw [beq_eq_false_iff_ne.2 hc]
  rfl

theorem plainChange_ledger (es : List Entry) : (plainChange es s).store.groups = s.store.groups
    ∧ (plainChange es s).store.queue = s.store.queue := by
  obtain ⟨hgroups, hqueue⟩ := applyEntries_ledger false es (s, [])
  have hrest : (es.foldl (applyEntry false) (s, [])).1.Writes (fun _ => True) (plainChange es s) :=
    (writes_reclamps ..).trans (writes_consequences ..)
  exact ⟨(writes_groups hrest).trans hgroups, (writes_queue hrest).trans hqueue⟩

theorem emptyOrigin_groups (o : Origin) (h : t.store.groups = s.store.groups) :
    (emptyOrigin o t).store.groups = (emptyOrigin o s).store.groups := by
  cases o <;> simp [emptyOrigin, setGroup, h]

theorem emptyOrigin_queue (o : Origin) : (emptyOrigin o s).store.queue = s.store.queue := by cases o <;> rfl

/-- A change that is no recall leaves the queue, and of the groups empties the one it came from (R24). -/
theorem applyChange_ledger (hc : c.origin ≠ .recall) :
    (applyChange c s).store.groups = (emptyOrigin c.origin s).store.groups
    ∧ (applyChange c s).store.queue = s.store.queue := by
  obtain ⟨hgroups, hqueue⟩ := plainChange_ledger (s := s) (inFieldOrder c.entries)
  rw [applyChange_plain hc]
  exact ⟨emptyOrigin_groups _ hgroups, (emptyOrigin_queue _).trans hqueue⟩

/-- The group that a change came from is EMPTY after it (R24). -/
theorem group_set_reset (l : List Group) (n : Nat) : (l.set n Group.reset).getD n Group.reset = Group.reset := by
  rw [List.getD_eq_getElem?_getD, List.getElem?_set_self']
  cases l[n]? <;> rfl

/-! ## The examination of the queue (R23) -/

/-- Nothing is ready where no change is released. -/
theorem pickReady_unreleased (earlier : List FieldId) (h : ∀ c, c ∈ q → c.released = false) : pickReady earlier q = none := by
  induction q generalizing earlier with
  | nil => rfl
  | cons c q ih =>
    rw [pickReady, if_neg (by simp [h c List.mem_cons_self]), ih _ fun d hd => h d (List.mem_cons_of_mem _ hd)]
    rfl

theorem examine_unreleased (h : ∀ c, c ∈ s.store.queue → c.released = false) : examine s = s := by
  unfold examine
  cases s.store.queue.length with
  | zero => rfl
  | succ n =>
    rw [drain, pickReady_unreleased [] h]

/-- A released change alone in the queue applies, whole (R23). -/
theorem examine_single (h : c.released = true) : examine (setQueue [c] s) = applyChange c (setQueue [] s) := by
  have hpick : pickReady [] [c] = some (c, []) := by
    rw [pickReady, if_pos (by simp [h])]
  change drain 1 (setQueue [c] s) = _
  rw [drain]
  change (match pickReady [] [c] with
    | none => setQueue [c] s
    | some (c, rest) => drain 0 (applyChange c (setQueue rest (setQueue [c] s)))) = _
  rw [hpick]
  rfl

/-! ## A change joins the queue (R20, R22) -/

theorem joinQueue_of_restart (h : anyClass .restart es = true) : joinQueue o es s
    = restartEvent (setQueue (s.store.queue ++ [{ origin := o, entries := es, released := false }]) s) := by
  simp only [joinQueue, Change.cls, if_pos h]

/-- A SWEEP change in CAPTURING waits (R22). -/
theorem joinQueue_waits (h : anyClass .restart es = false) (hw : anyClass .sweep es = true) (ha : s.sweep.acq = .capturing) :
    joinQueue o es s = examine (setQueue (s.store.queue ++ [{ origin := o, entries := es, released := false }]) s) := by
  simp only [joinQueue, Change.cls, h, hw, Bool.false_eq_true, if_false, if_true, ha, ne_eq, not_true_eq_false,
    decide_false]

/-- Any other change is released as it joins (R22). -/
theorem joinQueue_released (h : anyClass .restart es = false) (hw : anyClass .sweep es = false ∨ s.sweep.acq ≠ .capturing) :
    joinQueue o es s = examine (setQueue (s.store.queue ++ [{ origin := o, entries := es, released := true }]) s) := by
  cases hs : anyClass .sweep es with
  | false => simp only [joinQueue, Change.cls, h, hs, Bool.false_eq_true, if_false]
  | true =>
    obtain hw | hw := hw
    · rw [hs] at hw
      cases hw
    · simp only [joinQueue, Change.cls, h, hs, Bool.false_eq_true, if_false, if_true, ne_eq, hw, not_false_eq_true,
        decide_true]

/-- With an empty queue such a change applies at once (R23). -/
theorem joinQueue_alone (hq : s.store.queue = []) (h : anyClass .restart es = false)
    (hw : anyClass .sweep es = false ∨ s.sweep.acq ≠ .capturing) :
    joinQueue o es s = applyChange { origin := o, entries := es, released := true } (setQueue [] s) := by
  rw [joinQueue_released h hw, hq, List.nil_append, examine_single rfl]

/-! ## GROUP_LAUNCH (R17) -/

theorem exec_groupLaunch (ht : s.takes (.groupLaunch g) = true) :
    exec (.groupLaunch g) s = .next (if 3 ≤ g.toNat then s.answer .badValue [] .none
      else if (s.store.group g.toNat).state ≠ .holding then s.answer .wrongState [] .none
      else if (s.store.group g.toNat).entries = [] then (setGroup g.toNat Group.reset s).answer .ok [] .none
      else if 16 ≤ s.store.queue.length then s.answer .queueFull [] .none
      else (joinQueue (.group g.toNat) (s.store.group g.toNat).entries
        (setGroup g.toNat { state := .launched, entries := [], reserved := 0 } s)).answer .ok [] .none) := by
  rw [exec, execGroupLaunch, takeCommand_takes ht]
  unfold launchGroup
  simp only [List.isEmpty_iff]
  split_ifs <;> rfl

end Sys2Proof.Machine

/-! ## The statement -/

open Sys2Proof Sys2Proof.Machine

/-- Settles O24: the checks in order; the change by its class; with an empty queue it applies alone and empties its group. -/
theorem groupLaunchMakesChange : Obligations.GroupLaunchMakesChange := by
  rintro s g es u ht rfl rfl
  rw [exec_groupLaunch ht]
  refine ⟨fun hg => by rw [if_pos hg], fun hg hh => ?_, fun hg hh he => ?_, fun hg hh he hq => ?_, fun hg hh he hq => ?_⟩
  · rw [if_neg (by omega), if_pos hh]
  · rw [if_neg (by omega), if_neg (not_not.2 hh), if_pos he]
  · rw [if_neg (by omega), if_neg (not_not.2 hh), if_neg he, if_pos hq]
  rw [if_neg (by omega), if_neg (not_not.2 hh), if_neg he, if_neg (by omega)]
  refine ⟨restKept_of_shell (shell_joinQueue _ _), rfl, fun hr hw ha hqueue => ?_, fun hr hw hqueue => ?_, fun hr => ?_⟩
  · rw [joinQueue_waits (s := setGroup _ _ s) hr hw ha, examine_unreleased]
    · rfl
    · intro c hc
      obtain hc | hc := List.mem_append.1 hc
      · exact hqueue c hc
      · rw [List.mem_singleton.1 hc]
  · rw [joinQueue_alone (s := setGroup _ _ s) hqueue hr hw]
    obtain ⟨hgroups, hleft⟩ := applyChange_ledger
      (c := { origin := .group g.toNat, entries := (s.store.group g.toNat).entries, released := true })
      (s := setQueue [] (setGroup g.toNat { state := .launched, entries := [], reserved := 0 } s)) nofun
    refine ⟨rfl, ?_, hleft⟩
    rw [Store.group, hgroups]
    exact congrArg Group.state (group_set_reset _ _)
  · rw [joinQueue_of_restart hr]
    rfl
end

section
/-! SUPPORT. CREATE (R12): the lowest free record, and the record made. -/

namespace Sys2Proof.Machine

variable {s : State} {k k' : Kind} {i j n : Nat} {kb ob : Byte}

/-! ## The free record -/

theorem freeInstance_some (hi : i < kindSize k) (hfree : s.isLive k i = false) (hlow : ∀ j, j < i → s.isLive k j = true) :
    s.freeInstance k = some i := by
  rw [State.freeInstance, List.find?_range_eq_some]
  exact ⟨by simp [hfree], List.mem_range.2 hi, fun j hj => by simp [hlow j hj]⟩

theorem freeInstance_none (h : ∀ j, j < kindSize k → s.isLive k j = true) : s.freeInstance k = none := by
  rw [State.freeInstance, List.find?_eq_none]
  exact fun j hj => by simp [h j (List.mem_range.1 hj)]

/-! ## The record -/

/-- A record as CREATE makes it, an object with its kind (R12). -/
def makeRec (k : Kind) (i : Nat) (ob : Int) (s : State) : State :=
  foldIf (k == .object) (setVal (Fld.obKind i) ob) (createRec k i s)

theorem recAt_createRec : (createRec k i s).recAt k' j =
    if k' = k ∧ j = i ∧ i < (s.store.table k).length then
      { live := true, gen := (s.recAt k i).gen, vals := defaultVals k i, text := [] } else s.recAt k' j := by
  rw [← recAt_modRec (h := fun r => { live := true, gen := r.gen, vals := defaultVals k i, text := [] })]
  unfold createRec
  dsimp only
  split <;> rfl

/-- The record made, with what its kind's field 0 shows. -/
theorem recAt_makeRec_same (ob : Int) (hi : i < (s.store.table k).length) :
    (makeRec k i ob s).recAt k i = {
      live := true
      gen := (s.recAt k i).gen
      vals := if k = .object then (defaultVals k i).set 0 ob else defaultVals k i
      text := [] } := by
  have hmade : (createRec k i s).recAt k i
      = { live := true, gen := (s.recAt k i).gen, vals := defaultVals k i, text := [] } := by
    rw [recAt_createRec, if_pos ⟨rfl, rfl, hi⟩]
  unfold makeRec
  cases hk : k == .object with
  | false => rw [if_neg (by simpa using hk)]; exact hmade
  | true =>
    obtain rfl : k = .object := by simpa using hk
    have hlen : i < ((createRec .object i s).store.table .object).length := lt_of_isLive (by rw [State.isLive, hmade])
    rw [if_pos rfl]
    change (setVal (Fld.obKind i) ob (createRec .object i s)).recAt .object i = _
    rw [setVal, recAt_modRec, if_pos ⟨rfl, rfl, hlen⟩]
    change ({ (createRec .object i s).recAt .object i with
      vals := ((createRec .object i s).recAt .object i).vals.set 0 ob } : Rec) = _
    rw [hmade]

/-- No other record moves. -/
theorem recAt_makeRec_other (ob : Int) (h : ¬ (k' = k ∧ j = i)) : (makeRec k i ob s).recAt k' j = s.recAt k' j := by
  have hmade : (createRec k i s).recAt k' j = s.recAt k' j := by
    rw [recAt_createRec, if_neg fun hx => h ⟨hx.1, hx.2.1⟩]
  unfold makeRec
  cases hk : k == .object with
  | false => exact hmade
  | true =>
    obtain rfl : k = .object := by simpa using hk
    change (setVal (Fld.obKind i) ob (createRec .object i s)).recAt k' j = _
    rw [setVal, recAt_modRec, if_neg fun hx => h ⟨hx.1, hx.2.1⟩]
    exact hmade

/-- The groups, the queue and the other blocks stay; of the measurements only a made one's stamp and sums move (R91, R108). -/
theorem makeRec_frame (ob : Int) :
    (makeRec k i ob s).store.groups = s.store.groups ∧ (makeRec k i ob s).store.queue = s.store.queue
    ∧ (makeRec k i ob s).meas.pass = s.meas.pass ∧ (makeRec k i ob s).sweep = s.sweep ∧ (makeRec k i ob s).comb = s.comb
    ∧ (makeRec k i ob s).path = s.path ∧ (makeRec k i ob s).trig = s.trig ∧ (makeRec k i ob s).panel = s.panel
    ∧ (makeRec k i ob s).notices = s.notices ∧ (makeRec k i ob s).shell = s.shell := by
  cases k <;> exact ⟨rfl, rfl, rfl, rfl, rfl, rfl, rfl, rfl, rfl, rfl⟩

/-! ## The command -/

theorem exec_create_badValue (ht : s.takes (.create kb ob) = true)
    (h : ∀ k, kindOf kb.toNat = some k → kindCreated k = false ∨ (k = .object ∧ 7 ≤ ob.toNat)) :
    exec (.create kb ob) s = .next (s.answer .badValue [] .none) := by
  rw [exec, execCreate, takeCommand_takes ht]
  cases hk : kindOf kb.toNat with
  | none => rfl
  | some k =>
    dsimp only
    rw [if_pos (h k hk)]
    rfl

/-- A kind that CREATE makes: the lowest free record, or TABLE_FULL (R12). -/
theorem exec_create_made (ht : s.takes (.create kb ob) = true) (hk : kindOf kb.toNat = some k) (hc : kindCreated k = true)
    (ho : k = .object → ob.toNat < 7) :
    (s.freeInstance k = none → exec (.create kb ob) s = .next (s.answer .tableFull [] .none))
    ∧ (s.freeInstance k = some i → exec (.create kb ob) s =
      .next ((makeRec k i ob.toNat s).answer .ok (beBytes 2 (handleCode k i (s.recAt k i).gen)) .none)) := by
  have hok : ¬ (kindCreated k = false ∨ (k = .object ∧ 7 ≤ ob.toNat)) := by
    rintro (h | ⟨rfl, h⟩)
    · rw [hc] at h
      cases h
    · exact absurd (ho rfl) (by omega)
  rw [exec, execCreate, takeCommand_takes ht, hk]
  dsimp only
  rw [if_neg hok]
  refine ⟨fun h => ?_, fun h => ?_⟩ <;> rw [h] <;> rfl

end Sys2Proof.Machine

/-! ## The statement -/

open Sys2Proof Sys2Proof.Machine

/-- Settles O21: the record made, every other one unmoved, and the two refusals. -/
theorem createMakesLowestFree : Obligations.CreateMakesLowestFree := by
  refine ⟨fun s kb ob k i ht htab hk hc ho hi hfree hlow => ?_, fun s kb ob k ht hk hc ho hfull =>
    (exec_create_made (i := 0) ht hk hc ho).1 (freeInstance_none hfull), fun s kb ob ht h => exec_create_badValue ht h⟩
  have hlen : i < (s.store.table k).length := (tableKept_iff.1 htab k).1 ▸ hi
  have hmade := recAt_makeRec_same ob.toNat hlen
  have hgen : ((makeRec k i ob.toNat s).recAt k i).gen = (s.recAt k i).gen := by rw [hmade]
  have hget (n : Nat) : (makeRec k i ob.toNat s).get ⟨k, i, n⟩
      = (if k = .object then (defaultVals k i).set 0 ob.toNat else defaultVals k i).getD n 0 := by
    have hstate : (⟨k, i, n⟩ : FieldId) ≠ Fld.tbState := by
      intro h
      rw [show k = Kind.timebase from congrArg FieldId.kind h] at hc
      cases hc
    rw [State.get, if_neg hstate]
    exact congrArg (fun r : Rec => r.vals.getD n 0) hmade
  obtain ⟨hgroups, hqueue, hpass, hsweep, hcomb, hpath, htrig, hpanel, hnotices, hshell⟩ :=
    makeRec_frame (s := s) (k := k) (i := i) ob.toNat
  refine ⟨_, (exec_create_made ht hk hc ho).2 (freeInstance_some hi hfree hlow), congrArg Rec.live hmade,
    hgen, congrArg Rec.text hmade, fun n hn => (hget n).trans ?_, ?_, ⟨rfl, rfl⟩,
    fun k' j h => recAt_makeRec_other _ h, hgroups, hqueue, hpass, hsweep, hcomb, hpath, htrig, hpanel, hnotices,
    restKept_answer hshell⟩
  · split
    · next hobj =>
      have hn : n ≠ 0 := hn.resolve_right (not_not.2 hobj)
      rw [List.getD_eq_getElem?_getD, List.getElem?_set_ne hn.symm, List.getD_eq_getElem?_getD]
    · rfl
  · rintro rfl
    exact (hget 0).trans rfl
end

section
/-! SUPPORT. A retirement's clean-up, part by part (R13 to R15): each part takes its records in turn, and a turn writes fields
of its own record alone, from the values that record has. -/

namespace Sys2Proof.Machine

variable {s u : State} {k : Kind} {i b l m o x : Nat} {h v : Int} {f g : FieldId}

/-! ## Turns -/

/-- Turns that write each their own record's fields: a field of one record stands until its turn as it stood, and after it
as the turn left it. -/
theorem get_foldl_turn {r : State → Nat → State} {l : List Nat} (hw : ∀ u x, State.Writes (fun f => f.inst = x) u (r u x))
    (hnd : l.Nodup) (hx : x ∈ l) (ht : s.tableKept = true) :
    ∃ u, u.tableKept = true ∧ ∀ f : FieldId, f.inst = x → f ≠ Fld.tbState →
      u.get f = s.get f ∧ (l.foldl r s).get f = (r u x).get f := by
  obtain ⟨a, b, rfl⟩ := List.append_of_mem hx
  obtain ⟨hxab, -⟩ : x ∉ a ++ b ∧ _ := List.nodup_cons.1 (List.nodup_middle.1 hnd)
  have hrest (l : List Nat) (u : State) : u.Writes (fun f => f.inst ∈ l) (l.foldl r u) :=
    writes_foldl fun y hy u => (hw u y).mono fun f hf => by rw [hf]; exact hy
  have hout (l : List Nat) (hl : x ∉ l) (u : State) (f : FieldId) (hf : f.inst = x) (hs : f ≠ Fld.tbState) :
      (l.foldl r u).get f = u.get f := writes_get (hrest l u) (by rw [hf]; exact hl) hs
  refine ⟨a.foldl r s, (writes_keeps (hrest a s)).table ht, fun f hf hs => ⟨?_, ?_⟩⟩
  · exact hout a (fun hm => hxab (List.mem_append_left b hm)) s f hf hs
  · rw [List.foldl_append, List.foldl_cons]
    exact hout b (fun hm => hxab (List.mem_append_right a hm)) _ f hf hs

theorem get_field_of_store {n : Nat} (h : u.store = s.store) (hk : k ≠ .timebase) : u.get ⟨k, i, n⟩ = s.get ⟨k, i, n⟩ :=
  get_of_store h fun hf => hk (congrArg FieldId.kind hf)

theorem stored_field {n : Nat} (hi : i < kindSize k) (hn : n < (specsOf k).length) (hk : k ≠ .timebase) :
    FieldId.stored ⟨k, i, n⟩ = true :=
  decide_eq_true ⟨hi, hn, fun h => hk (congrArg FieldId.kind h)⟩

theorem get_foldIf_same {c : Bool} (ht : s.tableKept = true) (hf : f.stored = true) :
    (foldIf c (setVal f v) s).get f = if c then v else s.get f := by
  cases c
  · rfl
  · exact get_setVal_kept ht hf

theorem get_foldIf_other {c : Bool} (hg : g ≠ f) : (foldIf c (setVal f v) s).get g = s.get g := by
  cases c
  · rfl
  · exact get_setVal_other hg

theorem tableKept_foldIf {c : Bool} (ht : s.tableKept = true) : (foldIf c (setVal f v) s).tableKept = true :=
  (keeps_foldIf (keeps_setVal f v)).table ht

/-! ## Readouts -/

theorem get_voidBinds (ht : s.tableKept = true) (ho : o < 64) :
    (voidBinds h o s).get (Fld.obBind o) = (if s.get (Fld.obBind o) = h then -1 else s.get (Fld.obBind o))
    ∧ (voidBinds h o s).get (Fld.obBind2 o) = (if s.get (Fld.obBind2 o) = h then -1 else s.get (Fld.obBind2 o)) := by
  have hbind : (Fld.obBind o).stored = true := stored_field ho (by decide) (by decide)
  have hbind2 : (Fld.obBind2 o).stored = true := stored_field ho (by decide) (by decide)
  have hne : Fld.obBind o ≠ Fld.obBind2 o := by simp
  unfold voidBinds
  dsimp only
  refine ⟨(get_field_of_store (raiseIf_store _ _) (by decide)).trans ?_, (get_field_of_store (raiseIf_store _ _) (by decide)).trans ?_⟩
  · rw [get_foldIf_other hne, get_foldIf_same ht hbind]
    simp [noRef]
  · rw [get_foldIf_same (tableKept_foldIf ht) hbind2, get_foldIf_other hne.symm]
    simp [noRef]

/-- Every live object's bindings that name the retired record become VOID. -/
def voidAll (h : Int) (s : State) : State := (s.liveOf .object).foldl (fun s o => voidBinds h o s) s

theorem writes_voidAll (h : Int) : s.Writes (fun f => f.kind = .object) (voidAll h s) :=
  writes_foldl fun _ _ _ => (writes_voidBinds ..).mono fun _ hf => by obtain rfl | rfl := hf <;> rfl

theorem liveOf_nodup (s : State) (k : Kind) : (s.liveOf k).Nodup := List.nodup_range.filter _

theorem mem_liveOf (ht : s.tableKept = true) : i ∈ s.liveOf k ↔ s.isLive k i = true := by
  rw [State.liveOf, List.mem_filter, List.mem_range]
  exact and_iff_right_of_imp fun h => (lt_of_isLive h).trans_eq (tableKept_iff.1 ht k).1

theorem isLive_lt (ht : s.tableKept = true) (hl : s.isLive k i = true) : i < kindSize k :=
  (lt_of_isLive hl).trans_eq (tableKept_iff.1 ht k).1

theorem get_voidAll (ht : s.tableKept = true) (ho : s.isLive .object o = true) :
    (voidAll h s).get (Fld.obBind o) = (if s.get (Fld.obBind o) = h then -1 else s.get (Fld.obBind o))
    ∧ (voidAll h s).get (Fld.obBind2 o) = (if s.get (Fld.obBind2 o) = h then -1 else s.get (Fld.obBind2 o)) := by
  obtain ⟨u, htu, hu⟩ := get_foldl_turn (r := fun s o => voidBinds h o s) (x := o)
    (fun u x => (writes_voidBinds h x).mono fun f hf => by obtain rfl | rfl := hf <;> rfl)
    (liveOf_nodup s .object) ((mem_liveOf ht).2 ho) ht
  obtain ⟨hbind, hbind'⟩ := hu (Fld.obBind o) rfl nofun
  obtain ⟨hbind2, hbind2'⟩ := hu (Fld.obBind2 o) rfl nofun
  obtain ⟨hv, hv2⟩ := get_voidBinds (h := h) htu (isLive_lt ht ho)
  exact ⟨by rw [voidAll, hbind', hv, hbind], by rw [voidAll, hbind2', hv2, hbind2]⟩

/-! ## Bindings -/

theorem get_dropBinding (ht : s.tableKept = true) (hb : b < 60) :
    (dropBinding k i b s).get (Fld.biKind b) = (if refersField k i (s.get (Fld.biTarget b)) then 1 else s.get (Fld.biKind b))
    ∧ (dropBinding k i b s).get (Fld.biTarget b)
      = if refersField k i (s.get (Fld.biTarget b)) then -1 else s.get (Fld.biTarget b) := by
  have hkind : (Fld.biKind b).stored = true := stored_field hb (by decide) (by decide)
  have htarget : (Fld.biTarget b).stored = true := stored_field hb (by decide) (by decide)
  unfold dropBinding
  split
  · have hstore : (raise .bindingLost (setCarry b 0 (setVal (Fld.biKind b) 1 (setVal (Fld.biTarget b) noRef s)))).store
        = (setVal (Fld.biKind b) 1 (setVal (Fld.biTarget b) noRef s)).store := setCarry_store ..
    refine ⟨(get_field_of_store hstore (by decide)).trans ?_, (get_field_of_store hstore (by decide)).trans ?_⟩
    · exact get_setVal_kept (tableKept_setVal ht _ _) hkind
    · exact (get_setVal_other (by simp)).trans (get_setVal_kept ht htarget)
  · exact ⟨rfl, rfl⟩

/-- Every binding whose TARGET is a field of the retired record falls back. -/
def dropBindings (k : Kind) (i : Nat) (s : State) : State := (List.range 60).foldl (fun s b => dropBinding k i b s) s

theorem writes_dropBindings : s.Writes (fun f => f.kind = .binding) (dropBindings k i s) :=
  writes_foldl fun _ _ _ => (writes_dropBinding ..).mono fun _ hf => by obtain rfl | rfl := hf <;> rfl

theorem get_dropBindings (ht : s.tableKept = true) (hb : b < 60) :
    (dropBindings k i s).get (Fld.biKind b) = (if refersField k i (s.get (Fld.biTarget b)) then 1 else s.get (Fld.biKind b))
    ∧ (dropBindings k i s).get (Fld.biTarget b)
      = if refersField k i (s.get (Fld.biTarget b)) then -1 else s.get (Fld.biTarget b) := by
  obtain ⟨u, htu, hu⟩ := get_foldl_turn (r := fun s b => dropBinding k i b s) (x := b)
    (fun u x => (writes_dropBinding k i x).mono fun f hf => by obtain rfl | rfl := hf <;> rfl)
    List.nodup_range (List.mem_range.2 hb) ht
  obtain ⟨hkind, hkind'⟩ := hu (Fld.biKind b) rfl nofun
  obtain ⟨htarget, htarget'⟩ := hu (Fld.biTarget b) rfl nofun
  obtain ⟨hk, ht'⟩ := get_dropBinding (k := k) (i := i) htu hb
  exact ⟨by rw [dropBindings, hkind', hk, hkind, htarget], by rw [dropBindings, htarget', ht', htarget]⟩

/-! ## Lamps -/

theorem get_dropLamp (ht : s.tableKept = true) (hl : l < 32) :
    (dropLamp k i l s).get (Fld.laField l) = (if refersField k i (s.get (Fld.laField l)) then -1 else s.get (Fld.laField l))
    ∧ (dropLamp k i l s).get (Fld.laSource l) = if refersField k i (s.get (Fld.laField l)) = true
        ∧ (s.get (Fld.laSource l) = 2 ∨ s.get (Fld.laSource l) = 3) then 0 else s.get (Fld.laSource l) := by
  have hsource : (Fld.laSource l).stored = true := stored_field hl (by decide) (by decide)
  have hfield : (Fld.laField l).stored = true := stored_field hl (by decide) (by decide)
  unfold dropLamp
  split
  · next href =>
    have hstore (c : Bool) : (raise .bindingLost (foldIf c (setVal (Fld.laSource l) 0) (setVal (Fld.laField l) noRef s))).store
        = (foldIf c (setVal (Fld.laSource l) 0) (setVal (Fld.laField l) noRef s)).store := rfl
    refine ⟨(get_field_of_store (hstore _) (by decide)).trans ?_, (get_field_of_store (hstore _) (by decide)).trans ?_⟩
    · rw [get_foldIf_other (by simp), get_setVal_kept ht hfield]
    · rw [get_foldIf_same (tableKept_setVal ht _ _) hsource, get_setVal_other (by simp)]
      simp [href]
  · next href => simp [href]

/-- Every lamp whose FIELD is a field of the retired record falls back. -/
def dropLamps (k : Kind) (i : Nat) (s : State) : State := (List.range 32).foldl (fun s l => dropLamp k i l s) s

theorem writes_dropLamps : s.Writes (fun f => f.kind = .lamp) (dropLamps k i s) :=
  writes_foldl fun _ _ _ => (writes_dropLamp ..).mono fun _ hf => by obtain rfl | rfl := hf <;> rfl

theorem get_dropLamps (ht : s.tableKept = true) (hl : l < 32) :
    (dropLamps k i s).get (Fld.laField l) = (if refersField k i (s.get (Fld.laField l)) then -1 else s.get (Fld.laField l))
    ∧ (dropLamps k i s).get (Fld.laSource l) = if refersField k i (s.get (Fld.laField l)) = true
        ∧ (s.get (Fld.laSource l) = 2 ∨ s.get (Fld.laSource l) = 3) then 0 else s.get (Fld.laSource l) := by
  obtain ⟨u, htu, hu⟩ := get_foldl_turn (r := fun s l => dropLamp k i l s) (x := l)
    (fun u x => (writes_dropLamp k i x).mono fun f hf => by obtain rfl | rfl := hf <;> rfl)
    List.nodup_range (List.mem_range.2 hl) ht
  obtain ⟨hfield, hfield'⟩ := hu (Fld.laField l) rfl nofun
  obtain ⟨hsource, hsource'⟩ := hu (Fld.laSource l) rfl nofun
  obtain ⟨hf, hs⟩ := get_dropLamp (k := k) (i := i) htu hl
  exact ⟨by rw [dropLamps, hfield', hf, hfield], by rw [dropLamps, hsource', hs, hfield, hsource]⟩

/-! ## Gates -/

/-- A definition change clears OUTCOME, STATUS and the statistics, and leaves the fields of the definition (R91). -/
theorem get_definitionChange (ht : s.tableKept = true) (hm : m < 8) :
    (definitionChange m s).get (Fld.meStatus m) = 0 ∧ (definitionChange m s).get (Fld.meStatCount m) = 0
    ∧ ∀ f : FieldId, f.kind = .measurement → f.num < 8 → (definitionChange m s).get f = s.get f := by
  have hclear := tableKept_clearStats ht m
  have hstore : (definitionChange m s).store
      = (setVal (Fld.meStatus m) (mstatusCode .notYet) (setVal (Fld.meOutcome m) 0 (clearStats m s))).store := rfl
  refine ⟨?_, ?_, fun f hk hn => ?_⟩
  · refine (get_field_of_store hstore (by decide)).trans ?_
    rw [get_setVal_kept (tableKept_setVal hclear _ _) (stored_measurement hm (by decide))]
    rfl
  · refine (get_field_of_store hstore (by decide)).trans ?_
    rw [get_setVal_other (by simp), get_setVal_other (by simp),
      get_clearStats ht hm (by simp [clearedFields])]
  · exact writes_get (writes_definitionChange m) (fun hf => by have := hf.2.2; omega)
      fun hs => by rw [hs] at hk; cases hk

theorem get_dropGate (ht : s.tableKept = true) (hm : m < 8) :
    (dropGate h m s).get (Fld.meGateA m) = (if s.get (Fld.meGateA m) = h then -1 else s.get (Fld.meGateA m))
    ∧ (dropGate h m s).get (Fld.meGateB m) = (if s.get (Fld.meGateB m) = h then -1 else s.get (Fld.meGateB m))
    ∧ (s.get (Fld.meGateA m) = h ∨ s.get (Fld.meGateB m) = h →
        (s.get (Fld.meGate m) = 1 → (dropGate h m s).get (Fld.meGate m) = 0)
        ∧ (dropGate h m s).get (Fld.meStatus m) = 0 ∧ (dropGate h m s).get (Fld.meStatCount m) = 0) := by
  have hgate (n : Nat) (hn : n < 16) : FieldId.stored ⟨.measurement, m, n⟩ = true := stored_measurement hm hn
  by_cases hhit : s.get (Fld.meGateA m) = h ∨ s.get (Fld.meGateB m) = h
  · obtain ⟨a, ha⟩ : ∃ a, a = foldIf (decide (s.get (Fld.meGateA m) = h)) (setVal (Fld.meGateA m) noRef) s := ⟨_, rfl⟩
    obtain ⟨b, hb⟩ : ∃ b, b = foldIf (decide (s.get (Fld.meGateB m) = h)) (setVal (Fld.meGateB m) noRef) a := ⟨_, rfl⟩
    obtain ⟨c, hc⟩ : ∃ c, c = foldIf (decide (b.get (Fld.meGate m) = 1)) (setVal (Fld.meGate m) 0) b := ⟨_, rfl⟩
    have hdrop : dropGate h m s = definitionChange m c := by
      rw [dropGate, if_pos (by simpa using hhit), hc, hb, ha]
    have hta : a.tableKept = true := ha ▸ tableKept_foldIf ht
    have htb : b.tableKept = true := hb ▸ tableKept_foldIf hta
    have htc : c.tableKept = true := hc ▸ tableKept_foldIf htb
    obtain ⟨hstatus, hcount, hdef⟩ := get_definitionChange htc hm
    rw [hdrop, hdef _ rfl (by decide : 3 < 8), hdef _ rfl (by decide : 4 < 8), hdef _ rfl (by decide : 2 < 8), hstatus, hcount]
    refine ⟨?_, ?_, fun _ => ⟨fun hon => ?_, rfl, rfl⟩⟩
    · rw [hc, get_foldIf_other (by simp), hb, get_foldIf_other (by simp), ha, get_foldIf_same ht (hgate 3 (by decide))]
      simp [noRef]
    · rw [hc, get_foldIf_other (by simp), hb, get_foldIf_same hta (hgate 4 (by decide)), ha, get_foldIf_other (by simp)]
      simp [noRef]
    · have hbon : b.get (Fld.meGate m) = 1 := by
        rw [hb, get_foldIf_other (by simp), ha, get_foldIf_other (by simp), hon]
      rw [hc, get_foldIf_same htb (hgate 2 (by decide)), if_pos (by simpa using hbon)]
  · obtain ⟨hA, hB⟩ := not_or.1 hhit
    rw [dropGate, if_neg (by simpa using hhit), if_neg hA, if_neg hB]
    exact ⟨rfl, rfl, fun hx => absurd hx hhit⟩

/-- Where a cursor is retired, every live measurement that it gates falls back. -/
def dropGates (k : Kind) (h : Int) (s : State) : State :=
  if k = .cursor then (s.liveOf .measurement).foldl (fun s m => dropGate h m s) s else s

theorem writes_dropGates : s.Writes (fun f => f.kind = .measurement) (dropGates k h s) :=
  writes_ite (writes_foldl fun _ _ _ => (writes_dropGate ..).mono fun _ hf => hf.1) writes_refl

theorem get_dropGates (ht : s.tableKept = true) (hm : s.isLive .measurement m = true) :
    (dropGates .cursor h s).get (Fld.meGateA m) = (if s.get (Fld.meGateA m) = h then -1 else s.get (Fld.meGateA m))
    ∧ (dropGates .cursor h s).get (Fld.meGateB m) = (if s.get (Fld.meGateB m) = h then -1 else s.get (Fld.meGateB m))
    ∧ (s.get (Fld.meGateA m) = h ∨ s.get (Fld.meGateB m) = h →
        (s.get (Fld.meGate m) = 1 → (dropGates .cursor h s).get (Fld.meGate m) = 0)
        ∧ (dropGates .cursor h s).get (Fld.meStatus m) = 0 ∧ (dropGates .cursor h s).get (Fld.meStatCount m) = 0) := by
  obtain ⟨u, htu, hu⟩ := get_foldl_turn (r := fun s m => dropGate h m s) (x := m)
    (fun u x => (writes_dropGate h x).mono fun f hf => hf.2.1) (liveOf_nodup s .measurement) ((mem_liveOf ht).2 hm) ht
  have hturn := get_dropGate (h := h) htu (isLive_measurement_lt ht hm)
  have hgate (n : Nat) := hu ⟨.measurement, m, n⟩ rfl nofun
  rw [dropGates, if_pos rfl, (hgate 3).2, (hgate 4).2, (hgate 2).2, (hgate 8).2, (hgate 13).2, ← (hgate 3).1, ← (hgate 4).1,
    ← (hgate 2).1]
  exact hturn

end Sys2Proof.Machine
end

section
/-! SUPPORT. A retirement put together (R13 to R15): the entries removed, the notices raised, what stays; and RETIRE. -/

namespace Sys2Proof.Machine

variable {s u : State} {k : Kind} {i g : Nat} {h hc : Int} {f : FieldId} {m : Source}

/-! ## The record freed and its entries removed (R13, R14) -/

/-- The record freed, its entries gone from groups and queue. -/
def freed (k : Kind) (i : Nat) (s : State) : State := removeEntries k i (freeRec k i s)

/-- A retired measurement leaves the pass (R15). -/
def leavePass (k : Kind) (i : Nat) (s : State) : State := if k = .measurement then dropMeasurement i s else s

/-- A retirement, part by part (R13, R14, R15). -/
theorem retireRec_eq (k : Kind) (i : Nat) (s : State) : retireRec k i s =
    leavePass k i (dropGates k (handleCode k i (s.recAt k i).gen) (dropLamps k i (dropBindings k i
      (voidAll (handleCode k i (s.recAt k i).gen) (freed k i s))))) := rfl

/-- The groups and the queue without the record's entries, before the groups of changes now gone empty (R14). -/
def withoutEntries (k : Kind) (i : Nat) (s : State) : State :=
  { s with store := { s.store with
      groups := s.store.groups.map fun g => if g.state = .holding then { g with entries := withoutRecord k i g.entries } else g
      queue := (s.store.queue.map fun c => { c with entries := withoutRecord k i c.entries }).filter
        fun c => !c.entries.isEmpty } }

/-- The groups that changes came from, emptied. -/
def emptyOrigins (cs : List Change) (s : State) : State := cs.foldl (fun s c => emptyOrigin c.origin s) s

theorem removeEntries_eq (k : Kind) (i : Nat) (s : State) : removeEntries k i s =
    foldIf (decide ((emptyOrigins (s.store.queue.filter fun c => (withoutRecord k i c.entries).isEmpty)
      (withoutEntries k i s)).poolUsed < s.poolUsed)) oweRetry
      (emptyOrigins (s.store.queue.filter fun c => (withoutRecord k i c.entries).isEmpty) (withoutEntries k i s)) := rfl

theorem foldIf_oweRetry_store (c : Bool) : (foldIf c oweRetry s).store = s.store := foldIf_store rfl

/-- To empty groups moves the groups alone. -/
theorem emptyOrigins_keeps {β : Type} (π : State → β) (hπ : ∀ u g, π (setGroup g Group.reset u) = π u) (cs : List Change)
    (s : State) : π (emptyOrigins cs s) = π s :=
  foldl_keeps π _ (fun u c => by unfold emptyOrigin; split <;> [exact hπ u _; exact hπ u _; rfl]) cs s

theorem emptyOrigins_queue (cs : List Change) (s : State) : (emptyOrigins cs s).store.queue = s.store.queue :=
  emptyOrigins_keeps (fun s => s.store.queue) (fun _ _ => rfl) cs s

/-- A group that none of the changes came from stays. -/
theorem emptyOrigins_group {cs : List Change} (hg : ∀ c, c ∈ cs → c.origin ≠ .group g ∧ (g = 3 → c.origin ≠ .recall)) :
    (emptyOrigins cs s).store.group g = s.store.group g := by
  induction cs generalizing s with
  | nil => rfl
  | cons c cs ih =>
    obtain ⟨hgroup, hrecall⟩ := hg c List.mem_cons_self
    have hset (n : Nat) (hn : n ≠ g) : (setGroup n Group.reset s).store.group g = s.store.group g := by
      simp only [Store.group, setGroup, List.getD_eq_getElem?_getD, List.getElem?_set_ne hn]
    refine (ih fun d hd => hg d (List.mem_cons_of_mem _ hd)).trans ?_
    dsimp only
    unfold emptyOrigin
    split
    · next n ho => exact hset n fun hn => hgroup (by rw [ho, hn])
    · next ho => exact hset 3 fun hn => hrecall hn.symm ho
    · rfl

theorem freed_queue : (freed k i s).store.queue =
    (s.store.queue.map fun c => { c with entries := withoutRecord k i c.entries }).filter fun c => !c.entries.isEmpty := by
  have hqueue : (freeRec k i s).store.queue = s.store.queue := setTable_queue ..
  rw [freed, removeEntries_eq, foldIf_oweRetry_store, emptyOrigins_queue, withoutEntries, hqueue]

/-- A HOLDING group that no queued change came from keeps its entries but for the record's. -/
theorem freed_entries (hs : (s.store.group g).state = .holding)
    (hg : ∀ c, c ∈ s.store.queue → c.origin ≠ .group g ∧ (g = 3 → c.origin ≠ .recall)) :
    ((freed k i s).store.group g).entries = withoutRecord k i (s.store.group g).entries := by
  have hqueue : (freeRec k i s).store.queue = s.store.queue := setTable_queue ..
  have hgroups : (freeRec k i s).store.groups = s.store.groups := setTable_groups ..
  rw [freed, removeEntries_eq, foldIf_oweRetry_store, emptyOrigins_group fun c hc => hg c (hqueue ▸ List.mem_of_mem_filter hc)]
  simp only [Store.group, withoutEntries, hgroups, List.getD_eq_getElem?_getD, List.getElem?_map] at hs ⊢
  cases hx : s.store.groups[g]? with
  | none =>
    rw [hx] at hs
    cases hs
  | some x =>
    rw [hx] at hs
    simp only [Option.map_some, Option.getD_some] at hs ⊢
    rw [if_pos hs]

/-- No record but the freed one reads otherwise. -/
theorem recAt_freed {k' : Kind} {j : Nat} (hj : ¬ (k' = k ∧ j = i)) : (freed k i s).recAt k' j = s.recAt k' j := by
  have htable (u : State) : (removeEntries k i u).store.table k' = u.store.table k' := by
    rw [removeEntries_eq, foldIf_oweRetry_store, emptyOrigins_keeps (fun s => s.store.table k') (fun _ _ => by cases k' <;> rfl)]
    cases k' <;> rfl
  rw [freed, State.recAt, htable, ← State.recAt, freeRec, recAt_modRec, if_neg fun hx => hj ⟨hx.1, hx.2.1⟩]

theorem get_freed {n j : Nat} {k' : Kind} (hj : ¬ (k' = k ∧ j = i)) (hk : k' ≠ .timebase) :
    (freed k i s).get ⟨k', j, n⟩ = s.get ⟨k', j, n⟩ := by
  have hstate : (⟨k', j, n⟩ : FieldId) ≠ Fld.tbState := fun hf => hk (congrArg FieldId.kind hf)
  simp only [State.get, if_neg hstate, recAt_freed hj]

theorem freed_tableKept (hk : kindCreated k = true) (ht : s.tableKept = true) : (freed k i s).tableKept = true :=
  ((keeps_freeRec hk i).trans (keeps_removeEntries k i)).table ht

/-! ## Notices (R15) -/

/-- Turns that each raise a notice or not by their own record: the fold raises it where one of them does. -/
theorem noticed_foldl {α : Type} {r : State → α → State} {hit : State → α → Prop} {l : List α} (hnd : l.Nodup)
    (hturn : ∀ u x, (r u x).noticed m = true ↔ u.noticed m = true ∨ hit u x)
    (hother : ∀ u x y, x ≠ y → (hit (r u y) x ↔ hit u x)) :
    (l.foldl r s).noticed m = true ↔ s.noticed m = true ∨ ∃ x, x ∈ l ∧ hit s x := by
  induction l generalizing s with
  | nil => simp
  | cons y l ih =>
    obtain ⟨hy, hnd⟩ := List.nodup_cons.1 hnd
    have hrest : (∃ x, x ∈ l ∧ hit (r s y) x) ↔ ∃ x, x ∈ l ∧ hit s x :=
      exists_congr fun x => and_congr_right fun hx => hother s x y fun hxy => hy (hxy ▸ hx)
    rw [List.foldl_cons, ih hnd, hturn, hrest, or_assoc]
    simp

theorem noticed_raise_iff {n : Source} : (raise n s).noticed m = true ↔ s.noticed m = true ∨ m = n := by
  rw [noticed_raise, Bool.or_eq_true, decide_eq_true_iff]

theorem foldIf_setVal_notices (c : Bool) (f : FieldId) (v : Int) : (foldIf c (setVal f v) s).notices = s.notices := by
  cases c <;> rfl

theorem setCarry_notices (c : Nat) (v : Int) : (setCarry c v s).notices = s.notices := by unfold setCarry; split <;> rfl

theorem noticed_of_notices (h : u.notices = s.notices) : u.noticed m = s.noticed m := by rw [State.noticed, h, State.noticed]

/-- A readout whose binding names the retired record. -/
def State.voids (s : State) (h : Int) (o : Nat) : Prop :=
  s.get (Fld.obKind o) = 6 ∧ (s.get (Fld.obBind o) = h ∨ s.get (Fld.obBind2 o) = h)

theorem noticed_voidBinds (o : Nat) :
    (voidBinds h o s).noticed m = true ↔ s.noticed m = true ∨ (m = .readoutVoid ∧ s.voids h o) := by
  have hbase (b b2 : Bool) : (foldIf b2 (setVal (Fld.obBind2 o) noRef) (foldIf b (setVal (Fld.obBind o) noRef) s)).noticed m
      = s.noticed m := noticed_of_notices ((foldIf_setVal_notices ..).trans (foldIf_setVal_notices ..))
  unfold voidBinds State.voids
  dsimp only
  unfold raiseIf
  split
  · next hr =>
    rw [noticed_raise_iff, hbase]
    simp only [Bool.and_eq_true, Bool.or_eq_true, decide_eq_true_eq] at hr
    obtain ⟨hhit, hkind⟩ := hr
    exact or_congr_right (and_iff_left ⟨hkind, hhit⟩).symm
  · next hr =>
    rw [hbase]
    simp only [Bool.and_eq_true, Bool.or_eq_true, decide_eq_true_eq] at hr
    exact (or_iff_left fun ⟨_, hkind, hhit⟩ => hr ⟨hhit, hkind⟩).symm

theorem noticed_voidAll : (voidAll h s).noticed m = true ↔ s.noticed m = true
    ∨ ∃ o, o ∈ s.liveOf .object ∧ m = .readoutVoid ∧ s.voids h o := by
  refine noticed_foldl (hit := fun s o => m = .readoutVoid ∧ s.voids h o) (liveOf_nodup s .object)
    (fun u o => noticed_voidBinds o) fun u x y hxy => and_congr_right fun _ => ?_
  have hget (n : Nat) : (voidBinds h y u).get ⟨.object, x, n⟩ = u.get ⟨.object, x, n⟩ :=
    writes_get (writes_voidBinds h y) (by simp [hxy]) nofun
  simp only [State.voids, hget]

theorem noticed_dropBinding (b : Nat) : (dropBinding k i b s).noticed m = true ↔ s.noticed m = true
    ∨ (m = .bindingLost ∧ refersField k i (s.get (Fld.biTarget b)) = true) := by
  unfold dropBinding
  split
  · next hr =>
    rw [noticed_raise_iff, noticed_of_notices (setCarry_notices ..)]
    exact or_congr_right (and_iff_left hr).symm
  · next hr => exact (or_iff_left fun hx => hr hx.2).symm

theorem noticed_dropBindings : (dropBindings k i s).noticed m = true ↔ s.noticed m = true
    ∨ ∃ b, b ∈ List.range 60 ∧ m = .bindingLost ∧ refersField k i (s.get (Fld.biTarget b)) = true := by
  refine noticed_foldl (hit := fun s b => m = .bindingLost ∧ refersField k i (s.get (Fld.biTarget b)) = true)
    List.nodup_range (fun u b => noticed_dropBinding b) fun u x y hxy => and_congr_right fun _ => ?_
  have hget : (dropBinding k i y u).get (Fld.biTarget x) = u.get (Fld.biTarget x) :=
    writes_get (writes_dropBinding k i y) (by simp [hxy]) nofun
  rw [hget]

theorem noticed_dropLamp (l : Nat) : (dropLamp k i l s).noticed m = true ↔ s.noticed m = true
    ∨ (m = .bindingLost ∧ refersField k i (s.get (Fld.laField l)) = true) := by
  unfold dropLamp
  split
  · next hr =>
    rw [noticed_raise_iff, noticed_of_notices (foldIf_setVal_notices ..)]
    exact or_congr_right (and_iff_left hr).symm
  · next hr => exact (or_iff_left fun hx => hr hx.2).symm

theorem noticed_dropLamps : (dropLamps k i s).noticed m = true ↔ s.noticed m = true
    ∨ ∃ l, l ∈ List.range 32 ∧ m = .bindingLost ∧ refersField k i (s.get (Fld.laField l)) = true := by
  refine noticed_foldl (hit := fun s l => m = .bindingLost ∧ refersField k i (s.get (Fld.laField l)) = true)
    List.nodup_range (fun u l => noticed_dropLamp l) fun u x y hxy => and_congr_right fun _ => ?_
  have hget : (dropLamp k i y u).get (Fld.laField x) = u.get (Fld.laField x) :=
    writes_get (writes_dropLamp k i y) (by simp [hxy]) nofun
  rw [hget]

end Sys2Proof.Machine
end

section
/-! SUPPORT. RETIRE (R13 to R15): a retirement's effect, view by view, and the command. -/

namespace Sys2Proof.Machine

variable {s u : State} {k : Kind} {i j b l m o g : Nat} {h : Int} {n : Source}

/-! ## What a retirement leaves -/

/-- The blocks that no part of a retirement but the pass's moves. -/
def retireFrame (s : State) : Sweep × Comb × SamplePath × Trig × Option Pass × BitVec 8 :=
  (s.sweep, s.comb, s.path, s.trig, s.meas.pass, s.notices.fails)

@[simp] theorem retireFrame_setVal (f : FieldId) (v : Int) : retireFrame (setVal f v s) = retireFrame s := rfl

@[simp] theorem retireFrame_raise (n : Source) : retireFrame (raise n s) = retireFrame s := rfl

@[simp] theorem retireFrame_setCarry (c : Nat) (v : Int) : retireFrame (setCarry c v s) = retireFrame s := by
  unfold setCarry; split <;> rfl

@[simp] theorem retireFrame_foldIf_setVal (c : Bool) (f : FieldId) (v : Int) :
    retireFrame (foldIf c (setVal f v) s) = retireFrame s := by cases c <;> rfl

@[simp] theorem retireFrame_raiseIf (c : Bool) (n : Source) : retireFrame (raiseIf c n s) = retireFrame s := by
  cases c <;> rfl

/-- A definition change writes fields, stamps and sums. -/
theorem definitionChange_keeps {β : Type} (π : State → β) (hset : ∀ f v u, π (setVal f v u) = π u)
    (hmeas : ∀ (u : State) x y, π { u with meas := { u.meas with stamps := x, sums := y } } = π u) (m : Nat) (s : State) :
    π (definitionChange m s) = π s := by
  have hclear : π (clearStats m s) = π s := (hmeas _ _ _).trans (foldl_keeps π _ (fun u f => hset f 0 u) _ s)
  exact (hmeas _ _ _).trans ((hset _ _ _).trans ((hset _ _ _).trans hclear))

@[simp] theorem retireFrame_definitionChange (m : Nat) : retireFrame (definitionChange m s) = retireFrame s :=
  definitionChange_keeps retireFrame (fun _ _ _ => rfl) (fun _ _ _ => rfl) m s

theorem retireFrame_freed : retireFrame (freed k i s) = retireFrame s := by
  have howe (c : Bool) (u : State) : retireFrame (foldIf c oweRetry u) = retireFrame u := by cases c <;> rfl
  rw [freed, removeEntries_eq, howe, emptyOrigins_keeps retireFrame fun _ _ => rfl]
  rfl

theorem freed_notices : (freed k i s).notices = s.notices := by
  have howe (c : Bool) (u : State) : (foldIf c oweRetry u).notices = u.notices := by cases c <;> rfl
  rw [freed, removeEntries_eq, howe, emptyOrigins_keeps State.notices fun _ _ => rfl]
  rfl

theorem dropGates_notices : (dropGates k h s).notices = s.notices := by
  unfold dropGates
  split
  · refine foldl_keeps State.notices _ (fun u m => ?_) _ s
    unfold dropGate
    dsimp only
    split
    · refine (definitionChange_keeps State.notices (fun _ _ _ => rfl) (fun _ _ _ => rfl) m _).trans ?_
      rw [foldIf_setVal_notices, foldIf_setVal_notices, foldIf_setVal_notices]
    · rfl
  · rfl

theorem retireFrame_dropGates : retireFrame (dropGates k h (dropLamps k i (dropBindings k i (voidAll h (freed k i s)))))
    = retireFrame s := by
  have hgates (u : State) : retireFrame (dropGates k h u) = retireFrame u := by
    unfold dropGates
    split
    · exact foldl_keeps retireFrame _ (fun u m => by unfold dropGate; dsimp only; split <;> simp) _ u
    · rfl
  have hlamps (u : State) : retireFrame (dropLamps k i u) = retireFrame u :=
    foldl_keeps retireFrame _ (fun u l => by unfold dropLamp; dsimp only; split <;> simp) _ u
  have hbindings (u : State) : retireFrame (dropBindings k i u) = retireFrame u :=
    foldl_keeps retireFrame _ (fun u b => by unfold dropBinding; split <;> simp) _ u
  have hvoid (u : State) : retireFrame (voidAll h u) = retireFrame u :=
    foldl_keeps retireFrame _ (fun u o => by simp [voidBinds]) _ u
  rw [hgates, hlamps, hbindings, hvoid, retireFrame_freed]

theorem leavePass_store : (leavePass k i s).store = s.store := by unfold leavePass; split <;> rfl

theorem leavePass_flags : (leavePass k i s).notices.flags = s.notices.flags := by unfold leavePass; split <;> rfl

/-- The pass loses a retired measurement, and its FAIL flag clears; the other blocks stay (R15, R96). -/
theorem leavePass_frame (k : Kind) (i : Nat) (s : State) : (leavePass k i s).sweep = s.sweep ∧ (leavePass k i s).comb = s.comb
    ∧ (leavePass k i s).path = s.path ∧ (leavePass k i s).trig = s.trig
    ∧ (leavePass k i s).meas.pass = (if k = .measurement then
        s.meas.pass.map fun p => { p with members := p.members.filter fun m => m.inst != i } else s.meas.pass)
    ∧ ∀ j, j < 8 → (leavePass k i s).notices.fails.getLsbD j = (s.notices.fails.getLsbD j && !(k == .measurement && j == i)) := by
  unfold leavePass
  split
  · next hk =>
    refine ⟨rfl, rfl, rfl, rfl, rfl, fun j hj => ?_⟩
    have hbit : (BitVec.ofNat 8 (2 ^ i)).getLsbD j = (j == i) := by
      rw [BitVec.getLsbD_ofNat, Nat.testBit_two_pow, decide_eq_true hj, Bool.true_and]
      exact decide_eq_decide.2 eq_comm
    change (s.notices.fails &&& ~~~BitVec.ofNat 8 (2 ^ i)).getLsbD j = _
    rw [BitVec.getLsbD_and, BitVec.getLsbD_not, hbit, decide_eq_true hj, hk]
    rfl
  · next hk => exact ⟨rfl, rfl, rfl, rfl, rfl, fun j _ => by simp [hk]⟩

/-! ## The records -/

theorem voidAll_to_retired (h : Int) : s.Writes (fun f => f.kind = .binding ∨ f.kind = .lamp ∨ f.kind = .measurement)
    (leavePass k i (dropGates k h (dropLamps k i (dropBindings k i s)))) :=
  (((writes_dropBindings.mono fun _ => .inl).trans (writes_dropLamps.mono fun _ hf => .inr (.inl hf))).trans
    (writes_dropGates.mono fun _ hf => .inr (.inr hf))).of_store leavePass_store

theorem dropBindings_to_retired (h : Int) : s.Writes (fun f => f.kind = .lamp ∨ f.kind = .measurement)
    (leavePass k i (dropGates k h (dropLamps k i s))) :=
  ((writes_dropLamps.mono fun _ => .inl).trans (writes_dropGates.mono fun _ => .inr)).of_store leavePass_store

theorem dropLamps_to_retired (h : Int) : s.Writes (fun f => f.kind = .measurement) (leavePass k i (dropGates k h s)) :=
  writes_dropGates.of_store leavePass_store

/-- After the record is freed, a retirement writes fields alone. -/
theorem freed_to_retired : (freed k i s).Writes (fun _ => True) (retireRec k i s) := by
  rw [retireRec_eq]
  exact ((writes_voidAll _).mono fun _ _ => trivial).trans ((voidAll_to_retired _).mono fun _ _ => trivial)

/-- The retired record is free, with the next generation (R13). -/
theorem retired_record (hl : s.isLive k i = true) : (retireRec k i s).isLive k i = false
    ∧ ((retireRec k i s).recAt k i).gen = ((s.recAt k i).gen + 1) % 16 := by
  have hmark : ((retireRec k i s).recAt k i).mark = retiredMark (s.recAt k i).mark := by
    have hin : i < (s.marks k).length := (lt_of_isLive hl).trans_eq (List.length_map _).symm
    rw [mark_recAt, mark_recAt, marks_retireRec, if_pos rfl, List.getElem?_modify_eq, List.getElem?_eq_getElem hin]
    rfl
  exact ⟨congrArg Prod.fst hmark, congrArg Prod.snd hmark⟩

/-- No other record is made or freed. -/
theorem retired_others {k' : Kind} (hj : ¬ (k' = k ∧ j = i)) : (retireRec k i s).isLive k' j = s.isLive k' j
    ∧ ((retireRec k i s).recAt k' j).gen = (s.recAt k' j).gen := by
  obtain ⟨hlive, hgen, -⟩ := writes_recordsKept (freed_to_retired (s := s) (k := k) (i := i)) k' j
  rw [hlive, hgen, State.isLive, recAt_freed hj]
  exact ⟨rfl, rfl⟩

/-! ## The references (R15) -/

theorem retired_binding (hk : kindCreated k = true) (ht : s.tableKept = true) (hb : b < 60) :
    (retireRec k i s).get (Fld.biKind b) = (if refersField k i (s.get (Fld.biTarget b)) then 1 else s.get (Fld.biKind b))
    ∧ (retireRec k i s).get (Fld.biTarget b)
      = if refersField k i (s.get (Fld.biTarget b)) then -1 else s.get (Fld.biTarget b) := by
  have hfree : ¬ (Kind.binding = k ∧ b = i) := fun hx => by rw [← hx.1] at hk; cases hk
  rw [retireRec_eq]
  generalize (handleCode k i (s.recAt k i).gen : Int) = h
  have hbefore (n : Nat) : (voidAll h (freed k i s)).get ⟨.binding, b, n⟩ = s.get ⟨.binding, b, n⟩ :=
    (writes_get (g := ⟨.binding, b, n⟩) (writes_voidAll h) nofun nofun).trans (get_freed hfree (by decide))
  have hafter (u : State) (n : Nat) : (leavePass k i (dropGates k h (dropLamps k i u))).get ⟨.binding, b, n⟩
      = u.get ⟨.binding, b, n⟩ := writes_get (dropBindings_to_retired h) (by simp) nofun
  obtain ⟨hkind, htarget⟩ := get_dropBindings (k := k) (i := i)
    ((writes_keeps (writes_voidAll h)).table (freed_tableKept hk ht)) hb
  rw [hafter, hafter, hkind, htarget, hbefore, hbefore]
  exact ⟨rfl, rfl⟩

theorem retired_lamp (hk : kindCreated k = true) (ht : s.tableKept = true) (hl : l < 32) :
    (retireRec k i s).get (Fld.laField l) = (if refersField k i (s.get (Fld.laField l)) then -1 else s.get (Fld.laField l))
    ∧ (retireRec k i s).get (Fld.laSource l) = if refersField k i (s.get (Fld.laField l)) = true
        ∧ (s.get (Fld.laSource l) = 2 ∨ s.get (Fld.laSource l) = 3) then 0 else s.get (Fld.laSource l) := by
  have hfree : ¬ (Kind.lamp = k ∧ l = i) := fun hx => by rw [← hx.1] at hk; cases hk
  rw [retireRec_eq]
  generalize (handleCode k i (s.recAt k i).gen : Int) = h
  have hearlier : (freed k i s).Writes (fun f => f.kind = .object ∨ f.kind = .binding)
      (dropBindings k i (voidAll h (freed k i s))) :=
    ((writes_voidAll h).mono fun _ => .inl).trans (writes_dropBindings.mono fun _ => .inr)
  have hbefore (n : Nat) : (dropBindings k i (voidAll h (freed k i s))).get ⟨.lamp, l, n⟩ = s.get ⟨.lamp, l, n⟩ :=
    (writes_get (g := ⟨.lamp, l, n⟩) hearlier (by simp) nofun).trans (get_freed hfree (by decide))
  have hafter (u : State) (n : Nat) : (leavePass k i (dropGates k h u)).get ⟨.lamp, l, n⟩ = u.get ⟨.lamp, l, n⟩ :=
    writes_get (dropLamps_to_retired h) nofun nofun
  obtain ⟨hfield, hsource⟩ := get_dropLamps (k := k) (i := i) ((writes_keeps hearlier).table (freed_tableKept hk ht)) hl
  rw [hafter, hafter, hfield, hsource, hbefore, hbefore]
  exact ⟨rfl, rfl⟩

theorem retired_object (hk : kindCreated k = true) (ht : s.tableKept = true) (hl : s.isLive k i = true)
    (ho : (retireRec k i s).isLive .object o = true) (hh : h = handleCode k i (s.recAt k i).gen) :
    (retireRec k i s).get (Fld.obBind o) = (if s.get (Fld.obBind o) = h then -1 else s.get (Fld.obBind o))
    ∧ (retireRec k i s).get (Fld.obBind2 o) = (if s.get (Fld.obBind2 o) = h then -1 else s.get (Fld.obBind2 o)) := by
  have hfree : ¬ (Kind.object = k ∧ o = i) := by
    rintro ⟨rfl, rfl⟩
    rw [(retired_record hl).1] at ho
    cases ho
  have hlive : (freed k i s).isLive .object o = true := by
    rw [← ho, ((writes_recordsKept (freed_to_retired (s := s) (k := k) (i := i))) .object o).1]
  rw [retireRec_eq, ← hh]
  have hafter (u : State) (n : Nat) : (leavePass k i (dropGates k h (dropLamps k i (dropBindings k i u)))).get ⟨.object, o, n⟩
      = u.get ⟨.object, o, n⟩ := writes_get (voidAll_to_retired h) (by simp) nofun
  obtain ⟨hbind, hbind2⟩ := get_voidAll (h := h) (freed_tableKept hk ht) hlive
  rw [hafter, hafter, hbind, hbind2, get_freed hfree (by decide), get_freed hfree (by decide)]
  exact ⟨rfl, rfl⟩

theorem retired_gates (ht : s.tableKept = true) (hm : s.isLive .measurement m = true)
    (hh : h = handleCode .cursor i (s.recAt .cursor i).gen) :
    (retireRec .cursor i s).get (Fld.meGateA m) = (if s.get (Fld.meGateA m) = h then -1 else s.get (Fld.meGateA m))
    ∧ (retireRec .cursor i s).get (Fld.meGateB m) = (if s.get (Fld.meGateB m) = h then -1 else s.get (Fld.meGateB m))
    ∧ (s.get (Fld.meGateA m) = h ∨ s.get (Fld.meGateB m) = h →
        (s.get (Fld.meGate m) = 1 → (retireRec .cursor i s).get (Fld.meGate m) = 0)
        ∧ (retireRec .cursor i s).get (Fld.meStatus m) = 0 ∧ (retireRec .cursor i s).get (Fld.meStatCount m) = 0) := by
  have hfree : ¬ (Kind.measurement = .cursor ∧ m = i) := by simp
  rw [retireRec_eq, ← hh]
  have hearlier : (freed .cursor i s).Writes (fun f => f.kind ≠ .measurement)
      (dropLamps .cursor i (dropBindings .cursor i (voidAll h (freed .cursor i s)))) :=
    (((writes_voidAll h).mono fun f hf => by rw [hf]; decide).trans (writes_dropBindings.mono fun f hf => by rw [hf]; decide)).trans
      (writes_dropLamps.mono fun f hf => by rw [hf]; decide)
  generalize hu : dropLamps .cursor i (dropBindings .cursor i (voidAll h (freed .cursor i s))) = u at hearlier
  have hbefore (n : Nat) : u.get ⟨.measurement, m, n⟩ = s.get ⟨.measurement, m, n⟩ :=
    (writes_get (g := ⟨.measurement, m, n⟩) hearlier (by simp) nofun).trans (get_freed hfree (by decide))
  have hlive : u.isLive .measurement m = true := by
    rw [(writes_recordsKept hearlier .measurement m).1, State.isLive, recAt_freed hfree]
    exact hm
  have hgates := get_dropGates (h := h) ((writes_keeps hearlier).table (freed_tableKept rfl ht)) hlive
  rw [hbefore, hbefore, hbefore] at hgates
  exact hgates

/-- The notices of a retirement: READOUT_VOID for a readout that named the record, BINDING_LOST for a control or lamp that
did (R15). -/
theorem retired_noticed (hk : kindCreated k = true) (hh : h = handleCode k i (s.recAt k i).gen) :
    (retireRec k i s).noticed n = true ↔ s.noticed n = true
      ∨ (n = .readoutVoid ∧ ∃ o, o ∈ (freed k i s).liveOf .object ∧ (freed k i s).voids h o)
      ∨ (n = .bindingLost ∧ ((∃ b, b < 60 ∧ refersField k i (s.get (Fld.biTarget b)) = true)
        ∨ ∃ l, l < 32 ∧ refersField k i (s.get (Fld.laField l)) = true)) := by
  have hbinding (b : Nat) : (voidAll h (freed k i s)).get (Fld.biTarget b) = s.get (Fld.biTarget b) :=
    (writes_get (g := Fld.biTarget b) (writes_voidAll h) nofun nofun).trans
      (get_freed (fun hx => by rw [← hx.1] at hk; cases hk) (by decide))
  have hlamp (l : Nat) : (dropBindings k i (voidAll h (freed k i s))).get (Fld.laField l) = s.get (Fld.laField l) :=
    (writes_get (g := Fld.laField l) writes_dropBindings nofun nofun).trans
      ((writes_get (g := Fld.laField l) (writes_voidAll h) nofun nofun).trans
      (get_freed (fun hx => by rw [← hx.1] at hk; cases hk) (by decide)))
  rw [retireRec_eq, ← hh, State.noticed, leavePass_flags, dropGates_notices]
  change State.noticed _ n = true ↔ _
  rw [noticed_dropLamps, noticed_dropBindings, noticed_voidAll, noticed_of_notices freed_notices]
  simp only [hbinding, hlamp, List.mem_range]
  constructor
  · rintro (((h | ⟨o, ho, hn, hv⟩) | ⟨b, hb, hn, hr⟩) | ⟨l, hl, hn, hr⟩)
    · exact .inl h
    · exact .inr (.inl ⟨hn, o, ho, hv⟩)
    · exact .inr (.inr ⟨hn, .inl ⟨b, hb, hr⟩⟩)
    · exact .inr (.inr ⟨hn, .inr ⟨l, hl, hr⟩⟩)
  · rintro (h | ⟨hn, o, ho, hv⟩ | ⟨hn, ⟨b, hb, hr⟩ | ⟨l, hl, hr⟩⟩)
    · exact .inl (.inl (.inl h))
    · exact .inl (.inl (.inr ⟨o, ho, hn, hv⟩))
    · exact .inl (.inr ⟨b, hb, hn, hr⟩)
    · exact .inr ⟨l, hl, hn, hr⟩

end Sys2Proof.Machine
end

section
/-! SUPPORT. RETIRE (R13). -/

namespace Sys2Proof.Machine

variable {s : State} {k : Kind} {i : Nat} {h : BitVec 16}

theorem exec_retire (ht : s.takes (.retire h) = true) (hl : s.lookup (handleOf h.toNat) = some (k, i))
    (hk : kindCreated k = true) : exec (.retire h) s = .next ((examine (retireRec k i s)).answer .ok [] .none) := by
  obtain ⟨hkind, -, -⟩ := lookup_eq_some.1 hl
  rw [exec, execRetire, takeCommand_takes ht]
  dsimp only
  rw [hkind]
  dsimp only
  rw [if_neg (by simp [hk]), hl]
  rfl

theorem exec_retire_fixed (ht : s.takes (.retire h) = true) (hkind : kindOf (handleOf h.toNat).kind = some k)
    (hk : kindCreated k = false) : exec (.retire h) s = .next (s.answer .badValue [] .none) := by
  rw [exec, execRetire, takeCommand_takes ht]
  dsimp only
  rw [hkind]
  dsimp only
  rw [if_pos hk]
  rfl

theorem exec_retire_noRecord (ht : s.takes (.retire h) = true) (hl : s.lookup (handleOf h.toNat) = none)
    (hk : ∀ k, kindOf (handleOf h.toNat).kind = some k → kindCreated k = true) :
    exec (.retire h) s = .next (s.answer .noRecord [] .none) := by
  rw [exec, execRetire, takeCommand_takes ht]
  dsimp only
  cases hkind : kindOf (handleOf h.toNat).kind with
  | none => rfl
  | some k =>
    dsimp only
    rw [if_neg (by simp [hk k hkind]), hl]
    rfl

/-- With an empty queue a retirement leaves nothing to apply (R14, R23). -/
theorem examine_retireRec (hq : s.store.queue = []) : examine (retireRec k i s) = retireRec k i s := by
  have hqueue : (retireRec k i s).store.queue = [] := by
    rw [writes_queue freed_to_retired, freed_queue, hq]
    rfl
  exact examine_unreleased fun c hc => by rw [hqueue] at hc; cases hc

/-- The blocks after a retirement (R15, R96). -/
theorem retired_frame (k : Kind) (i : Nat) (s : State) : (retireRec k i s).sweep = s.sweep ∧ (retireRec k i s).comb = s.comb
    ∧ (retireRec k i s).path = s.path ∧ (retireRec k i s).trig = s.trig
    ∧ (retireRec k i s).meas.pass = (if k = .measurement then
        s.meas.pass.map fun p => { p with members := p.members.filter fun m => m.inst != i } else s.meas.pass)
    ∧ ∀ j, j < 8 → (retireRec k i s).notices.fails.getLsbD j = (s.notices.fails.getLsbD j && !(k == .measurement && j == i)) := by
  have hframe := retireFrame_dropGates (s := s) (k := k) (i := i) (h := handleCode k i (s.recAt k i).gen)
  rw [retireRec_eq]
  generalize dropGates k _ _ = u at hframe ⊢
  simp only [retireFrame, Prod.mk.injEq] at hframe
  obtain ⟨hsweep, hcomb, hpath, htrig, hpass, hfails⟩ := hframe
  obtain ⟨hsweep', hcomb', hpath', htrig', hpass', hfails'⟩ := leavePass_frame k i u
  exact ⟨hsweep'.trans hsweep, hcomb'.trans hcomb, hpath'.trans hpath, htrig'.trans htrig, by rw [hpass', hpass],
    fun j hj => by rw [hfails' j hj, hfails]⟩

/-- READOUT_VOID and BINDING_LOST, as the records after the retirement and before it show them (R15). -/
theorem retired_notices {hc : Int} (ht : s.tableKept = true) (hl : s.isLive k i = true) (hk : kindCreated k = true)
    (hh : hc = handleCode k i (s.recAt k i).gen) :
    ((retireRec k i s).noticed .readoutVoid = true ↔ s.noticed .readoutVoid = true
      ∨ ∃ o, (retireRec k i s).isLive .object o = true ∧ s.voids hc o)
    ∧ ((retireRec k i s).noticed .bindingLost = true ↔ s.noticed .bindingLost = true
      ∨ (∃ b, b < 60 ∧ refersField k i (s.get (Fld.biTarget b)) = true)
      ∨ ∃ l, l < 32 ∧ refersField k i (s.get (Fld.laField l)) = true) := by
  have hvoids (o : Nat) : (o ∈ (freed k i s).liveOf .object ∧ (freed k i s).voids hc o)
      ↔ ((retireRec k i s).isLive .object o = true ∧ s.voids hc o) := by
    rw [mem_liveOf (freed_tableKept hk ht), ← (writes_recordsKept (freed_to_retired (s := s) (k := k) (i := i)) .object o).1]
    refine and_congr_right fun ho => ?_
    have hfree : ¬ (Kind.object = k ∧ o = i) := by
      rintro ⟨rfl, rfl⟩
      rw [(retired_record hl).1] at ho
      cases ho
    simp only [State.voids, get_freed hfree (by decide : Kind.object ≠ .timebase)]
  refine ⟨?_, ?_⟩ <;> rw [retired_noticed hk hh]
  · simp only [hvoids, true_and, reduceCtorEq, false_and, or_false]
  · simp only [reduceCtorEq, false_and, true_and, false_or]

end Sys2Proof.Machine

/-! ## The statement -/

open Sys2Proof Sys2Proof.Machine

/-- Settles O22: the command by its checks, and each reference, notice and ledger of the retirement by the part that moves it. -/
theorem retireFreesInstance : Obligations.RetireFreesInstance := by
  refine ⟨fun s h k i ht hl hk => exec_retire ht hl hk, fun s h ht => ⟨fun k hkind hk => ?_, fun hnone => ?_⟩,
    fun s h k i ht htab hl hk hq => ?_, fun s k i hc ht hl hk hh => ⟨_, rfl, ?_⟩⟩
  · rw [show h.toNat / 4096 = (handleOf h.toNat).kind by rw [handleOf_toNat]] at hkind
    exact exec_retire_fixed ht hkind hk
  · rw [← show _ = h.toNat / 4096 from congrArg Handle.kind (handleOf_toNat h)] at hnone
    refine exec_retire_noRecord ht (lookup_eq_none.2 fun k hkind => ?_) fun k hkind => (hnone k hkind).1
    rw [handleOf_toNat]
    exact (hnone k hkind).2
  · obtain ⟨-, hinst, -, hlive, -⟩ := lookup_eq_some.1 hl
    rw [← hinst] at hlive
    obtain ⟨hfree, hgen⟩ := retired_record hlive
    obtain ⟨hsweep, hcomb, hpath, htrig, -, -⟩ := retired_frame k i s
    have hneg : (-1 : Int) ≠ handleCode k i (s.recAt k i).gen := by omega
    refine ⟨(retireRec k i s).answer .ok [] .none, ?_, hfree, hgen, ⟨rfl, rfl⟩, fun b hb => ?_, fun l hl => ?_, fun o ho => ?_,
      fun k' j hj => retired_others hj, hsweep, hcomb, hpath, htrig, restKept_answer (shell_retireRec _ _)⟩
    · rw [exec_retire ht hl hk, examine_retireRec hq]
    · refine (congrArg (refersField k i) (retired_binding hk htab hb).2).trans ?_
      split
      · rfl
      · next hr => exact eq_false_of_ne_true hr
    · refine (congrArg (refersField k i) (retired_lamp hk htab hl).1).trans ?_
      split
      · rfl
      · next hr => exact eq_false_of_ne_true hr
    · obtain ⟨hbind, hbind2⟩ := retired_object hk htab hlive ho rfl
      refine ⟨fun hx => ?_, fun hx => ?_⟩
      · rw [show (State.answer _ _ _ _).get _ = _ from hbind] at hx
        split at hx
        · exact hneg hx
        · next hne => exact hne hx
      · rw [show (State.answer _ _ _ _).get _ = _ from hbind2] at hx
        split at hx
        · exact hneg hx
        · next hne => exact hne hx
  · obtain ⟨-, -, -, -, hpass, hfails⟩ := retired_frame k i s
    obtain ⟨hvoid, hlost⟩ := retired_notices ht hl hk hh
    refine ⟨fun b hb hr => ?_, fun b hb hr => ?_, fun l hl hr => ?_, fun l hl hr => ?_,
      fun o ho => retired_object hk ht hl ho hh, fun hcur m hm => ?_, fun g hs hg => ?_, ?_, hvoid, hlost, hfails, hpass⟩
    · obtain ⟨hkind, htarget⟩ := retired_binding hk ht hb
      rw [hkind, htarget, if_pos hr, if_pos hr]
      exact ⟨rfl, rfl⟩
    · obtain ⟨hkind, htarget⟩ := retired_binding hk ht hb
      rw [hkind, htarget, hr]
      exact ⟨rfl, rfl⟩
    · obtain ⟨hfield, hsource⟩ := retired_lamp hk ht hl
      rw [hfield, hsource, hr]
      simp
    · obtain ⟨hfield, hsource⟩ := retired_lamp hk ht hl
      rw [hfield, hsource, hr]
      simp
    · subst hcur
      exact retired_gates ht hm hh
    · rw [Store.group, writes_groups freed_to_retired]
      exact freed_entries hs hg
    · rw [writes_queue freed_to_retired]
      exact freed_queue
end

section
/-! SUPPORT. A loose write with an empty queue (R11, R20, R23, R24): the change of one entry, and which owners act on it. -/

namespace Sys2Proof.Machine

variable {s t u v before : State} {f g : FieldId} {es : List Entry} {e : Entry} {x : Val} {k : Kind} {i : Nat}

/-! ## The path -/

theorem setQueue_self (h : s.store.queue = []) : setQueue [] s = s := by
  rw [setQueue, ← h]

/-- A loose write joins the queue, or finds no place in it or no pool entry (R19, R20). -/
theorem storeWrite_loose (f : FieldId) (x : Val) (s : State) :
    (16 ≤ s.store.queue.length → storeWrite .loose f x s = .error .queueFull)
    ∧ (s.store.queue.length < 16 → s.poolFree = 0 → storeWrite .loose f x s = .error .groupFull)
    ∧ (s.store.queue.length < 16 → 0 < s.poolFree →
      storeWrite .loose f x s = .ok (joinQueue .loose [{ id := f, val := x }] s)) := by
  refine ⟨fun hq => ?_, fun hq hp => ?_, fun hq hp => ?_⟩ <;> dsimp only [storeWrite]
  · rw [if_pos hq]
  · rw [if_neg (by omega), if_pos hp]
  · rw [if_neg (by omega), if_neg (by omega)]

/-- A VIEW field's loose write applies at once where nothing is queued (R22, R23). -/
theorem joinQueue_view_alone (hq : s.store.queue = []) (hc : classOf f = .view) :
    joinQueue .loose [{ id := f, val := x }] s = oweRetry (plainChange [{ id := f, val := x }] s) := by
  rw [joinQueue_alone hq (by simp [anyClass, hc]) (.inl (by simp [anyClass, hc])), setQueue_self hq]
  exact applyChange_plain (c := { origin := .loose, entries := [{ id := f, val := x }], released := true }) nofun

/-! ## One entry's change (R24) -/

theorem applyEntry_text (y : List Byte) : applyEntry false (s, []) { id := f, val := .text y } = (setText f.inst y s, [f]) :=
  rfl

/-- A number, an on/off, an enumeration and a label are written as they come (R25). -/
theorem applyEntry_int {w : Int} {sp : FieldSpec} (hs : specAt f.kind f.num = some sp) (hc : sp.ty ≠ .cursorRef)
    (hb : sp.ty ≠ .bindRef) : applyEntry false (s, []) { id := f, val := .int w } = (setVal f w s, [f]) := by
  have hv : applyValue s false f w = some w := by
    simp only [applyValue, hs]
    cases hty : sp.ty <;> simp_all
  simp only [applyEntry, hv, List.nil_append]

/-- The change of one entry whose re-clamps move no gate. -/
theorem plainChange_single (he : applyEntry false (s, []) e = (u, [f])) (hre : reclamps [e] [f] u = v)
    (hgate : ∀ i, v.get (Fld.meGate i) = u.get (Fld.meGate i)) : plainChange [e] s = consequences s [f] [e] [] v := by
  have hnone : (List.range 8).filter (fun i => decide (u.get (Fld.meGate i) ≠ v.get (Fld.meGate i))) = [] := by
    rw [List.filter_eq_nil_iff]
    intro i _
    simp [hgate i]
  unfold plainChange
  simp only [List.foldl_cons, List.foldl_nil, he, hre, hnone]

theorem touches_single : touches [e] k i = ofRecord k i e.id := by simp [touches]

theorem ofRecord_kind (h : f.kind ≠ k) : ofRecord k i f = false := by simp [ofRecord, h]

theorem forChannels_idle {r : Nat → State → State} (h : ∀ c u, c < 4 → r c u = u) (s : State) : forChannels r s = s := by
  simp [forChannels, h]

theorem foldl_range_idle {r : State → Nat → State} (n : Nat) (h : ∀ u i, r u i = u) (s : State) :
    (List.range n).foldl r s = s := List.foldl_fixed' (fun i => h s i) _

theorem foldIf_neg {r : State → State} {c : Bool} (hc : c = false) : foldIf c r s = s := by rw [hc]; rfl

theorem foldIf_pos {r : State → State} {c : Bool} (hc : c = true) : foldIf c r s = r s := by rw [hc]; rfl

/-! ## Which fields a change wrote -/

theorem wroteAny_single {fs : List FieldId} : wroteAny [f] fs = decide (f ∈ fs) := by
  rw [wroteAny, Bool.eq_iff_iff]
  simp

theorem wroteAny_other {fs : List FieldId} (h : ∀ g, g ∈ fs → g.kind ≠ f.kind) : wroteAny [f] fs = false := by
  rw [wroteAny_single]
  exact decide_eq_false fun hf => h f hf rfl

/-- The re-clamps of a change that writes none of the fields they are about (R25, R153). -/
theorem reclamps_kind (hc : e.id.kind ≠ .channel) (ht : e.id.kind ≠ .trigger) (hm : e.id.kind ≠ .measurement)
    (ho : e.id.kind ≠ .object ∨ e.id.num < 11) :
    reclamps [e] [e.id] s
      = (List.range 4).foldl (fun s i => foldIf (touches [e] .cursor i) (reclampPosition i) s) s := by
  have hbinds (o : Nat) : wroteAny [e.id] [Fld.obBind o, Fld.obBind2 o, Fld.obForm o] = false := by
    rw [wroteAny_single]
    refine decide_eq_false fun hmem => ?_
    simp only [List.mem_cons, List.not_mem_nil, or_false] at hmem
    obtain h | h | h := hmem <;> simp [h] at ho
  unfold reclamps
  dsimp only
  rw [forChannels_idle fun c u _ => foldIf_neg (touches_single.trans (ofRecord_kind hc)),
    foldIf_neg (touches_single.trans (ofRecord_kind ht)),
    foldl_range_idle 64 fun u o => foldIf_neg (hbinds o),
    foldl_range_idle 8 fun u m => foldIf_neg (touches_single.trans (ofRecord_kind hm))]

theorem reclamps_none (hc : e.id.kind ≠ .channel) (ht : e.id.kind ≠ .trigger) (hm : e.id.kind ≠ .measurement)
    (hr : e.id.kind ≠ .cursor) (ho : e.id.kind ≠ .object ∨ e.id.num < 11) : reclamps [e] [e.id] s = s := by
  rw [reclamps_kind hc ht hm ho]
  exact foldl_range_idle 4 (fun u i => foldIf_neg (touches_single.trans (ofRecord_kind hr))) s

/-- The re-clamp of a change of one cursor (R25, R88). -/
theorem reclamps_cursor (hk : e.id.kind = .cursor) (hi : e.id.inst < 4) :
    reclamps [e] [e.id] s = reclampPosition e.id.inst s := by
  have htouch (j : Nat) : touches [e] .cursor j = decide (e.id.inst = j) := by
    rw [touches_single, ofRecord, hk]
    rfl
  rw [reclamps_kind (by simp [hk]) (by simp [hk]) (by simp [hk]) (.inl (by simp [hk]))]
  refine (foldl_range_only (fun _ => True) hi (fun u j _ _ hj => ?_) trivial trivial).trans ?_
  · exact foldIf_neg ((htouch j).trans (decide_eq_false hj.symm))
  · exact foldIf_pos ((htouch _).trans (decide_eq_true rfl))

/-! ## The owners (R26) -/

/-- What the owners do with a written field that no measurement, no trigger setting and no timebase mode hangs on. -/
def ownersOf (before : State) (f : FieldId) (es : List Entry) (s : State) : State :=
  let s := forChannels (rescale [f]) s
  let s := forChannels (fun ch => foldIf (wroteAny [f] (feFields ch)) (feUpdate ch)) s
  let s := settleRequest (changeSettle before [f] s) (feStart s)
  let s := forChannels (fun ch => foldIf (clearsShown [f] ch) (clearShown ch)) s
  let s := foldIf (anyClass .restart es) clearAllStats s
  foldIf (recomputes before [f] s) levelRecompute s

theorem autoLevelAfter_same (h : s.get Fld.trAutoLevel = before.get Fld.trAutoLevel) : autoLevelAfter before false s = s := by
  unfold autoLevelAfter
  rw [h]
  cases isOn (before.get Fld.trAutoLevel) <;> rfl

theorem writes_ownersOf (before : State) (f : FieldId) (es : List Entry) : s.Writes (fun g => (g.kind = .channel ∧ g.num = 22)
    ∨ g.cleared ∨ g = Fld.trLevelCode ∨ g = Fld.trLevelClipped) (ownersOf before f es s) := by
  unfold ownersOf
  refine State.Writes.trans ?_ (writes_foldIf fun _ => writes_levelRecompute.mono fun _ hg => .inr (.inr hg))
  refine State.Writes.trans ?_ (writes_foldIf fun _ => writes_clearAllStats.mono fun _ hg => .inr (.inl hg))
  refine State.Writes.trans ?_ (writes_forChannels fun _ _ => writes_foldIf fun _ => writes_of_store rfl)
  refine State.Writes.trans ?_ (writes_of_store feStart_store)
  refine State.Writes.trans ?_ (writes_forChannels fun _ _ => writes_foldIf fun _ => writes_of_store (feUpdate_store _))
  exact writes_forChannels fun _ _ => (writes_rescale ..).mono fun _ => .inl

/-- The owners that act on a field of neither a measurement nor the trigger (R26). -/
theorem consequences_single (hm : f.kind ≠ .measurement) (ht : f.kind ≠ .trigger) (hs : f ≠ Fld.tbScale)
    (hw : f ≠ Fld.tbSweepMode) (ha : s.get Fld.trAutoLevel = before.get Fld.trAutoLevel) :
    consequences before [f] es [] s = disarmIfChanged before (ownersOf before f es s) := by
  have hcontains {g : FieldId} (h : f ≠ g) : [f].contains g = false := by simp [h.symm]
  have hdef (i : Nat) : (wroteAny [f] (definitionFields i) || ([] : List Nat).contains i) = false := by
    rw [wroteAny_other fun g hg => ?_]
    · rfl
    · simp only [definitionFields, List.mem_cons, List.not_mem_nil, or_false] at hg
      obtain rfl | rfl | rfl | rfl | rfl := hg <;> exact hm.symm
  have hauto : (ownersOf before f es s).get Fld.trAutoLevel = before.get Fld.trAutoLevel :=
    (writes_get (g := Fld.trAutoLevel) (writes_ownersOf before f es) (by simp [FieldId.cleared]) nofun).trans ha
  unfold consequences
  dsimp only
  rw [foldIf_neg (hcontains hw), foldl_range_idle 8 fun u i => foldIf_neg (hdef i), foldIf_neg (hcontains hs),
    hcontains (g := Fld.trLevelUv) fun h => ht (congrArg FieldId.kind h)]
  exact congrArg (disarmIfChanged before) (autoLevelAfter_same hauto)

theorem disarmIfChanged_same (h : ∀ g : FieldId, g.kind = .trigger → s.get g = before.get g) : disarmIfChanged before s = s := by
  rw [disarmIfChanged, if_neg]
  simp [h]

theorem settleRequest_none : settleRequest none s = s := by
  have hlonger : longer s.sweep.settle none = s.sweep.settle := by cases s.sweep.settle <;> rfl
  rw [settleRequest, hlonger]

/-- A field that no owner waits for starts at most a front-end frame that was due. -/
theorem consequences_view (hk : f.kind = .object ∨ f.kind = .display ∨ f.kind = .cursor) (hc : anyClass .restart es = false)
    (hsame : ∀ g : FieldId, g.kind = .channel ∨ g.kind = .trigger → s.get g = before.get g) :
    consequences before [f] es [] s = feStart s := by
  have hkinds : f.kind ≠ .channel ∧ f.kind ≠ .timebase ∧ f.kind ≠ .trigger ∧ f.kind ≠ .measurement := by
    obtain h | h | h := hk <;> simp [h]
  obtain ⟨hch, htb, htr, hme⟩ := hkinds
  have hfe (c : Nat) : wroteAny [f] (feFields c) = false :=
    wroteAny_other fun g hg => by
      simp only [feFields, List.mem_cons, List.not_mem_nil, or_false] at hg
      obtain rfl | rfl | rfl | rfl | rfl := hg <;> exact hch.symm
  have hscale (c : Nat) : wroteAny [f] [Fld.chScale c, Fld.chProbe c] = false :=
    wroteAny_other fun g hg => by
      simp only [List.mem_cons, List.not_mem_nil, or_false] at hg
      obtain rfl | rfl := hg <;> exact hch.symm
  have hshown (c : Nat) : clearsShown [f] c = false := by
    rw [clearsShown, hfe, Bool.false_or]
    refine wroteAny_other fun g hg => ?_
    simp only [List.mem_cons, List.not_mem_nil, or_false] at hg
    obtain rfl | rfl | rfl | rfl | rfl := hg
    · exact htb.symm
    · exact htb.symm
    · exact htb.symm
    · exact htb.symm
    · exact htr.symm
  have hsettle (u : State) : changeSettle before [f] u = none := by simp [changeSettle, hfe]
  have hget (g : FieldId) (hg : g.kind = .channel ∨ g.kind = .trigger) : (feStart s).get g = before.get g :=
    (get_of_store feStart_store fun h => by rw [h] at hg; simp at hg).trans (hsame g hg)
  have hlevel : recomputes before [f] (feStart s) = false := by
    unfold recomputes
    dsimp only
    rw [hget _ (.inl rfl), wroteAny_other fun g hg => ?_]
    · simp
    · simp only [List.mem_cons, List.not_mem_nil, or_false] at hg
      obtain rfl | rfl | rfl | rfl | rfl := hg
      · exact htr.symm
      · exact htr.symm
      · exact hch.symm
      · exact hch.symm
      · exact hch.symm
  rw [consequences_single hme htr (fun h => htb (congrArg FieldId.kind h)) (fun h => htb (congrArg FieldId.kind h))
    (hsame _ (.inr rfl))]
  have howners : ownersOf before f es s = feStart s := by
    unfold ownersOf
    dsimp only
    rw [forChannels_idle (r := rescale [f]) fun c u _ => foldIf_neg (hscale c), forChannels_idle fun c u _ => foldIf_neg (hfe c), hsettle,
      settleRequest_none, forChannels_idle fun c u _ => foldIf_neg (hshown c), foldIf_neg hc, foldIf_neg hlevel]
  rw [howners]
  exact disarmIfChanged_same fun g hg => hget g (.inr hg)

end Sys2Proof.Machine
end

section
/-! SUPPORT. WRITE_TEXT (R9), and the VIEW writes that apply at once (R11, R23, R24). -/

namespace Sys2Proof.Machine

variable {s t u : State} {h : BitVec 16} {n : Byte} {f g : FieldId} {sp : FieldSpec} {e : Status} {x y : List Byte} {k : Kind}
  {i j : Nat} {w : Int}

/-! ## The text as stored (R9) -/

theorem storedText_length (x : List Byte) : (storedText x).length = Nat.min 32 x.length := by simp [storedText]

theorem storedText_getElem? {b : Byte} (hi : i < 32) (hx : x[i]? = some b) :
    (storedText x)[i]? = some (if 32 ≤ b.toNat ∧ b.toNat ≤ 126 then b else 63) := by
  rw [storedText, List.getElem?_map, List.getElem?_take_of_lt hi, hx]
  simp [printed, printable]

/-! ## The command (R7, R9) -/

theorem exec_writeText_error (ht : s.takes (.writeText h n x) = true) (hf : s.fieldAt h n = .error e) :
    exec (.writeText h n x) s = .next (s.answer e [] .none) := by
  rw [exec, execWriteText, takeCommand_takes ht, hf]
  rfl

theorem exec_writeText_readOnly (ht : s.takes (.writeText h n x) = true) (hf : s.fieldAt h n = .ok (f, sp))
    (hr : sp.cls = .result ∨ (f.kind = .object ∧ f.num = 0)) :
    exec (.writeText h n x) s = .next (s.answer .readOnly [] .none) := by
  rw [exec, execWriteText, takeCommand_takes ht, hf]
  dsimp only
  rw [if_pos hr]
  rfl

theorem exec_writeText_badValue (ht : s.takes (.writeText h n x) = true) (hf : s.fieldAt h n = .ok (f, sp))
    (hr : ¬ (sp.cls = .result ∨ (f.kind = .object ∧ f.num = 0))) (hn : ¬ (f.kind = .object ∧ f.num = 10)) :
    exec (.writeText h n x) s = .next (s.answer .badValue [] .none) := by
  rw [exec, execWriteText, takeCommand_takes ht, hf]
  dsimp only
  rw [if_neg hr, if_pos hn]
  rfl

/-- A text written to OBJECT.TEXT along its path: stored, or refused for want of room. -/
theorem exec_writeText (ht : s.takes (.writeText h n x) = true) (hf : s.fieldAt h n = .ok (f, sp)) (hk : f.kind = .object)
    (hn : f.num = 10) :
    (∀ e, storeWrite (s.pathFor .view) f (.text (storedText x)) s = .error e →
      exec (.writeText h n x) s = .next (s.answer e [] .none))
    ∧ ∀ t, storeWrite (s.pathFor .view) f (.text (storedText x)) s = .ok t →
      exec (.writeText h n x) s = .next (t.answer (if 32 < x.length then .clamped else .ok)
        (BitVec.ofNat 8 (storedText x).length :: storedText x) .none) := by
  obtain ⟨-, -, hs⟩ := fieldAt_found hf
  have hcls : sp.cls = .view := by
    rw [hk, hn] at hs
    cases hs
    rfl
  rw [exec, execWriteText, takeCommand_takes ht, hf]
  dsimp only
  rw [if_neg (by simp [hcls, hn]), if_neg (not_not.2 ⟨hk, hn⟩), hcls]
  refine ⟨fun e hw => ?_, fun t hw => ?_⟩
  · rw [hw]
    rfl
  · rw [hw, ← textData_eq]
    simp [respond, writeStatus, State.answer]

/-! ## A text applied -/

theorem get_setText (i : Nat) (y : List Byte) (g : FieldId) : (setText i y s).get g = s.get g := by
  unfold State.get setText
  rw [recAt_modRec]
  split
  · rfl
  · split
    · next hk => rw [hk.1, hk.2.1]
    · rfl

theorem text_setText (hi : i < (s.store.table .object).length) : ((setText i y s).recAt .object i).text = y := by
  rw [setText, recAt_modRec, if_pos ⟨rfl, rfl, hi⟩]

theorem recordsKept_setText (i : Nat) (y : List Byte) (k : Kind) (j : Nat) : (setText i y s).isLive k j = s.isLive k j
    ∧ ((setText i y s).recAt k j).gen = (s.recAt k j).gen
    ∧ (k ≠ .object ∨ j ≠ i → ((setText i y s).recAt k j).text = (s.recAt k j).text) := by
  rw [setText, State.isLive, recAt_modRec]
  split
  · next hk =>
    obtain ⟨rfl, rfl, -⟩ := hk
    exact ⟨rfl, rfl, fun hne => by simp at hne⟩
  · exact ⟨rfl, rfl, fun _ => rfl⟩

/-- A text's loose write with an empty queue (R24): the record, a front-end frame that was due, and a retry owed. -/
theorem joinQueue_text (hq : s.store.queue = []) (hk : f.kind = .object) (hn : f.num = 10) :
    joinQueue .loose [{ id := f, val := .text y }] s = oweRetry (feStart (setText f.inst y s)) := by
  have hcls : classOf f = .view := by
    rw [classOf, hk, hn]
    rfl
  rw [joinQueue_view_alone hq hcls, plainChange_single (applyEntry_text y)
    (reclamps_none (e := { id := f, val := .text y }) (by simp [hk]) (by simp [hk]) (by simp [hk]) (by simp [hk]) (.inr (by simp [hn])))
    fun _ => rfl]
  rw [consequences_view (.inl hk) (by simp [anyClass, hcls]) fun g _ => get_setText _ _ g]

/-! ## A number applied -/

/-- A number's loose write to a VIEW field with an empty queue, after its re-clamps. -/
theorem joinQueue_number (hq : s.store.queue = []) (hk : f.kind = .display ∨ f.kind = .cursor)
    (hs : specAt f.kind f.num = some sp) (hc : sp.cls = .view) (hr : sp.ty ≠ .cursorRef) (hb : sp.ty ≠ .bindRef)
    (hre : reclamps [{ id := f, val := .int w }] [f] (setVal f w s) = u) (hu : (setVal f w s).Writes (fun g => g.kind = .cursor) u) :
    joinQueue .loose [{ id := f, val := .int w }] s = oweRetry (feStart u) := by
  have hcls : classOf f = .view := by rw [classOf, hs, ← hc]
  have hne (g : FieldId) (hg : g.kind = .channel ∨ g.kind = .trigger) : u.get g = s.get g := by
    have hstate : g ≠ Fld.tbState := fun h => by simp [h] at hg
    rw [writes_get hu (by obtain hg | hg := hg <;> simp [hg]) hstate, get_setVal_other]
    rintro rfl
    obtain h | h := hk <;> simp [h] at hg
  rw [joinQueue_view_alone hq hcls, plainChange_single (applyEntry_int hs hr hb) hre
    fun i => writes_get hu (by simp) nofun]
  rw [consequences_view (.inr hk) (by simp [anyClass, hcls]) hne]

/-- A front-end frame started and a retry owed move neither the store nor these blocks. -/
theorem applied_frame (u : State) : (oweRetry (feStart u)).store = u.store ∧ (oweRetry (feStart u)).sweep = u.sweep
    ∧ (oweRetry (feStart u)).comb = u.comb ∧ (oweRetry (feStart u)).meas = u.meas ∧ (oweRetry (feStart u)).trig = u.trig
    ∧ (oweRetry (feStart u)).notices = u.notices ∧ (oweRetry (feStart u)).shell = u.shell := by
  refine ⟨feStart_store, ?_, ?_, ?_, ?_, ?_, by simp⟩
  all_goals
    unfold oweRetry
    rw [feStart_eq]

end Sys2Proof.Machine

/-! ## The statement -/

open Sys2Proof Sys2Proof.Machine

/-- Settles O18: the text as stored, its path, and the refusals; applied, it is one record's text. -/
theorem writeTextStoresPrinted : Obligations.WriteTextStoresPrinted := by
  refine ⟨fun s h x f sp ht hf hk => ⟨storedText x, _, storedText_length x, rfl, fun i b hi hx => storedText_getElem? hi hx, ?_⟩,
    fun s h n x ht => ⟨fun e he => exec_writeText_error ht he, fun f sp hf => ⟨fun hr => exec_writeText_readOnly ht hf hr,
      fun hc ho => exec_writeText_badValue ht hf ?_ ?_⟩⟩⟩
  · obtain ⟨hl, hn, hs⟩ := fieldAt_found hf
    obtain ⟨hfull, hstored⟩ := exec_writeText ht hf hk hn
    have hpath (g : Nat) (hg : s.holdingGroup = some g) : s.pathFor .view = .held g :=
      pathFor_held (sp := ⟨"", .view, .text, 0⟩) nofun hg
    refine ⟨fun g hg => ?_, fun hg => ?_⟩
    · rw [hpath g hg] at hfull hstored
      obtain ⟨hnew, hpool, hreplaced⟩ := storeWrite_held g f (.text (storedText x)) s
      exact ⟨fun he hp => hstored _ (hnew he hp), fun he hp => hfull _ (hpool he hp), fun he => hstored _ (hreplaced he)⟩
    · rw [pathFor_loose (sp := ⟨"", .view, .text, 0⟩) nofun hg] at hfull hstored
      obtain ⟨hqueue, hpool, hjoin⟩ := storeWrite_loose f (.text (storedText x)) s
      refine ⟨fun hq => hfull _ (hqueue hq), fun hq hp => hfull _ (hpool hq hp), fun hq hp htab => ?_⟩
      have happly := hstored _ (hjoin (by rw [hq]; decide) hp)
      rw [joinQueue_text hq hk hn] at happly
      have hi : f.inst < (s.store.table .object).length := by
        rw [(tableKept_iff.1 htab .object).1, ← hk]
        obtain ⟨-, hinst, hrec, -⟩ := lookup_eq_some.1 hl
        rw [hinst]
        exact hrec
      obtain ⟨hstore, hsweep, hcomb, hmeas, htrig, hnotices, hshell⟩ := applied_frame (setText f.inst (storedText x) s)
      have hrec (k : Kind) (j : Nat) : (oweRetry (feStart (setText f.inst (storedText x) s))).recAt k j
          = (setText f.inst (storedText x) s).recAt k j := by rw [State.recAt, hstore, State.recAt]
      refine ⟨_, happly, ?_, ⟨rfl, rfl⟩, fun k j => ?_, fun g => ?_, ?_, ?_, ?_, hsweep, hcomb, hmeas, htrig, hnotices,
        restKept_answer hshell⟩
      · exact (congrArg Rec.text (hrec _ _)).trans (text_setText hi)
      · have hkept := recordsKept_setText (s := s) f.inst (storedText x) k j
        rwa [State.isLive, ← hrec] at hkept
      · exact (get_congr (fun k => congrArg (·.table k) hstore) (congrArg Sweep.acq hsweep) g).trans (get_setText f.inst _ g)
      · exact (congrArg Store.queue hstore).trans ((setTable_queue ..).trans hq)
      · exact (congrArg Store.groups hstore).trans (setTable_groups ..)
      · exact (congrArg Store.dropped hstore).trans (setTable_dropped ..)
  · rintro (hx | ⟨hk, hn⟩)
    · exact hc hx
    · obtain ho | ho := ho
      · exact ho hk
      · exact ho.1 hn
  · rintro ⟨hk, hn⟩
    obtain ho | ho := ho
    · exact ho hk
    · exact ho.2 hn
end

section
/-! SUPPORT. The VIEW writes of DISPLAY and CURSOR that apply at once (R8, R23 to R25). -/

namespace Sys2Proof.Machine

variable {s u : State} {f g : FieldId} {i n : Nat} {h : BitVec 16} {v : BitVec 64} {w : Int}

/-- A VIEW write applied moves the store as its re-clamped record says, and no other of these blocks. -/
theorem applied_view (hu : s.Writes (fun _ => True) u) (hrest : u = { s with store := u.store }) :
    (oweRetry (feStart u)).store = u.store
    ∧ (∀ g, (oweRetry (feStart u)).get g = u.get g)
    ∧ (oweRetry (feStart u)).store.queue = s.store.queue ∧ (oweRetry (feStart u)).store.groups = s.store.groups
    ∧ (oweRetry (feStart u)).sweep = s.sweep ∧ (oweRetry (feStart u)).comb = s.comb ∧ (oweRetry (feStart u)).meas = s.meas
    ∧ (oweRetry (feStart u)).trig = s.trig ∧ (oweRetry (feStart u)).notices = s.notices
    ∧ s.recordsKept (oweRetry (feStart u)) ∧ (oweRetry (feStart u)).shell = s.shell := by
  obtain ⟨hstore, hsweep, hcomb, hmeas, htrig, hnotices, hshell⟩ := applied_frame u
  have hmoved : u.sweep = s.sweep ∧ u.comb = s.comb ∧ u.meas = s.meas ∧ u.trig = s.trig ∧ u.notices = s.notices
      ∧ u.shell = s.shell := by
    rw [hrest]
    exact ⟨rfl, rfl, rfl, rfl, rfl, rfl⟩
  obtain ⟨hsweep', hcomb', hmeas', htrig', hnotices', hshell'⟩ := hmoved
  exact ⟨hstore, fun g => get_congr (fun k => congrArg (·.table k) hstore) (congrArg Sweep.acq hsweep) g,
    by rw [hstore, writes_queue hu], by rw [hstore, writes_groups hu], hsweep.trans hsweep', hcomb.trans hcomb',
    hmeas.trans hmeas', htrig.trans htrig', hnotices.trans hnotices',
    recordsKept_trans (writes_recordsKept hu) (recordsKept_of_store hstore), hshell.trans hshell'⟩

/-- A loose number that passes its checks and applies at once. -/
theorem exec_write_loose {n : Byte} {sp : FieldSpec} (ht : s.takes (.write h n v) = true) (hf : s.fieldAt h n = .ok (f, sp))
    (hc : sp.cls ≠ .config) (hg : s.holdingGroup = none) (hcheck : s.writeCheck .loose f sp v.toInt = none)
    (hq : s.store.queue = []) (hp : 0 < s.poolFree)
    (hw : s.storedValue .loose f sp v.toInt = (w, decide (w ≠ v.toInt))) :
    exec (.write h n v) s = .next ((joinQueue .loose [{ id := f, val := .int w }] s).answer
      (if w = v.toInt then .ok else .clamped) (beBytes 8 w) .none) := by
  have hjoin := (storeWrite_loose f (.int w) s).2.2 (by rw [hq]; decide) hp
  have hexec := exec_write_stored (t := joinQueue .loose [{ id := f, val := .int w }] s) ht hf (pathFor_loose hc hg) hcheck
    (by rw [hw]; exact hjoin)
  rw [hexec, hw]
  by_cases h : w = v.toInt <;> simp [h]

/-! ## DISPLAY -/

theorem specAt_displayColor (hn : n = 1 ∨ n = 3) :
    ∃ sp, specAt .display n = some sp ∧ sp.cls = .view ∧ sp.ty = .numeric 0 31 := by
  obtain rfl | rfl := hn <;> exact ⟨_, rfl, rfl, rfl⟩

/-! ## CURSOR -/

theorem reclampPosition_writes (i : Nat) : s.Writes (fun g => g = Fld.cuPosition i) (reclampPosition i s) := writes_setVal rfl

/-- AXIS written and POSITION brought within its range (R25). -/
theorem get_axisWritten (ht : s.tableKept = true) (hi : i < 4) :
    (reclampPosition i (setVal (Fld.cuAxis i) w s)).get (Fld.cuAxis i) = w
    ∧ (reclampPosition i (setVal (Fld.cuAxis i) w s)).get (Fld.cuPosition i)
      = limit 0 (positionMax w) (s.get (Fld.cuPosition i))
    ∧ ∀ g, g ≠ Fld.cuAxis i → g ≠ Fld.cuPosition i →
      (reclampPosition i (setVal (Fld.cuAxis i) w s)).get g = s.get g := by
  have haxis : (setVal (Fld.cuAxis i) w s).get (Fld.cuAxis i) = w :=
    get_setVal_kept ht (stored_field hi (by decide) (by decide))
  unfold reclampPosition
  refine ⟨(get_setVal_other (by simp)).trans haxis, ?_, fun g hg hg' => (get_setVal_other hg').trans (get_setVal_other hg)⟩
  rw [get_setVal_kept (tableKept_setVal ht _ _) (stored_field hi (by decide) (by decide)), haxis, get_setVal_other (by simp)]

end Sys2Proof.Machine

/-! ## The statement -/

open Sys2Proof Sys2Proof.Machine

/-- Settles O19: the write is a change of one VIEW entry, which applies alone; AXIS brings POSITION with it. -/
theorem looseViewWriteApplies : Obligations.LooseViewWriteApplies := by
  refine ⟨fun s n v ht htab _ hq hg hp hn => ?_, fun s h i v ht htab hq hg hp hl hv => ?_⟩
  · obtain ⟨sp, hspec, hcls, hty⟩ := specAt_displayColor hn
    have hn256 : n < 256 := by omega
    have hf := fieldAt_fixed (k := .display) (i := 0) (w := 9 * 4096) htab rfl (by decide)
      (by simp [handleCode, kindCode]) hn256 hspec
    have hcheck : s.writeCheck .loose ⟨.display, 0, n⟩ sp v.toInt = none :=
      writeCheck_passes (by simp [hcls]) (enumOk_numeric hty) (by simp [State.refOk, hty])
    have hvalue : s.storedValue .loose ⟨.display, 0, n⟩ sp v.toInt
        = (limit 0 31 v.toInt, decide (limit 0 31 v.toInt ≠ v.toInt)) := by
      simp [State.storedValue, hty, State.dependentClamp]
    have hexec := exec_write_loose ht hf (by simp [hcls]) hg hcheck hq hp hvalue
    rw [joinQueue_number (f := ⟨.display, 0, n⟩) hq (.inl rfl) hspec hcls (by simp [hty]) (by simp [hty])
      (reclamps_none (e := { id := ⟨.display, 0, n⟩, val := .int (limit 0 31 v.toInt) }) (by simp) (by simp) (by simp) (by simp)
        (.inl (by simp))) writes_refl] at hexec
    obtain ⟨-, hget, hqueue, hgroups, hsweep, hcomb, hmeas, htrig, hnotices, hrecs, hshell⟩ :=
      applied_view (s := s) (u := setVal ⟨.display, 0, n⟩ (limit 0 31 v.toInt) s) (writes_setVal trivial) rfl
    have hstored : FieldId.stored ⟨.display, 0, n⟩ = true :=
      stored_field (by decide) (by change n < 6; omega) (by decide)
    exact ⟨_, hexec, (hget _).trans (get_setVal_kept htab hstored), fun g hg => (hget g).trans (get_setVal_other hg), ⟨rfl, rfl⟩,
      hqueue.trans hq, hgroups, hsweep, hcomb, hmeas, htrig, hnotices, hrecs, restKept_answer hshell⟩
  · have hi : i < 4 := by
      obtain ⟨-, hinst, hrec, -⟩ := lookup_eq_some.1 hl
      rw [hinst]
      exact hrec
    have hf : s.fieldAt h 0 = .ok (Fld.cuAxis i, ⟨"AXIS", .view, .enum 2, 0⟩) := fieldAt_ok hl rfl
    have hint : v.toInt = v.toNat := BitVec.toInt_eq_toNat_of_lt (by omega)
    have hcheck : s.writeCheck .loose (Fld.cuAxis i) ⟨"AXIS", .view, .enum 2, 0⟩ v.toInt = none :=
      writeCheck_passes (by simp) (enumOk_enum rfl (by omega) (by simp)) (by simp [State.refOk])
    have hvalue : s.storedValue .loose (Fld.cuAxis i) ⟨"AXIS", .view, .enum 2, 0⟩ v.toInt
        = (v.toInt, decide (v.toInt ≠ v.toInt)) := by
      rw [storedValue_kept (by simp) (by simp)]
      simp
    have hexec := exec_write_loose ht hf nofun hg hcheck hq hp hvalue
    have hreclamp : reclamps [{ id := Fld.cuAxis i, val := .int v.toInt }] [Fld.cuAxis i] (setVal (Fld.cuAxis i) v.toInt s)
        = reclampPosition i (setVal (Fld.cuAxis i) v.toInt s) :=
      reclamps_cursor (e := { id := Fld.cuAxis i, val := .int v.toInt }) rfl hi
    have hclamped := reclampPosition_writes (s := setVal (Fld.cuAxis i) v.toInt s) i
    rw [joinQueue_number (f := Fld.cuAxis i) hq (.inr rfl) rfl rfl nofun nofun hreclamp
      (hclamped.mono fun g hg => by rw [hg]), hint, if_pos rfl] at hexec
    obtain ⟨-, hget, hqueue, hgroups, hsweep, hcomb, hmeas, htrig, hnotices, hrecs, hshell⟩ :=
      applied_view (s := s) (u := reclampPosition i (setVal (Fld.cuAxis i) v.toNat s))
        ((writes_setVal trivial).trans (writes_setVal trivial)) rfl
    obtain ⟨haxis, hposition, hother⟩ := get_axisWritten (w := v.toNat) htab hi
    refine ⟨_, hexec, (hget _).trans haxis, ((hget _).trans hposition).trans ?_, fun g hg hg' => (hget g).trans (hother g hg hg'),
      ⟨rfl, rfl⟩, hqueue.trans hq, hgroups, hsweep, hcomb, hmeas, htrig, hnotices, hrecs, restKept_answer hshell⟩
    have hzero : ((v.toNat : Int) = 0) ↔ v = 0 := by
      rw [Int.natCast_eq_zero]
      exact ⟨fun hz => BitVec.eq_of_toNat_eq hz, fun hz => by rw [hz]; rfl⟩
    simp only [positionMax, hzero]
end

section
/-! SUPPORT. A restart with one change (R22, R83, R84): the capture abandoned, the change applied, the next state. -/

namespace Sys2Proof.Machine

variable {s t u : State} {f g : FieldId} {e : Entry} {a : Acq} {ch : Nat}

/-! ## Phase 1 (R83) -/

theorem abandon_setQueue (q : List Change) : abandon (setQueue q s) = setQueue q (abandon s) := by
  unfold abandon
  change (if s.sweep.acq.capture = true then _ else _) = _
  split <;> rfl

theorem restartAbandon_setQueue (q : List Change) : restartAbandon (setQueue q s) = setQueue q (restartAbandon s) := by
  unfold restartAbandon
  rw [abandon_setQueue]
  rfl

/-- The record in phase 1: the average depth is 0 (R83). -/
theorem restartAbandon_store : (restartAbandon s).store = (setVal Fld.tbAvgDepth 0 s).store :=
  setVal_store_congr abandon_store Fld.tbAvgDepth 0

/-- The sweep controller in phase 1: a capture has ended, and nothing is pending but single and the settle (R83). -/
theorem restartAbandon_sweep : (restartAbandon s).sweep = { s.sweep with
    acq := if s.sweep.acq.capture then .settling else s.sweep.acq
    force := false
    auto := none
    holdoff := none
    colCount := 0 } := by
  unfold restartAbandon abandon
  split <;> rfl

theorem shownBank_freeFilling (c ch : Nat) :
    (modFilling c (fun b => { b with role := .free }) s).shownBank ch = s.shownBank ch := by
  refine shownBank_modBanks rfl (bankOf_shown_modFirst (fun b hb => ?_) fun b _ => nofun)
  rw [eq_of_beq hb]
  exact nofun

theorem shownBank_combAbandon (ch : Nat) : (combAbandon s).shownBank ch = s.shownBank ch := by
  have hfree := forChannels_keeps (State.shownBank · ch) (fun c u => shownBank_freeFilling (s := u) c ch) s
  unfold State.shownBank at hfree ⊢
  exact hfree

/-- The abandonment moves the store, the banks and the sweep controller alone, and shows the same banks. -/
theorem restartAbandon_frame : (restartAbandon s).path = s.path ∧ (restartAbandon s).trig = s.trig
    ∧ (restartAbandon s).meas = s.meas ∧ (restartAbandon s).notices = s.notices ∧ (restartAbandon s).shell = s.shell
    ∧ ∀ ch, (restartAbandon s).shownBank ch = s.shownBank ch := by
  unfold restartAbandon abandon
  split
  · exact ⟨rfl, rfl, rfl, rfl, rfl, fun ch => shownBank_combAbandon ch⟩
  · exact ⟨rfl, rfl, rfl, rfl, rfl, fun _ => rfl⟩

theorem writes_restartAbandon : s.Writes (· = Fld.tbAvgDepth) (restartAbandon s) :=
  State.Writes.of_store (t := setVal Fld.tbAvgDepth 0 s) (writes_setVal rfl) restartAbandon_store

/-! ## The event (R83, R84) -/

/-- A RESTART change with an empty queue: the abandonment, the change alone, and the next state. -/
theorem joinQueue_restarts (hq : s.store.queue = []) (h : anyClass .restart [e] = true) : joinQueue .loose [e] s
    = restartNext s.sweep.acq (oweRetry (plainChange [e] (restartAbandon s))) := by
  have hempty : (restartAbandon s).store.queue = [] := by rw [writes_queue writes_restartAbandon, hq]
  have happly : examine (releaseAll (setQueue [{ origin := .loose, entries := [e], released := false }] (restartAbandon s)))
      = oweRetry (plainChange [e] (restartAbandon s)) := by
    change examine (setQueue [{ origin := .loose, entries := [e], released := true }] (restartAbandon s)) = _
    rw [examine_single rfl, setQueue_self hempty]
    exact applyChange_plain (c := { origin := .loose, entries := [e], released := true }) nofun
  rw [joinQueue_of_restart h, hq, List.nil_append, restartEvent, restartAbandon_setQueue, happly]
  rfl

/-- The next state leaves all but the banks and the sweep controller, and shows the same banks (R84). -/
theorem restartNext_frame : (restartNext a s).store = s.store ∧ (restartNext a s).path = s.path
    ∧ (restartNext a s).trig = s.trig ∧ (restartNext a s).meas = s.meas ∧ (restartNext a s).notices = s.notices
    ∧ (restartNext a s).shell = s.shell ∧ ∀ ch, (restartNext a s).shownBank ch = s.shownBank ch := by
  have hstart : (settleOrArm s).store = s.store ∧ (settleOrArm s).path = s.path
      ∧ (settleOrArm s).trig = s.trig ∧ (settleOrArm s).meas = s.meas ∧ (settleOrArm s).notices = s.notices
      ∧ (settleOrArm s).shell = s.shell ∧ ∀ ch, (settleOrArm s).shownBank ch = s.shownBank ch := by
    unfold settleOrArm
    split
    · exact ⟨rfl, rfl, rfl, rfl, rfl, rfl, fun _ => rfl⟩
    · refine ⟨captureStart_store, ?_, ?_, ?_, ?_, shell_captureStart, shownBank_captureStart⟩ <;> rw [captureStart_eq]
  unfold restartNext
  split
  · exact ⟨rfl, rfl, rfl, rfl, rfl, rfl, fun _ => rfl⟩
  · exact ⟨rfl, rfl, rfl, rfl, rfl, rfl, fun _ => rfl⟩
  · exact hstart

theorem restartNext_stays (h : a = .stopped ∨ a = .settling) : restartNext a s = s := by
  obtain rfl | rfl := h <;> rfl

theorem restartNext_goes (h : a ≠ .stopped) (h' : a ≠ .settling) : restartNext a s = settleOrArm s := by
  unfold restartNext
  split
  · exact absurd rfl h
  · exact absurd rfl h'
  · rfl

end Sys2Proof.Machine
end

section
/-! SUPPORT. What a restart clears (R61, R109), the capture start after it (R73, R74), and a write of TIMEBASE.MODE. -/

namespace Sys2Proof.Machine

variable {s t u z before : State} {f g : FieldId} {e : Entry} {a : Acq} {c ch m : Nat} {w : Int} {base : Sweep}

/-! ## Shown banks cleared (R61) -/

theorem shownBank_clearShown (ch : Nat) : (clearShown ch s).shownBank ch = none := by
  rw [State.shownBank, clearShown, chan_modBanks_same rfl, bankOf, List.find?_eq_none]
  intro b hb
  obtain ⟨b', -, rfl⟩ := List.mem_map.1 hb
  simp [(role_unshow b').1]

theorem shownBank_clearShown_other (h : c ≠ ch) : (clearShown c s).shownBank ch = s.shownBank ch := by
  rw [State.shownBank, clearShown, chan_modBanks_other _ h, State.shownBank]

theorem shownBank_clearShown_all (hch : ch < 4) : (forChannels clearShown s).shownBank ch = none := by
  refine forChannels_turn (P := fun _ => True) (Q := fun u => u.shownBank ch = none) hch (fun _ _ _ _ => trivial)
    (fun u _ => shownBank_clearShown ch) (fun c u hc hu => ?_) trivial
  rw [shownBank_clearShown_other hc, hu]

/-! ## Statistics cleared (R109) -/

theorem clearAllStats_frame : (clearAllStats s).path = s.path ∧ (clearAllStats s).comb = s.comb
    ∧ (clearAllStats s).sweep = s.sweep ∧ (clearAllStats s).trig = s.trig ∧ (clearAllStats s).notices = s.notices
    ∧ (clearAllStats s).meas.pass = s.meas.pass.map (fun p => { p with exclude := true })
    ∧ (clearAllStats s).meas.stamps = s.meas.stamps := by
  have hkept : (clearEach (s.liveOf .measurement) s).unmeasured = s.unmeasured := unmeasured_clearEach _ s
  rw [clearAllStats_eq]
  exact ⟨(rest_of_unmeasured State.path hkept :), (comb_of_unmeasured hkept :), (sweep_of_unmeasured hkept :),
    (rest_of_unmeasured State.trig hkept :), clearEach_keeps State.notices (fun _ _ _ => rfl) s,
    congrArg (Option.map _) (rest_of_unmeasured (fun u => u.meas.pass) hkept),
    rest_of_unmeasured (fun u => u.meas.stamps) hkept⟩

theorem get_clearAllStats (ht : s.tableKept = true) (hm : s.isLive .measurement m = true) (hf : f ∈ clearedFields m) :
    (clearAllStats s).get f = 0 := by
  have hcleared := (clearEach_cleared ht (isLive_measurement_lt ht hm) ((mem_liveOf_measurement ht).2 hm)).1 f hf
  rw [clearAllStats_eq]
  exact hcleared

/-! ## The capture start after a restart (R73, R74) -/

/-- The sweep controller after the start, by the fields that the start reads. -/
theorem captureSweep_restarted (hz : z.sweep = { base with acq := a, colCount := 0 }) (hf : base.force = false)
    (hget : ∀ g : FieldId, g = Fld.tbTrigColumn ∨ g = Fld.tbSweepMode ∨ g = Fld.tbScale → z.get g = s.get g) :
    z.captureSweep = if 0 < s.get Fld.tbTrigColumn then { base with acq := .arming, colCount := 0, trigKind := .none }
      else State.startsWaiting { s with sweep := base } := by
  have hbase (g : FieldId) (hg : g ≠ Fld.tbState) : ({ s with sweep := base } : State).get g = s.get g := get_of_store rfl hg
  simp only [State.captureSweep, State.startsWaiting, hz, hf, hbase Fld.tbSweepMode nofun, hbase Fld.tbScale nofun,
    hget Fld.tbTrigColumn (.inl rfl), hget Fld.tbSweepMode (.inr (.inl rfl)), hget Fld.tbScale (.inr (.inr rfl))]

theorem captureNow_restarted (hget : ∀ g : FieldId, g = Fld.tbTrigColumn ∨ g = Fld.tbAvgShift ∨ g = Fld.tbScale →
    z.get g = s.get g) : z.captureNow = { s.captureNow with mode := modeOf (z.get Fld.tbMode) } := by
  simp only [State.captureNow, hget Fld.tbTrigColumn (.inl rfl), hget Fld.tbAvgShift (.inr (.inl rfl)),
    hget Fld.tbScale (.inr (.inr rfl))]

/-! ## TIMEBASE.MODE -/

/-- The owners of MODE clear the shown banks and the statistics (R61, R109). -/
theorem plainChange_mode (w : Int) (s : State) : plainChange [{ id := Fld.tbMode, val := .int w }] s
    = clearAllStats (forChannels clearShown (feStart (setVal Fld.tbMode w s))) := by
  have hre : reclamps [{ id := Fld.tbMode, val := .int w }] [Fld.tbMode] (setVal Fld.tbMode w s) = setVal Fld.tbMode w s :=
    reclamps_none (e := { id := Fld.tbMode, val := .int w }) nofun nofun nofun nofun (.inl nofun)
  have hfe (c : Nat) : wroteAny [Fld.tbMode] (feFields c) = false :=
    wroteAny_other fun g hg => by
      simp only [feFields, List.mem_cons, List.not_mem_nil, or_false] at hg
      obtain rfl | rfl | rfl | rfl | rfl := hg <;> nofun
  have hscale (c : Nat) : wroteAny [Fld.tbMode] [Fld.chScale c, Fld.chProbe c] = false :=
    wroteAny_other fun g hg => by
      simp only [List.mem_cons, List.not_mem_nil, or_false] at hg
      obtain rfl | rfl := hg <;> nofun
  have hshown (c : Nat) : clearsShown [Fld.tbMode] c = true := by
    rw [clearsShown, hfe]
    rfl
  have hsettle (u : State) : changeSettle s [Fld.tbMode] u = none := by simp [changeSettle, hfe]
  have hrestart : anyClass .restart [{ id := Fld.tbMode, val := .int w }] = true := rfl
  have hget (g : FieldId) (hg : g.kind = .channel ∨ g.kind = .trigger) :
      (clearAllStats (forChannels clearShown (feStart (setVal Fld.tbMode w s)))).get g = s.get g := by
    have hstate : g ≠ Fld.tbState := fun h => by simp [h] at hg
    have hstore : (forChannels clearShown (feStart (setVal Fld.tbMode w s))).store = (setVal Fld.tbMode w s).store :=
      feStart_store
    rw [writes_get writes_clearAllStats (fun hx => by simp [hx.1] at hg) hstate, get_of_store hstore hstate,
      get_setVal_other fun h => by simp [h] at hg]
  have hlevel : recomputes s [Fld.tbMode] (clearAllStats (forChannels clearShown (feStart (setVal Fld.tbMode w s)))) = false := by
    unfold recomputes
    dsimp only
    rw [hget _ (.inl rfl), wroteAny_other fun g hg => ?_]
    · simp
    · simp only [List.mem_cons, List.not_mem_nil, or_false] at hg
      obtain rfl | rfl | rfl | rfl | rfl := hg <;> nofun
  have hall : forChannels (fun ch => foldIf (clearsShown [Fld.tbMode] ch) (clearShown ch)) (feStart (setVal Fld.tbMode w s))
      = forChannels clearShown (feStart (setVal Fld.tbMode w s)) := by simp [forChannels, hshown]
  have howners : ownersOf s Fld.tbMode [{ id := Fld.tbMode, val := .int w }] (setVal Fld.tbMode w s)
      = clearAllStats (forChannels clearShown (feStart (setVal Fld.tbMode w s))) := by
    unfold ownersOf
    dsimp only
    rw [forChannels_idle (r := rescale [Fld.tbMode]) fun c u _ => foldIf_neg (hscale c),
      forChannels_idle fun c u _ => foldIf_neg (hfe c), hsettle, settleRequest_none, hall, foldIf_pos hrestart,
      foldIf_neg hlevel]
  have hentry : applyEntry false (s, []) { id := Fld.tbMode, val := .int w } = (setVal Fld.tbMode w s, [Fld.tbMode]) :=
    applyEntry_int (sp := ⟨"MODE", .restart, .enum 4, 0⟩) rfl nofun nofun
  have hsingle := consequences_single (f := Fld.tbMode) (before := s) (s := setVal Fld.tbMode w s)
    (es := [{ id := Fld.tbMode, val := .int w }]) nofun nofun nofun nofun (get_setVal_other nofun)
  rw [plainChange_single hentry hre fun _ => rfl, hsingle, howners]
  exact disarmIfChanged_same fun g hg => hget g (.inr hg)

end Sys2Proof.Machine
end

section
/-! SUPPORT. A loose write of TIMEBASE.MODE during a capture (R22, R73, R83, R84). -/

namespace Sys2Proof.Machine

variable {s : State} {g : FieldId} {w : Int} {v : BitVec 64}

/-- The state in which the capture after a write of MODE starts. -/
def modeRestarted (w : Int) (s : State) : State :=
  oweRetry (clearAllStats (forChannels clearShown (feStart (setVal Fld.tbMode w (restartAbandon s)))))

theorem modeRestarted_writes : s.Writes (fun g => g = Fld.tbAvgDepth ∨ g = Fld.tbMode ∨ g.kind = .measurement)
    (modeRestarted w s) := by
  have hstats (u : State) : u.Writes (fun g => g = Fld.tbAvgDepth ∨ g = Fld.tbMode ∨ g.kind = .measurement) (clearAllStats u) :=
    writes_clearAllStats.mono fun g hg => .inr (.inr hg.1)
  refine State.Writes.of_store (t := clearAllStats _) (State.Writes.trans ?_ (hstats _)) rfl
  refine State.Writes.of_store (t := setVal Fld.tbMode w (restartAbandon s)) ?_ feStart_store
  exact (writes_restartAbandon.mono fun g hg => .inl hg).trans (writes_setVal (.inr (.inl rfl)))

theorem get_modeRestarted (ht : s.tableKept = true) : (modeRestarted w s).get Fld.tbMode = w
    ∧ (modeRestarted w s).get Fld.tbAvgDepth = 0 := by
  have hmode : Fld.tbMode.stored = true := by decide
  have hdepth : Fld.tbAvgDepth.stored = true := by decide
  have hkept : (restartAbandon s).tableKept = true := (writes_keeps writes_restartAbandon).table ht
  have hlate (g : FieldId) (hk : g.kind = .timebase) (hs : g ≠ Fld.tbState) :
      (modeRestarted w s).get g = (setVal Fld.tbMode w (restartAbandon s)).get g :=
    (writes_get (g := g) writes_clearAllStats (fun hx => by rw [hx.1] at hk; cases hk) hs).trans (get_of_store feStart_store hs)
  refine ⟨(hlate Fld.tbMode rfl nofun).trans (get_setVal_kept hkept hmode), (hlate Fld.tbAvgDepth rfl nofun).trans ?_⟩
  refine (get_setVal_other (g := Fld.tbAvgDepth) (f := Fld.tbMode) nofun).trans ?_
  refine (get_of_store (f := Fld.tbAvgDepth) restartAbandon_store nofun).trans ?_
  exact get_setVal_kept ht hdepth

theorem modeRestarted_frame : (modeRestarted w s).sweep = (restartAbandon s).sweep ∧ (modeRestarted w s).notices = s.notices
    ∧ (modeRestarted w s).shell = s.shell ∧ ∀ ch, ch < 4 → (modeRestarted w s).shownBank ch = none := by
  obtain ⟨-, hcomb, hsweep, -, hnotices, -, -⟩ :=
    clearAllStats_frame (s := forChannels clearShown (feStart (setVal Fld.tbMode w (restartAbandon s))))
  obtain ⟨-, -, -, hnotices', hshell', -⟩ := restartAbandon_frame (s := s)
  have hfe : (feStart (setVal Fld.tbMode w (restartAbandon s))).sweep = (restartAbandon s).sweep
      ∧ (feStart (setVal Fld.tbMode w (restartAbandon s))).notices = (restartAbandon s).notices := by
    rw [feStart_eq]
    exact ⟨rfl, rfl⟩
  refine ⟨hsweep.trans hfe.1, (hnotices.trans hfe.2).trans hnotices', ?_, fun ch hch => ?_⟩
  · refine shell_clearAllStats.trans ?_
    exact ((shell_forChannels _ (fun c _ => shell_clearShown c) _).trans shell_feStart).trans hshell'
  · have hshown : (modeRestarted w s).shownBank ch
        = (forChannels clearShown (feStart (setVal Fld.tbMode w (restartAbandon s)))).shownBank ch := by
      unfold State.shownBank
      exact congrArg (fun x : Comb => bankOf .shown (x.chan ch)) hcomb
    rw [hshown, shownBank_clearShown_all hch]

/-- The write's answer: the value, live in the state that the new capture starts from. -/
theorem exec_write_mode (hs : s.takes (.write 0x1000 1 v) = true) (ht : s.tableKept = true) (hq : s.store.queue = [])
    (hg : s.holdingGroup = none) (hp : 0 < s.poolFree) (hv : v.toNat < 4) (hc : s.sweep.acq.capture = true)
    (hset : s.sweep.settle = none) :
    exec (.write 0x1000 1 v) s = .next ((captureStart (modeRestarted v.toNat s)).answer .ok (beBytes 8 v.toNat) .none) := by
  have hint : v.toInt = v.toNat := BitVec.toInt_eq_toNat_of_lt (by omega)
  have hf : s.fieldAt 0x1000 1 = .ok (Fld.tbMode, ⟨"MODE", .restart, .enum 4, 0⟩) :=
    fieldAt_fixed (k := .timebase) (i := 0) (w := 0x1000) (n := 1) ht rfl (by decide) (by simp [handleCode, kindCode])
      (by decide) rfl
  have hcheck : s.writeCheck .loose Fld.tbMode ⟨"MODE", .restart, .enum 4, 0⟩ v.toInt = none :=
    writeCheck_passes (by simp) (enumOk_enum rfl (by omega) (by simp)) (by simp [State.refOk])
  have hvalue : s.storedValue .loose Fld.tbMode ⟨"MODE", .restart, .enum 4, 0⟩ v.toInt
      = (v.toInt, decide (v.toInt ≠ v.toInt)) := by
    rw [storedValue_kept (by simp) (by simp)]
    simp
  have hacq : s.sweep.acq ≠ .stopped ∧ s.sweep.acq ≠ .settling := by
    constructor <;> intro h <;> rw [h] at hc <;> cases hc
  have hidle : (modeRestarted v.toNat s).sweep.settle = none := by
    rw [modeRestarted_frame.1, restartAbandon_sweep]
    exact hset
  have hjoin : joinQueue .loose [{ id := Fld.tbMode, val := .int v.toNat }] s = captureStart (modeRestarted v.toNat s) := by
    rw [joinQueue_restarts hq rfl, plainChange_mode, restartNext_goes hacq.1 hacq.2]
    exact settleOrArm_arm hidle
  rw [exec_write_loose hs hf nofun hg hcheck hq hp hvalue, hint, if_pos rfl, hjoin]

/-- The capture after a write of MODE (R73, R74). -/
theorem captureStart_modeRestarted (ht : s.tableKept = true) :
    (captureStart (modeRestarted w s)).sweep = (if 0 < s.get Fld.tbTrigColumn then
        { s.sweep with acq := .arming, colCount := 0, trigKind := .none, force := false, auto := none, holdoff := none }
      else State.startsWaiting { s with sweep := { s.sweep with force := false, auto := none, holdoff := none } })
    ∧ (captureStart (modeRestarted w s)).comb.cap = { s.captureNow with mode := modeOf w } := by
  have hget (g : FieldId) (hk : g.kind = .timebase) (hd : g ≠ Fld.tbAvgDepth) (hm : g ≠ Fld.tbMode) (hs : g ≠ Fld.tbState) :
      (modeRestarted w s).get g = s.get g := writes_get modeRestarted_writes (by simp [hk, hd, hm]) hs
  have hsweep := (modeRestarted_frame (s := s) (w := w)).1.trans restartAbandon_sweep
  constructor
  · rw [captureStart_sweep, captureSweep_restarted
      (base := { s.sweep with force := false, auto := none, holdoff := none }) hsweep rfl fun g hg => ?_]
    obtain rfl | rfl | rfl := hg <;> exact hget _ rfl nofun nofun nofun
  · rw [captureStart_capture.1, captureNow_restarted (s := s) fun g hg => ?_, (get_modeRestarted ht).1]
    obtain rfl | rfl | rfl := hg <;> exact hget _ rfl nofun nofun nofun

end Sys2Proof.Machine
end

section
/-! SUPPORT. The change of one front-end field of a CHANNEL (R25 to R34, R61, R66, R67): the records it leaves, and the owners. -/

namespace Sys2Proof.Machine

variable {s x before : State} {f g : FieldId} {c d n ch : Nat} {w : Int}

/-- The numbers of the channel fields that reach the front end (R33). -/
def frontEndField (n : Nat) : Prop := n = 1 ∨ n = 2 ∨ n = 3 ∨ n = 4 ∨ n = 6

/-! ## The records (R25, R29) -/

/-- The records after the field's write, its re-clamp and its rescale. -/
def channelWritten (c n : Nat) (w : Int) (s : State) : State :=
  rescale [⟨.channel, c, n⟩] c (reclampOffset c (setVal ⟨.channel, c, n⟩ w s))

theorem mem_feFields (hn : frontEndField n) : (⟨.channel, c, n⟩ : FieldId) ∈ feFields d ↔ c = d := by
  obtain rfl | rfl | rfl | rfl | rfl := hn <;> simp [feFields]

theorem wrote_feFields (hn : frontEndField n) : wroteAny [⟨.channel, c, n⟩] (feFields d) = decide (c = d) := by
  rw [wroteAny_single]
  exact decide_eq_decide.2 (mem_feFields hn)

theorem wrote_scaling : wroteAny [⟨.channel, c, n⟩] [Fld.chScale d, Fld.chProbe d] = decide (c = d ∧ (n = 2 ∨ n = 3)) := by
  rw [wroteAny_single]
  refine decide_eq_decide.2 ?_
  simp only [List.mem_cons, List.not_mem_nil, or_false, FieldId.mk.injEq, true_and]
  rw [and_or_left]

theorem writes_channelWritten : s.Writes (fun g => g = ⟨.channel, c, n⟩ ∨ g = Fld.chOffsetUv c ∨ g = Fld.chScaleUv c)
    (channelWritten c n w s) :=
  ((writes_setVal (.inl rfl)).trans (writes_setVal (.inr (.inl rfl)))).trans
    (writes_foldIf fun _ => writes_setVal (.inr (.inr rfl)))

/-- The channel's fields after the change: the field as written, OFFSET_UV within its limit, SCALE_UV by SCALE and PROBE. -/
theorem get_channelWritten (hn : frontEndField n) (hc : c < 4) (ht : s.tableKept = true) :
    (n ≠ 4 → (channelWritten c n w s).get ⟨.channel, c, n⟩ = w)
    ∧ (channelWritten c n w s).get (Fld.chOffsetUv c)
      = limit (-(offsetLimit ((channelWritten c n w s).get (Fld.chScale c)) ((channelWritten c n w s).get (Fld.chProbe c))))
        (offsetLimit ((channelWritten c n w s).get (Fld.chScale c)) ((channelWritten c n w s).get (Fld.chProbe c)))
        (if n = 4 then w else s.get (Fld.chOffsetUv c))
    ∧ (channelWritten c n w s).get (Fld.chScaleUv c) = if n = 2 ∨ n = 3 then
        baseScale ((channelWritten c n w s).get (Fld.chScale c)) * probeFactor ((channelWritten c n w s).get (Fld.chProbe c))
      else s.get (Fld.chScaleUv c) := by
  have hn22 : n < 22 := by obtain rfl | rfl | rfl | rfl | rfl := hn <;> decide
  have hfield (m : Nat) (hm : m < 23) : FieldId.stored ⟨.channel, c, m⟩ = true := stored_field hc hm (by decide)
  have hne22 : Fld.chScaleUv c ≠ ⟨.channel, c, n⟩ := by simp; omega
  have htw : (setVal ⟨.channel, c, n⟩ w s).tableKept = true := tableKept_setVal ht _ _
  have htr : (reclampOffset c (setVal ⟨.channel, c, n⟩ w s)).tableKept = true := tableKept_setVal htw _ _
  have hscaled (g : FieldId) (hg : g ≠ Fld.chScaleUv c) :
      (channelWritten c n w s).get g = (reclampOffset c (setVal ⟨.channel, c, n⟩ w s)).get g := by
    unfold channelWritten rescale
    cases wroteAny [⟨.channel, c, n⟩] [Fld.chScale c, Fld.chProbe c] with
    | false => rfl
    | true => exact get_setVal_other hg
  have hclamped (g : FieldId) (hg : g ≠ Fld.chScaleUv c) (hg' : g ≠ Fld.chOffsetUv c) :
      (channelWritten c n w s).get g = (setVal ⟨.channel, c, n⟩ w s).get g := (hscaled g hg).trans (get_setVal_other hg')
  refine ⟨fun h4 => ?_, ?_, ?_⟩
  · rw [hclamped _ hne22.symm (by simp [h4]), get_setVal_kept ht (hfield n (by omega))]
  · rw [hscaled _ (by simp), hclamped (Fld.chScale c) (by simp) (by simp), hclamped (Fld.chProbe c) (by simp) (by simp),
      reclampOffset, get_setVal_kept htw (hfield 4 (by decide))]
    congr 1
    split
    · next h4 =>
      subst h4
      exact get_setVal_kept ht (hfield 4 (by decide))
    · next h4 => exact get_setVal_other (by simp; omega)
  · rw [hscaled (Fld.chScale c) (by simp), hscaled (Fld.chProbe c) (by simp), channelWritten, rescale, wrote_scaling]
    by_cases h23 : n = 2 ∨ n = 3
    · rw [if_pos h23, foldIf_pos (by simp [h23]), get_setVal_kept htr (hfield 22 (by decide))]
    · rw [if_neg h23, foldIf_neg (by simp [h23]), reclampOffset, get_setVal_other (by simp), get_setVal_other hne22]

/-- No other field moves. -/
theorem get_channelWritten_other (hg : g ≠ ⟨.channel, c, n⟩) (ho : g ≠ Fld.chOffsetUv c) (hs : g ≠ Fld.chScaleUv c) :
    (channelWritten c n w s).get g = s.get g := by
  by_cases hstate : g = Fld.tbState
  · subst hstate
    unfold channelWritten rescale
    cases wroteAny [⟨.channel, c, n⟩] [Fld.chScale c, Fld.chProbe c] <;> rfl
  · exact writes_get writes_channelWritten (by simp [hg, ho, hs]) hstate

/-- The change moves records alone. -/
theorem channelWritten_frame : (channelWritten c n w s).path = s.path ∧ (channelWritten c n w s).comb = s.comb
    ∧ (channelWritten c n w s).sweep = s.sweep ∧ (channelWritten c n w s).trig = s.trig
    ∧ (channelWritten c n w s).meas = s.meas ∧ (channelWritten c n w s).notices = s.notices
    ∧ (channelWritten c n w s).shell = s.shell := by
  unfold channelWritten rescale
  cases wroteAny [⟨.channel, c, n⟩] [Fld.chScale c, Fld.chProbe c] <;> exact ⟨rfl, rfl, rfl, rfl, rfl, rfl, rfl⟩

/-! ## The owners (R33, R34, R61, R109) -/

/-- The front end, the settle, the shown bank and the statistics after a channel's change. -/
def channelOwned (before : State) (c : Nat) (x : State) : State :=
  clearAllStats (clearShown c (settleRequest (settleTime before (feUpdate c x) c) (feStart (feUpdate c x))))

theorem forChannels_only {r : Nat → State → State} (hc : c < 4) (h : ∀ d u, d ≠ c → r d u = u) : forChannels r s = r c s := by
  change r 3 (r 2 (r 1 (r 0 s))) = r c s
  interval_cases c
  · rw [h 3 _ (by decide), h 2 _ (by decide), h 1 _ (by decide)]
  · rw [h 3 _ (by decide), h 2 _ (by decide), h 0 _ (by decide)]
  · rw [h 3 _ (by decide), h 1 _ (by decide), h 0 _ (by decide)]
  · rw [h 2 _ (by decide), h 1 _ (by decide), h 0 _ (by decide)]

theorem changeSettle_channel (hn : frontEndField n) (hc : c < 4) :
    changeSettle before [⟨.channel, c, n⟩] x = settleTime before x c := by
  simp only [changeSettle, wrote_feFields hn, List.foldl_cons, List.foldl_nil]
  interval_cases c <;> simp [longer]

theorem clearsShown_channel (hn : frontEndField n) : clearsShown [⟨.channel, c, n⟩] d = decide (c = d) := by
  rw [clearsShown, wrote_feFields hn, wroteAny_other fun g hg => ?_, Bool.or_false]
  simp only [List.mem_cons, List.not_mem_nil, or_false] at hg
  obtain rfl | rfl | rfl | rfl | rfl := hg <;> nofun

theorem ownersOf_channel {es : List Entry} (hn : frontEndField n) (hc : c < 4) (he : anyClass .restart es = true) (s : State) :
    ownersOf before ⟨.channel, c, n⟩ es s
      = foldIf (recomputes before [⟨.channel, c, n⟩] (channelOwned before c (rescale [⟨.channel, c, n⟩] c s))) levelRecompute
        (channelOwned before c (rescale [⟨.channel, c, n⟩] c s)) := by
  have hrescale : forChannels (rescale [⟨.channel, c, n⟩]) s = rescale [⟨.channel, c, n⟩] c s :=
    forChannels_only hc fun d u hd => foldIf_neg (wrote_scaling.trans (decide_eq_false fun h => hd h.1.symm))
  have hupdate (u : State) : forChannels (fun ch => foldIf (wroteAny [⟨.channel, c, n⟩] (feFields ch)) (feUpdate ch)) u
      = feUpdate c u :=
    (forChannels_only hc fun d u hd => foldIf_neg ((wrote_feFields hn).trans (decide_eq_false hd.symm))).trans
      (foldIf_pos ((wrote_feFields hn).trans (decide_eq_true rfl)))
  have hshown (u : State) : forChannels (fun ch => foldIf (clearsShown [⟨.channel, c, n⟩] ch) (clearShown ch)) u
      = clearShown c u :=
    (forChannels_only hc fun d u hd => foldIf_neg ((clearsShown_channel hn).trans (decide_eq_false hd.symm))).trans
      (foldIf_pos ((clearsShown_channel hn).trans (decide_eq_true rfl)))
  unfold ownersOf channelOwned
  dsimp only
  rw [hrescale, hupdate, hshown, changeSettle_channel hn hc, foldIf_pos he]

/-- The re-clamps of a channel's change (R25). -/
theorem reclamps_channel {e : Entry} (hk : e.id.kind = .channel) (hi : e.id.inst < 4) :
    reclamps [e] [e.id] s = reclampOffset e.id.inst s := by
  have htouch (k : Kind) (j : Nat) : touches [e] k j = (decide (Kind.channel = k) && decide (e.id.inst = j)) := by
    rw [touches_single, ofRecord, hk]
    rfl
  have hbinds (o : Nat) : wroteAny [e.id] [Fld.obBind o, Fld.obBind2 o, Fld.obForm o] = false :=
    wroteAny_other fun g hg => by
      simp only [List.mem_cons, List.not_mem_nil, or_false] at hg
      obtain rfl | rfl | rfl := hg <;> simp [hk]
  unfold reclamps
  dsimp only
  rw [foldl_range_idle 64 fun u o => foldIf_neg (hbinds o), foldl_range_idle 8 fun u m => foldIf_neg (htouch ..),
    foldl_range_idle 4 fun u i => foldIf_neg (htouch ..), foldIf_neg (htouch ..)]
  refine (forChannels_only hi fun d u hd => foldIf_neg ?_).trans (foldIf_pos ?_)
  · rw [htouch]
    simp [hd.symm]
  · rw [htouch]
    simp

end Sys2Proof.Machine
end

section
/-! SUPPORT. What a channel's change leaves, block by block (R33, R34, R61, R66, R67, R70, R109). -/

namespace Sys2Proof.Machine

variable {s u x y before b : State} {f g : FieldId} {c d n ch m : Nat} {w : Int} {F : FeSettings}

/-! ## The front-end line (R33) -/

theorem feUpdate_eq (c : Nat) (s : State) : feUpdate c s = { s with path := (feUpdate c s).path } := by
  unfold feUpdate
  dsimp only
  split <;> rfl

/-- A change that starts a frame of its channel moves the image and the line, and no other block. -/
theorem feSent_eq (c : Nat) (s : State) : feStart (feUpdate c s) = { s with path := (feStart (feUpdate c s)).path } := by
  rw [feStart_eq, feUpdate_eq]

/-- An image that has the settings already sends nothing. -/
theorem feSent_same (hi : s.path.image[c]? = some (s.feSettings c))
    (hl : s.path.sending ≠ none ∨ s.path.pending = [none, none, none, none]) : (feStart (feUpdate c s)).path = s.path := by
  have hidle : feUpdate c s = s := by
    unfold feUpdate
    dsimp only
    rw [if_pos (by simp [List.getD_eq_getElem?_getD, hi])]
  rw [hidle]
  by_cases hs : s.path.sending = none
  · rw [feStart_none hs]
    intro d hd
    rw [hl.resolve_left (not_not.2 hs)]
    interval_cases d <;> rfl
  · obtain ⟨p, hp⟩ := Option.ne_none_iff_exists'.1 hs
    simp only [feStart, hp]

/-- An image that differs takes the settings; a busy line leaves them pending, an idle one with nothing pending sends them. -/
theorem feSent_changed {G : FeSettings} (hc : c < 4) (hi : s.path.image[c]? = some G) (hG : G ≠ s.feSettings c) :
    (s.path.sending ≠ none → (feStart (feUpdate c s)).path = { s.path with
      image := s.path.image.set c (s.feSettings c), pending := s.path.pending.set c (some (s.feSettings c)) })
    ∧ (s.path.sending = none → s.path.pending = [none, none, none, none] → (feStart (feUpdate c s)).path = { s.path with
      image := s.path.image.set c (s.feSettings c), sending := some (c, s.feSettings c) }) := by
  have hput : feUpdate c s = fePut c (s.feSettings c) s := by
    unfold feUpdate
    dsimp only
    rw [if_neg (by simpa [List.getD_eq_getElem?_getD, hi] using hG)]
  rw [hput]
  refine ⟨fun hs => ?_, fun hs hp => ?_⟩
  · obtain ⟨p, hp⟩ := Option.ne_none_iff_exists'.1 hs
    have hbusy : (fePut c (s.feSettings c) s).path.sending = some p := hp
    simp only [feStart, hbusy]
    rfl
  · have hpend : (fePut c (s.feSettings c) s).path.pending = [none, none, none, none].set c (some (s.feSettings c)) := by
      rw [← hp]
      rfl
    rw [feStart_lowest (s := fePut c (s.feSettings c) s) (c := c) (g := s.feSettings c) hs hc (by rw [hpend]; interval_cases c <;> rfl) fun d hd => ?_]
    · rw [hpend]
      interval_cases c <;> simp [fePut, hp]
    · rw [hpend]
      interval_cases c <;> interval_cases d <;> rfl

/-! ## The settle (R34) -/

theorem settleTime_congr {s' u' : State} (hs : ∀ g : FieldId, g.kind = .channel → s'.get g = s.get g)
    (hu : ∀ g : FieldId, g.kind = .channel → u'.get g = u.get g) : settleTime s' u' c = settleTime s u c := by
  simp only [settleTime, hs (Fld.chCoupling c) rfl, hs (Fld.chScale c) rfl, hs (Fld.chOffsetUv c) rfl,
    hs (Fld.chBwLimit c) rfl, hu (Fld.chCoupling c) rfl, hu (Fld.chScale c) rfl, hu (Fld.chOffsetUv c) rfl,
    hu (Fld.chBwLimit c) rfl]

theorem settleTime_eq (s u : State) (c : Nat) : settleTime s u c =
    if u.get (Fld.chCoupling c) ≠ s.get (Fld.chCoupling c) then some 10000
    else if decide (s.get (Fld.chScale c) ≤ 5) ≠ decide (u.get (Fld.chScale c) ≤ 5) then some 10000
    else if u.get (Fld.chScale c) ≠ s.get (Fld.chScale c) ∨ u.get (Fld.chOffsetUv c) ≠ s.get (Fld.chOffsetUv c)
      ∨ u.get (Fld.chBwLimit c) ≠ s.get (Fld.chBwLimit c) then some 1000 else none := by
  simp only [settleTime, decide_eq_true_eq, bne_iff_ne, Bool.or_eq_true, or_assoc,
    ne_comm (a := s.get (Fld.chCoupling c)), ne_comm (a := s.get (Fld.chScale c)), ne_comm (a := s.get (Fld.chOffsetUv c)),
    ne_comm (a := s.get (Fld.chBwLimit c))]

theorem longer_some (a : Nat) (x : Option Nat) : longer (some a) x = some (Nat.max a (x.getD 0)) := by
  cases x with
  | none => exact congrArg some (Nat.max_zero a).symm
  | some _ => rfl

/-! ## The owners but the trigger's -/

theorem writes_channelOwned : x.Writes FieldId.cleared (channelOwned before c x) := by
  have hstore : (clearShown c (settleRequest (settleTime before (feUpdate c x) c) (feStart (feUpdate c x)))).store = x.store :=
    feStart_store.trans (feUpdate_store c)
  exact (writes_of_store hstore).trans writes_clearAllStats

theorem channelOwned_frame : (channelOwned before c x).path = (feStart (feUpdate c x)).path
    ∧ (channelOwned before c x).sweep = { x.sweep with settle := longer x.sweep.settle (settleTime before x c) }
    ∧ (channelOwned before c x).trig = x.trig ∧ (channelOwned before c x).notices = x.notices
    ∧ (channelOwned before c x).meas.pass = x.meas.pass.map (fun p => { p with exclude := true })
    ∧ (channelOwned before c x).meas.stamps = x.meas.stamps ∧ (channelOwned before c x).shell = x.shell := by
  obtain ⟨hpath, -, hsweep, htrig, hnotices, hpass, hstamps⟩ := clearAllStats_frame
    (s := clearShown c (settleRequest (settleTime before (feUpdate c x) c) (feStart (feUpdate c x))))
  have hsettle : settleTime before (feUpdate c x) c = settleTime before x c :=
    settleTime_congr (fun _ _ => rfl) fun g hg => get_of_store (feUpdate_store c) fun h => by rw [h] at hg; cases hg
  have hsent : (feStart (feUpdate c x)).sweep = x.sweep ∧ (feStart (feUpdate c x)).trig = x.trig
      ∧ (feStart (feUpdate c x)).notices = x.notices ∧ (feStart (feUpdate c x)).meas = x.meas := by
    rw [feSent_eq]
    exact ⟨rfl, rfl, rfl, rfl⟩
  obtain ⟨hsweep', htrig', hnotices', hmeas'⟩ := hsent
  refine ⟨hpath, hsweep.trans ?_, htrig.trans htrig', hnotices.trans hnotices', hpass.trans ?_, hstamps.trans ?_, ?_⟩
  · rw [hsettle]
    exact congrArg (fun z : Sweep => { z with settle := longer z.settle (settleTime before x c) }) hsweep'
  · exact congrArg (fun z : Meas => z.pass.map fun p => { p with exclude := true }) hmeas'
  · exact congrArg Meas.stamps hmeas'
  · simp [channelOwned]

theorem shownBank_channelOwned : (channelOwned before c x).shownBank c = none
    ∧ ∀ ch, ch ≠ c → (channelOwned before c x).shownBank ch = x.shownBank ch := by
  have hcomb := (clearAllStats_frame
    (s := clearShown c (settleRequest (settleTime before (feUpdate c x) c) (feStart (feUpdate c x))))).2.1
  have hshown (ch : Nat) : (channelOwned before c x).shownBank ch
      = (clearShown c (settleRequest (settleTime before (feUpdate c x) c) (feStart (feUpdate c x)))).shownBank ch := by
    unfold State.shownBank
    exact congrArg (fun x : Comb => bankOf .shown (x.chan ch)) hcomb
  refine ⟨(hshown c).trans (shownBank_clearShown c), fun ch hch => ?_⟩
  rw [hshown, shownBank_clearShown_other hch.symm]
  unfold State.shownBank
  rw [settleRequest_comb, feSent_eq]

/-! ## The trigger level (R65 to R67, R70) -/

/-- The unlimited level code of a channel, from the live fields (R65). -/
def State.rawLevel (s : State) (c : Nat) : Int :=
  levelCodeRaw (s.get Fld.trLevelUv) (s.get (Fld.chScaleUv c)) (s.get (Fld.chOffsetUv c))

theorem get_levelRecompute (ht : s.tableKept = true) :
    (levelRecompute s).get Fld.trLevelCode = limit 0 1023 (s.rawLevel s.source)
    ∧ (levelRecompute s).get Fld.trLevelClipped = if s.rawLevel s.source < 0 ∨ 1023 < s.rawLevel s.source then 1 else 0 := by
  have hcode : Fld.trLevelCode.stored = true := by decide
  have hclipped : Fld.trLevelClipped.stored = true := by decide
  unfold levelRecompute
  refine ⟨(get_of_store (f := Fld.trLevelCode) (raiseIf_store _ _) nofun).trans ?_,
    (get_of_store (f := Fld.trLevelClipped) (raiseIf_store _ _) nofun).trans ?_⟩
  · exact (get_setVal_other (f := Fld.trLevelClipped) (g := Fld.trLevelCode) nofun).trans (get_setVal_kept ht hcode)
  · rw [get_setVal_kept (tableKept_setVal ht _ _) hclipped]
    exact if_congr decide_eq_true_iff rfl rfl

theorem levelRecompute_frame : (levelRecompute s).path = s.path ∧ (levelRecompute s).comb = s.comb
    ∧ (levelRecompute s).sweep = s.sweep ∧ (levelRecompute s).trig = s.trig ∧ (levelRecompute s).meas = s.meas
    ∧ (levelRecompute s).notices = (if (s.rawLevel s.source < 0 ∨ 1023 < s.rawLevel s.source) ∧ s.get Fld.trLevelClipped = 0
      then raise .levelClipped s else s).notices := by
  have hraise (q : Bool) (u : State) : (raiseIf q .levelClipped u).path = u.path ∧ (raiseIf q .levelClipped u).comb = u.comb
      ∧ (raiseIf q .levelClipped u).sweep = u.sweep ∧ (raiseIf q .levelClipped u).trig = u.trig
      ∧ (raiseIf q .levelClipped u).meas = u.meas
      ∧ (raiseIf q .levelClipped u).notices = (if q = true then raise .levelClipped u else u).notices := by
    cases q <;> exact ⟨rfl, rfl, rfl, rfl, rfl, rfl⟩
  obtain ⟨hpath, hcomb, hsweep, htrig, hmeas, hnotices⟩ := hraise
    (decide (s.rawLevel s.source < 0 ∨ 1023 < s.rawLevel s.source) && !isOn (s.get Fld.trLevelClipped))
    (setVal Fld.trLevelClipped (ofBool (decide (s.rawLevel s.source < 0 ∨ 1023 < s.rawLevel s.source)))
      (setVal Fld.trLevelCode (limit 0 1023 (s.rawLevel s.source)) s))
  refine ⟨hpath, hcomb, hsweep, htrig, hmeas, hnotices.trans ?_⟩
  simp only [Bool.and_eq_true, decide_eq_true_eq, isOn, Bool.not_eq_true', decide_eq_false_iff_not, ne_eq, not_not]
  split <;> rfl

/-- The level is recomputed where the channel is the source and a parameter of the code has moved (R66). -/
theorem recomputes_channel (ho : ∀ d, d ≠ c → y.get (Fld.chOffsetUv d) = before.get (Fld.chOffsetUv d)) :
    recomputes before [⟨.channel, c, n⟩] y = true ↔ y.source = c
      ∧ ((n = 2 ∨ n = 3 ∨ n = 4) ∨ y.get (Fld.chOffsetUv c) ≠ before.get (Fld.chOffsetUv c)) := by
  have hwrote : wroteAny [⟨.channel, c, n⟩] [Fld.trSource, Fld.trLevelUv, Fld.chScale y.source, Fld.chProbe y.source,
      Fld.chOffsetUv y.source] = decide (y.source = c ∧ (n = 2 ∨ n = 3 ∨ n = 4)) := by
    rw [wroteAny_single]
    refine decide_eq_decide.2 ?_
    simp only [List.mem_cons, List.not_mem_nil, or_false, FieldId.mk.injEq, reduceCtorEq, false_and, false_or, true_and,
      eq_comm (a := c), and_or_left]
  unfold recomputes
  dsimp only
  rw [hwrote, Bool.or_eq_true, decide_eq_true_iff, decide_eq_true_iff,
    and_or_left (b := n = 2 ∨ n = 3 ∨ n = 4)]
  refine or_congr_right ?_
  by_cases hs : y.source = c
  · rw [hs, ne_comm]
    simp
  · simp [hs, ho y.source hs]

end Sys2Proof.Machine
end

section
/-! SUPPORT. A channel's change put together: what its application leaves. -/

namespace Sys2Proof.Machine

variable {s u x y b : State} {f g : FieldId} {c n ch m : Nat} {w : Int} {v : BitVec 64} {sp : FieldSpec}

/-! ## The change -/

/-- After the owners but the comparator: the level recomputed where the change calls for it (R66). -/
def channelLevelled (b : State) (c n : Nat) (x : State) : State :=
  foldIf (recomputes b [⟨.channel, c, n⟩] (channelOwned b c x)) levelRecompute (channelOwned b c x)

/-- The state after the change of one front-end field. -/
def channelChanged (c n : Nat) (w : Int) (b : State) : State :=
  oweRetry (disarmIfChanged b (channelLevelled b c n (channelWritten c n w b)))

theorem plainChange_channel (hn : frontEndField n) (hc : c < 4) (hs : specAt .channel n = some sp) (hr : sp.cls = .restart)
    (hty : sp.ty ≠ .cursorRef) (hty' : sp.ty ≠ .bindRef) (b : State) :
    plainChange [{ id := ⟨.channel, c, n⟩, val := .int w }] b
      = disarmIfChanged b (channelLevelled b c n (channelWritten c n w b)) := by
  have hrestart : anyClass .restart [{ id := ⟨.channel, c, n⟩, val := .int w }] = true := by simp [anyClass, classOf, hs, hr]
  have hentry : applyEntry false (b, []) { id := ⟨.channel, c, n⟩, val := .int w }
      = (setVal ⟨.channel, c, n⟩ w b, [⟨.channel, c, n⟩]) := applyEntry_int hs hty hty'
  have hre : reclamps [{ id := ⟨.channel, c, n⟩, val := .int w }] [⟨.channel, c, n⟩] (setVal ⟨.channel, c, n⟩ w b)
      = reclampOffset c (setVal ⟨.channel, c, n⟩ w b) :=
    reclamps_channel (e := { id := ⟨.channel, c, n⟩, val := .int w }) rfl hc
  have hauto : (reclampOffset c (setVal ⟨.channel, c, n⟩ w b)).get Fld.trAutoLevel = b.get Fld.trAutoLevel :=
    (get_setVal_other (g := Fld.trAutoLevel) (f := Fld.chOffsetUv c) nofun).trans
      (get_setVal_other (g := Fld.trAutoLevel) (f := ⟨.channel, c, n⟩) nofun)
  have hsingle := consequences_single (f := ⟨.channel, c, n⟩) (before := b)
    (es := [{ id := ⟨.channel, c, n⟩, val := .int w }]) nofun nofun nofun nofun hauto
  rw [plainChange_single hentry hre fun i => get_setVal_other (g := Fld.meGate i) (f := Fld.chOffsetUv c) nofun, hsingle,
    ownersOf_channel hn hc hrestart]
  rfl

/-- The checks and the value of a write to a front-end field (R7, R8, R25). -/
theorem channelWrite_checked (hq : s.store.queue = [])
    (hv : ((n = 1 ∨ n = 3) ∧ 0 ≤ v.toInt ∧ v.toInt < 3 ∧ w = v.toInt) ∨ (n = 6 ∧ 0 ≤ v.toInt ∧ v.toInt < 2 ∧ w = v.toInt)
      ∨ (n = 2 ∧ w = limit 0 11 v.toInt)
      ∨ (n = 4 ∧ w = limit (-(offsetLimit (s.get (Fld.chScale c)) (s.get (Fld.chProbe c))))
          (offsetLimit (s.get (Fld.chScale c)) (s.get (Fld.chProbe c))) (limit (-10000000000) 10000000000 v.toInt))) :
    frontEndField n ∧ ∃ sp, specAt .channel n = some sp ∧ sp.cls = .restart ∧ sp.ty ≠ .cursorRef ∧ sp.ty ≠ .bindRef
      ∧ s.writeCheck .loose ⟨.channel, c, n⟩ sp v.toInt = none
      ∧ s.storedValue .loose ⟨.channel, c, n⟩ sp v.toInt = (w, decide (w ≠ v.toInt)) := by
  have heff (g : FieldId) : s.eff g = s.get g := by simp [State.eff, State.queued, newestHolding, hq]
  obtain ⟨rfl | rfl, hlo, hhi, rfl⟩ | ⟨rfl, hlo, hhi, rfl⟩ | ⟨rfl, rfl⟩ | ⟨rfl, rfl⟩ := hv
  · refine ⟨.inl rfl, _, rfl, rfl, nofun, nofun, ?_, ?_⟩
    · exact writeCheck_passes (by simp) (enumOk_enum rfl ⟨hlo, hhi⟩ (by simp)) (by simp [State.refOk])
    · rw [storedValue_kept (by simp) (by simp)]
      simp
  · refine ⟨.inr (.inr (.inl rfl)), _, rfl, rfl, nofun, nofun, ?_, ?_⟩
    · exact writeCheck_passes (by simp) (enumOk_enum rfl ⟨hlo, hhi⟩ (by simp)) (by simp [State.refOk])
    · rw [storedValue_kept (by simp) (by simp)]
      simp
  · refine ⟨.inr (.inr (.inr (.inr rfl))), _, rfl, rfl, nofun, nofun, ?_, ?_⟩
    · exact writeCheck_passes (by simp) (enumOk_enum rfl ⟨hlo, hhi⟩ (by simp)) (by simp [State.refOk])
    · rw [storedValue_kept (by simp) (by simp)]
      simp
  · refine ⟨.inr (.inl rfl), _, rfl, rfl, nofun, nofun, ?_, ?_⟩
    · exact writeCheck_passes (by simp) (enumOk_numeric rfl) (by simp [State.refOk])
    · simp [State.storedValue, State.dependentClamp]
  · refine ⟨.inr (.inr (.inr (.inl rfl))), _, rfl, rfl, nofun, nofun, ?_, ?_⟩
    · exact writeCheck_passes (by simp) (enumOk_numeric rfl) (by simp [State.refOk])
    · simp [State.storedValue, State.dependentClamp, State.refVal, heff]

/-! ## The fields -/

theorem disarmIfChanged_frame (b s : State) : (disarmIfChanged b s).store = s.store ∧ (disarmIfChanged b s).path = s.path
    ∧ (disarmIfChanged b s).comb = s.comb ∧ (disarmIfChanged b s).sweep = s.sweep
    ∧ (disarmIfChanged b s).meas = s.meas := by
  unfold disarmIfChanged
  split <;> exact ⟨rfl, rfl, rfl, rfl, rfl⟩

theorem disarmIfChanged_notices (b s : State) : (disarmIfChanged b s).notices = s.notices := by
  unfold disarmIfChanged
  split <;> rfl

theorem writes_channelLevelled : (channelOwned b c x).Writes (fun g => g = Fld.trLevelCode ∨ g = Fld.trLevelClipped)
    (channelLevelled b c n x) := writes_foldIf fun _ => writes_levelRecompute

theorem channelChanged_store (c n : Nat) (w : Int) (b : State) :
    (channelChanged c n w b).store = (channelLevelled b c n (channelWritten c n w b)).store :=
  (disarmIfChanged_frame b _).1

theorem writes_channelChanged : (channelWritten c n w b).Writes
    (fun g => g.cleared ∨ g = Fld.trLevelCode ∨ g = Fld.trLevelClipped) (channelChanged c n w b) :=
  ((writes_channelOwned.mono fun _ => .inl).trans (writes_channelLevelled.mono fun _ => .inr)).of_store
    (channelChanged_store c n w b)

/-- A channel field reads as the change's records say. -/
theorem get_channelChanged_channel (hg : g.kind = .channel) :
    (channelChanged c n w b).get g = (channelWritten c n w b).get g :=
  writes_get writes_channelChanged
    (by rintro (h | rfl | rfl)
        · rw [h.1] at hg; cases hg
        · cases hg
        · cases hg)
    fun h => by rw [h] at hg; cases hg

/-- No other field moves but the level's and a measurement's statistics. -/
theorem get_channelChanged_other (hg : g ≠ ⟨.channel, c, n⟩) (ho : g ≠ Fld.chOffsetUv c) (hs : g ≠ Fld.chScaleUv c)
    (hstate : g ≠ Fld.tbState) (hcode : g ≠ Fld.trLevelCode) (hclip : g ≠ Fld.trLevelClipped)
    (hm : g.kind = .measurement → g.num < 10 ∨ g.num = 14) : (channelChanged c n w b).get g = b.get g := by
  refine (writes_get writes_channelChanged ?_ hstate).trans (get_channelWritten_other hg ho hs)
  rintro (⟨hk, hlow, hout⟩ | h | h)
  · have := hm hk
    omega
  · exact hcode h
  · exact hclip h

theorem tableKept_channelOwned (ht : b.tableKept = true) : (channelOwned b c (channelWritten c n w b)).tableKept = true :=
  (writes_keeps writes_channelOwned).table ((writes_keeps writes_channelWritten).table ht)

/-- The statistics of the live measurements are cleared (R109). -/
theorem get_channelChanged_cleared (ht : b.tableKept = true) (hm : b.isLive .measurement m = true) (hf : f ∈ clearedFields m) :
    (channelChanged c n w b).get f = 0 := by
  obtain ⟨hk, -, -, -⟩ := clearedFields_place hf
  have hstate : f ≠ Fld.tbState := fun h => by rw [h] at hk; cases hk
  have hlevel : (channelChanged c n w b).get f = (channelOwned b c (channelWritten c n w b)).get f :=
    (get_of_store (channelChanged_store c n w b) hstate).trans
      (writes_get writes_channelLevelled (by rintro (rfl | rfl) <;> cases hk) hstate)
  have hstore : (clearShown c (settleRequest (settleTime b (feUpdate c (channelWritten c n w b)) c)
      (feStart (feUpdate c (channelWritten c n w b))))).store = (channelWritten c n w b).store :=
    feStart_store.trans (feUpdate_store c)
  have hwritten := (writes_channelWritten (s := b) (c := c) (n := n) (w := w)).of_store hstore
  rw [hlevel]
  exact get_clearAllStats ((writes_keeps hwritten).table ht) ((writes_recordsKept hwritten .measurement m).1.trans hm) hf

/-! ## The other blocks -/

theorem channelLevelled_frame : (channelLevelled b c n x).path = (channelOwned b c x).path
    ∧ (channelLevelled b c n x).comb = (channelOwned b c x).comb ∧ (channelLevelled b c n x).sweep = (channelOwned b c x).sweep
    ∧ (channelLevelled b c n x).trig = (channelOwned b c x).trig ∧ (channelLevelled b c n x).meas = (channelOwned b c x).meas
    ∧ (channelLevelled b c n x).shell = (channelOwned b c x).shell := by
  unfold channelLevelled
  cases recomputes b [⟨.channel, c, n⟩] (channelOwned b c x) with
  | false => exact ⟨rfl, rfl, rfl, rfl, rfl, rfl⟩
  | true =>
    obtain ⟨hpath, hcomb, hsweep, htrig, hmeas, -⟩ := levelRecompute_frame (s := channelOwned b c x)
    exact ⟨hpath, hcomb, hsweep, htrig, hmeas, shell_levelRecompute⟩

theorem channelChanged_frame :
    (channelChanged c n w b).path = (feStart (feUpdate c (channelWritten c n w b))).path
    ∧ (channelChanged c n w b).sweep = { b.sweep with
        settle := longer b.sweep.settle (settleTime b (channelWritten c n w b) c) }
    ∧ (channelChanged c n w b).meas.pass = b.meas.pass.map (fun p => { p with exclude := true })
    ∧ (channelChanged c n w b).meas.stamps = b.meas.stamps ∧ (channelChanged c n w b).shell = b.shell
    ∧ (channelChanged c n w b).shownBank c = none
    ∧ ∀ ch, ch ≠ c → (channelChanged c n w b).shownBank ch = b.shownBank ch := by
  obtain ⟨-, hcomb, hsweep, -, hmeas, -, hshell⟩ := channelWritten_frame (s := b) (c := c) (n := n) (w := w)
  obtain ⟨hpath', hsweep', -, -, hpass', hstamps', hshell'⟩ :=
    channelOwned_frame (before := b) (c := c) (x := channelWritten c n w b)
  obtain ⟨hpath₂, hcomb₂, hsweep₂, -, hmeas₂, hshell₂⟩ := channelLevelled_frame (b := b) (c := c) (n := n)
    (x := channelWritten c n w b)
  obtain ⟨-, hpath₃, hcomb₃, hsweep₃, hmeas₃⟩ := disarmIfChanged_frame b (channelLevelled b c n (channelWritten c n w b))
  obtain ⟨hshown, hshown'⟩ := shownBank_channelOwned (before := b) (c := c) (x := channelWritten c n w b)
  have hbank (ch : Nat) : (channelChanged c n w b).shownBank ch = (channelOwned b c (channelWritten c n w b)).shownBank ch :=
    congrArg (fun x : Comb => bankOf .shown (x.chan ch)) (hcomb₃.trans hcomb₂)
  have hmeasAll : (channelChanged c n w b).meas = (channelOwned b c (channelWritten c n w b)).meas := hmeas₃.trans hmeas₂
  refine ⟨hpath₃.trans (hpath₂.trans hpath'), hsweep₃.trans (hsweep₂.trans (hsweep'.trans ?_)), ?_, ?_,
    (shell_disarmIfChanged b).trans (hshell₂.trans (hshell'.trans hshell)), (hbank c).trans hshown, fun ch hch => ?_⟩
  · rw [hsweep]
  · rw [hmeasAll, hpass', hmeas]
  · rw [hmeasAll, hstamps', hmeas]
  · rw [hbank, hshown' ch hch]
    exact congrArg (fun x : Comb => bankOf .shown (x.chan ch)) hcomb

/-! ## The level and the comparator (R66, R67, R70) -/

/-- The unlimited code by the live level and the channel's fields after the change (R65). -/
def channelRaw (c n : Nat) (w : Int) (b : State) : Int :=
  levelCodeRaw (b.get Fld.trLevelUv) ((channelWritten c n w b).get (Fld.chScaleUv c))
    ((channelWritten c n w b).get (Fld.chOffsetUv c))

theorem get_channelOwned (hg : g.kind = .channel ∨ g.kind = .trigger) :
    (channelOwned b c x).get g = x.get g :=
  writes_get writes_channelOwned (fun h => by rw [h.1] at hg; simp at hg) fun h => by rw [h] at hg; simp at hg

theorem get_channelOwned_trigger (hg : g.kind = .trigger) : (channelOwned b c (channelWritten c n w b)).get g = b.get g :=
  (get_channelOwned (.inr hg)).trans (get_channelWritten_other (by rintro rfl; cases hg) (by rintro rfl; cases hg)
    (by rintro rfl; cases hg))

theorem recomputes_channelOwned : recomputes b [⟨.channel, c, n⟩] (channelOwned b c (channelWritten c n w b)) = true ↔
    b.source = c ∧ ((n = 2 ∨ n = 3 ∨ n = 4)
      ∨ (channelWritten c n w b).get (Fld.chOffsetUv c) ≠ b.get (Fld.chOffsetUv c)) := by
  rw [recomputes_channel fun d hd => ?_, State.source, get_channelOwned_trigger rfl, ← State.source, get_channelOwned (.inl rfl)]
  rw [get_channelOwned (.inl rfl)]
  exact get_channelWritten_other (by simp [hd]) (by simp [hd]) (by simp)

theorem raisedIf_notices {p : Prop} [Decidable p] {k : Source} (h : u.notices = s.notices) :
    (if p then raise k u else u).notices = (if p then raise k s else s).notices := by
  split
  · rw [raise_notices, raise_notices, h]
  · exact h

/-- The level of a source whose code's parameters moved (R65 to R67). -/
theorem channelChanged_level (ht : b.tableKept = true) (hs : b.source = c) (hm : (n = 2 ∨ n = 3 ∨ n = 4)
      ∨ (channelWritten c n w b).get (Fld.chOffsetUv c) ≠ b.get (Fld.chOffsetUv c)) :
    (channelChanged c n w b).get Fld.trLevelCode = limit 0 1023 (channelRaw c n w b)
    ∧ (channelChanged c n w b).get Fld.trLevelClipped
      = (if channelRaw c n w b < 0 ∨ 1023 < channelRaw c n w b then 1 else 0)
    ∧ (channelChanged c n w b).notices = (if (channelRaw c n w b < 0 ∨ 1023 < channelRaw c n w b)
        ∧ b.get Fld.trLevelClipped = 0 then raise .levelClipped b else b).notices := by
  have hlevel : channelLevelled b c n (channelWritten c n w b) = levelRecompute (channelOwned b c (channelWritten c n w b)) :=
    foldIf_pos (recomputes_channelOwned.2 ⟨hs, hm⟩)
  have hsource : (channelOwned b c (channelWritten c n w b)).source = c := by
    rw [State.source, get_channelOwned_trigger rfl]
    exact hs
  have hraw : (channelOwned b c (channelWritten c n w b)).rawLevel c = channelRaw c n w b := by
    rw [State.rawLevel, get_channelOwned_trigger rfl, get_channelOwned (.inl rfl), get_channelOwned (.inl rfl), channelRaw]
  have hstore := channelChanged_store c n w b
  obtain ⟨hcode, hclipped⟩ := get_levelRecompute (tableKept_channelOwned (c := c) (n := n) (w := w) ht)
  obtain ⟨-, -, -, -, -, hnotices⟩ := levelRecompute_frame (s := channelOwned b c (channelWritten c n w b))
  obtain ⟨-, -, -, hnotices', -, -, -⟩ := channelOwned_frame (before := b) (c := c) (x := channelWritten c n w b)
  obtain ⟨-, -, -, -, -, hnotices₀, -⟩ := channelWritten_frame (s := b) (c := c) (n := n) (w := w)
  rw [hsource, hraw] at hcode hclipped hnotices
  rw [hlevel] at hstore
  refine ⟨(get_of_store (f := Fld.trLevelCode) hstore nofun).trans hcode,
    (get_of_store (f := Fld.trLevelClipped) hstore nofun).trans hclipped, ?_⟩
  refine (disarmIfChanged_notices b _).trans ?_
  rw [hlevel, hnotices, get_channelOwned_trigger rfl]
  exact raisedIf_notices (hnotices'.trans hnotices₀)

/-- Any other channel's change leaves the level. -/
theorem channelChanged_level_kept (h : ¬ (b.source = c ∧ ((n = 2 ∨ n = 3 ∨ n = 4)
      ∨ (channelWritten c n w b).get (Fld.chOffsetUv c) ≠ b.get (Fld.chOffsetUv c)))) :
    (channelChanged c n w b).get Fld.trLevelCode = b.get Fld.trLevelCode
    ∧ (channelChanged c n w b).get Fld.trLevelClipped = b.get Fld.trLevelClipped
    ∧ (channelChanged c n w b).notices = b.notices := by
  have hlevel : channelLevelled b c n (channelWritten c n w b) = channelOwned b c (channelWritten c n w b) :=
    foldIf_neg (eq_false_of_ne_true fun hr => h (recomputes_channelOwned.1 hr))
  have hstore := channelChanged_store c n w b
  rw [hlevel] at hstore
  obtain ⟨-, -, -, hnotices', -, -, -⟩ := channelOwned_frame (before := b) (c := c) (x := channelWritten c n w b)
  obtain ⟨-, -, -, -, -, hnotices₀, -⟩ := channelWritten_frame (s := b) (c := c) (n := n) (w := w)
  refine ⟨(get_of_store (f := Fld.trLevelCode) hstore nofun).trans (get_channelOwned_trigger rfl),
    (get_of_store (f := Fld.trLevelClipped) hstore nofun).trans (get_channelOwned_trigger rfl), ?_⟩
  refine (disarmIfChanged_notices b _).trans ?_
  rw [hlevel, hnotices', hnotices₀]

/-- The comparator is disarmed where the code moved (R70). -/
theorem channelChanged_trig : (channelChanged c n w b).trig =
    if (channelChanged c n w b).get Fld.trLevelCode = b.get Fld.trLevelCode then b.trig
      else { b.trig with armedRise := false, armedFall := false } := by
  obtain ⟨-, -, -, htrig₀, -, -, -⟩ := channelWritten_frame (s := b) (c := c) (n := n) (w := w)
  obtain ⟨-, -, htrig₁, -, -, -, -⟩ := channelOwned_frame (before := b) (c := c) (x := channelWritten c n w b)
  obtain ⟨-, -, -, htrig₂, -, -⟩ := channelLevelled_frame (b := b) (c := c) (n := n) (x := channelWritten c n w b)
  have htrig : (channelLevelled b c n (channelWritten c n w b)).trig = b.trig := htrig₂.trans (htrig₁.trans htrig₀)
  have hparam (g : FieldId) (hg : g.kind = .trigger) (hcode : g ≠ Fld.trLevelCode) (hclip : g ≠ Fld.trLevelClipped) :
      (channelLevelled b c n (channelWritten c n w b)).get g = b.get g :=
    (writes_get writes_channelLevelled (not_or.2 ⟨hcode, hclip⟩) fun h => by rw [h] at hg; cases hg).trans
      (get_channelOwned_trigger hg)
  have hcode : (channelChanged c n w b).get Fld.trLevelCode
      = (channelLevelled b c n (channelWritten c n w b)).get Fld.trLevelCode :=
    get_of_store (f := Fld.trLevelCode) (channelChanged_store c n w b) nofun
  rw [hcode]
  change (disarmIfChanged b (channelLevelled b c n (channelWritten c n w b))).trig = _
  unfold disarmIfChanged
  simp only [hparam Fld.trSlope rfl nofun nofun, hparam Fld.trHysteresis rfl nofun nofun,
    hparam Fld.trSource rfl nofun nofun, ne_eq, not_true_eq_false, or_false, ite_not, eq_comm (a := b.get Fld.trLevelCode)]
  split
  · exact htrig
  · exact congrArg (fun x : Trig => { x with armedRise := false, armedFall := false }) htrig

end Sys2Proof.Machine
end

section
/-! SUPPORT. A loose write of a CHANNEL's front-end field (R22, R83, R84), and the statement about RESTART writes. -/

namespace Sys2Proof.Machine

variable {s u : State} {f g : FieldId} {c n m : Nat} {w : Int} {v : BitVec 64}

/-- The state after the write of a channel's front-end field: the change in the abandoned state, and the next state. -/
def channelRestarted (c n : Nat) (w : Int) (s : State) : State :=
  restartNext s.sweep.acq (channelChanged c n w (restartAbandon s))

/-- The write's answer: the change in the abandoned state, and the next state (R83, R84). -/
theorem exec_write_channel (hs : s.takes (.write (BitVec.ofNat 16 (16 * c)) (BitVec.ofNat 8 n) v) = true)
    (ht : s.tableKept = true) (hc : c < 4) (hq : s.store.queue = []) (hg : s.holdingGroup = none) (hp : 0 < s.poolFree)
    (hv : ((n = 1 ∨ n = 3) ∧ 0 ≤ v.toInt ∧ v.toInt < 3 ∧ w = v.toInt) ∨ (n = 6 ∧ 0 ≤ v.toInt ∧ v.toInt < 2 ∧ w = v.toInt)
      ∨ (n = 2 ∧ w = limit 0 11 v.toInt)
      ∨ (n = 4 ∧ w = limit (-(offsetLimit (s.get (Fld.chScale c)) (s.get (Fld.chProbe c))))
          (offsetLimit (s.get (Fld.chScale c)) (s.get (Fld.chProbe c))) (limit (-10000000000) 10000000000 v.toInt))) :
    exec (.write (BitVec.ofNat 16 (16 * c)) (BitVec.ofNat 8 n) v) s
      = .next ((channelRestarted c n w s).answer (if w = v.toInt then .ok else .clamped) (beBytes 8 w) .none) := by
  obtain ⟨hn, sp, hspec, hcls, hty, hty', hcheck, hvalue⟩ := channelWrite_checked (c := c) hq hv
  have hn256 : n < 256 := by obtain rfl | rfl | rfl | rfl | rfl := hn <;> decide
  have hf := fieldAt_fixed (k := .channel) (w := 16 * c) ht rfl hc (by simp [handleCode, kindCode]; omega) hn256 hspec
  have hrestart : anyClass .restart [{ id := ⟨.channel, c, n⟩, val := .int w }] = true := by
    simp [anyClass, classOf, hspec, hcls]
  rw [exec_write_loose hs hf (by simp [hcls]) hg hcheck hq hp hvalue, joinQueue_restarts hq hrestart,
    plainChange_channel hn hc hspec hcls hty hty']
  rfl

theorem feSettings_congr (h : ∀ g : FieldId, g.kind = .channel → u.get g = s.get g) : u.feSettings c = s.feSettings c := by
  simp only [State.feSettings, h (Fld.chScale c) rfl, h (Fld.chCoupling c) rfl, h (Fld.chOffsetUv c) rfl,
    h (Fld.chProbe c) rfl, h (Fld.chBwLimit c) rfl]

/-- The next state after a restart (R84): as it was, SETTLING, or a new capture. -/
theorem restartNext_sweep {z : State} {base : Sweep} (hz : z.sweep = { base with
      acq := if s.sweep.acq.capture then .settling else s.sweep.acq }) (hacq : base.acq = s.sweep.acq)
    (hcount : base.colCount = 0) (hforce : base.force = false)
    (hget : ∀ g : FieldId, g.kind = .timebase → g ≠ Fld.tbAvgDepth → g ≠ Fld.tbState → z.get g = s.get g) :
    (s.sweep.acq = .stopped ∨ s.sweep.acq = .settling → (restartNext s.sweep.acq z).sweep = base)
    ∧ (s.sweep.acq ≠ .stopped → s.sweep.acq ≠ .settling →
      (base.settle ≠ none → (restartNext s.sweep.acq z).sweep = { base with acq := .settling })
      ∧ (base.settle = none → (restartNext s.sweep.acq z).comb.cap = s.captureNow
          ∧ (0 < s.get Fld.tbTrigColumn →
            (restartNext s.sweep.acq z).sweep = { base with acq := .arming, trigKind := .none })
          ∧ (s.get Fld.tbTrigColumn = 0 →
            (restartNext s.sweep.acq z).sweep = State.startsWaiting { s with sweep := base }))) := by
  have hsettle : z.sweep.settle = base.settle := by rw [hz]
  refine ⟨fun h => ?_, fun h h' => ⟨fun hd => ?_, fun hd => ?_⟩⟩
  · have hsame : (if s.sweep.acq.capture then Acq.settling else s.sweep.acq) = base.acq := by
      rw [hacq]
      obtain h | h := h <;> rw [h] <;> rfl
    rw [restartNext_stays h, hz, hsame]
  · rw [restartNext_goes h h', settleOrArm_settling (hsettle ▸ hd), setAcq_sweep, hz]
  · have hstart : z.captureSweep = if 0 < s.get Fld.tbTrigColumn then
        { base with acq := .arming, colCount := 0, trigKind := .none } else State.startsWaiting { s with sweep := base } := by
      refine captureSweep_restarted (a := if s.sweep.acq.capture then .settling else s.sweep.acq) (hz.trans ?_) hforce fun g hg => ?_
      · exact congrArg (fun m => ({ base with
          acq := if s.sweep.acq.capture then .settling else s.sweep.acq, colCount := m } : Sweep)) hcount
      · obtain rfl | rfl | rfl := hg <;> exact hget _ rfl nofun nofun
    have hcap : z.captureNow = s.captureNow := by
      rw [captureNow_restarted (s := s) fun g hg => ?_, hget Fld.tbMode rfl nofun nofun]
      · rfl
      · obtain rfl | rfl | rfl := hg <;> exact hget _ rfl nofun nofun
    rw [restartNext_goes h h', settleOrArm_arm (hsettle.trans hd), captureStart_sweep, captureStart_capture.1, hstart]
    refine ⟨hcap, fun hp => ?_, fun hp => if_neg (by omega)⟩
    rw [if_pos hp, ← hcount]

/-! ## The state after a channel's write, view by view -/

theorem channelRestarted_store : (channelRestarted c n w s).store = (channelChanged c n w (restartAbandon s)).store :=
  restartNext_store _

theorem writes_channelRestarted : s.Writes (fun _ => True) (channelRestarted c n w s) :=
  (((writes_restartAbandon.mono fun _ _ => trivial).trans (writes_channelWritten.mono fun _ _ => trivial)).trans
    (writes_channelChanged.mono fun _ _ => trivial)).of_store channelRestarted_store

/-- In phase 1 the fields but AVG_DEPTH stand (R83). -/
theorem get_restartAbandon (hd : g ≠ Fld.tbAvgDepth) (hs : g ≠ Fld.tbState) : (restartAbandon s).get g = s.get g :=
  writes_get writes_restartAbandon hd hs

theorem get_restartAbandon_channel (hk : g.kind = .channel) : (restartAbandon s).get g = s.get g :=
  get_restartAbandon (fun h => by rw [h] at hk; cases hk) fun h => by rw [h] at hk; cases hk

theorem get_restartAbandon_trigger (hk : g.kind = .trigger) : (restartAbandon s).get g = s.get g :=
  get_restartAbandon (fun h => by rw [h] at hk; cases hk) fun h => by rw [h] at hk; cases hk

theorem tableKept_restartAbandon (ht : s.tableKept = true) : (restartAbandon s).tableKept = true :=
  (writes_keeps writes_restartAbandon).table ht

theorem get_channelRestarted (hs : g ≠ Fld.tbState) :
    (channelRestarted c n w s).get g = (channelChanged c n w (restartAbandon s)).get g := get_of_store channelRestarted_store hs

theorem get_channelRestarted_channel (hk : g.kind = .channel) :
    (channelRestarted c n w s).get g = (channelWritten c n w (restartAbandon s)).get g :=
  (get_channelRestarted fun h => by rw [h] at hk; cases hk).trans (get_channelChanged_channel hk)

/-- No other field moves but the level's, AVG_DEPTH and a measurement's statistics. -/
theorem get_channelRestarted_other (hg : g ≠ ⟨.channel, c, n⟩) (ho : g ≠ Fld.chOffsetUv c) (hs : g ≠ Fld.chScaleUv c)
    (hd : g ≠ Fld.tbAvgDepth) (hstate : g ≠ Fld.tbState) (hcode : g ≠ Fld.trLevelCode) (hclip : g ≠ Fld.trLevelClipped)
    (hm : g.kind = .measurement → g.num < 10 ∨ g.num = 14) : (channelRestarted c n w s).get g = s.get g :=
  (get_channelRestarted hstate).trans ((get_channelChanged_other hg ho hs hstate hcode hclip hm).trans
    (get_restartAbandon hd hstate))

/-- The records: the field, OFFSET_UV within its limit, SCALE_UV by SCALE and PROBE (R25, R29), and AVG_DEPTH 0 (R83). -/
theorem channelRestarted_records (hn : frontEndField n) (hc : c < 4) (ht : s.tableKept = true) :
    (n ≠ 4 → (channelRestarted c n w s).get ⟨.channel, c, n⟩ = w)
    ∧ (channelRestarted c n w s).get (Fld.chOffsetUv c)
      = limit (-(offsetLimit ((channelRestarted c n w s).get (Fld.chScale c)) ((channelRestarted c n w s).get (Fld.chProbe c))))
        (offsetLimit ((channelRestarted c n w s).get (Fld.chScale c)) ((channelRestarted c n w s).get (Fld.chProbe c)))
        (if n = 4 then w else s.get (Fld.chOffsetUv c))
    ∧ (channelRestarted c n w s).get (Fld.chScaleUv c) = (if n = 2 ∨ n = 3 then
        baseScale ((channelRestarted c n w s).get (Fld.chScale c)) * probeFactor ((channelRestarted c n w s).get (Fld.chProbe c))
      else s.get (Fld.chScaleUv c))
    ∧ (channelRestarted c n w s).get Fld.tbAvgDepth = 0 := by
  obtain ⟨hfield, hoffset, hscale⟩ := get_channelWritten (w := w) hn hc (tableKept_restartAbandon ht)
  have hdepth : (restartAbandon s).get Fld.tbAvgDepth = 0 :=
    (get_of_store (f := Fld.tbAvgDepth) restartAbandon_store nofun).trans (get_setVal_kept ht (by decide))
  have hch (m : Nat) := get_channelRestarted_channel (g := ⟨.channel, c, m⟩) (c := c) (n := n) (w := w) (s := s) rfl
  rw [hch, hch, hch, hch, hch, hoffset, hscale, get_restartAbandon_channel rfl, get_restartAbandon_channel rfl]
  refine ⟨hfield, rfl, rfl, (get_channelRestarted (g := Fld.tbAvgDepth) nofun).trans (Eq.trans ?_ hdepth)⟩
  refine get_channelChanged_other ?_ ?_ ?_ ?_ ?_ ?_ ?_ <;> nofun

/-- The front end's image and line take the settings where they differ (R33). -/
theorem channelRestarted_path : ∃ x : State, (channelRestarted c n w s).path = (feStart (feUpdate c x)).path ∧ x.path = s.path
    ∧ x.feSettings c = (channelRestarted c n w s).feSettings c := by
  obtain ⟨hwritten, -⟩ := channelWritten_frame (s := restartAbandon s) (c := c) (n := n) (w := w)
  obtain ⟨habandoned, -⟩ := restartAbandon_frame (s := s)
  obtain ⟨hchanged, -⟩ := channelChanged_frame (c := c) (n := n) (w := w) (b := restartAbandon s)
  obtain ⟨-, hnext, -⟩ := restartNext_frame (a := s.sweep.acq) (s := channelChanged c n w (restartAbandon s))
  exact ⟨channelWritten c n w (restartAbandon s), hnext.trans hchanged, hwritten.trans habandoned,
    feSettings_congr fun g hk => (get_channelRestarted_channel hk).symm⟩

theorem channelRestarted_path_same (hi : s.path.image[c]? = some ((channelRestarted c n w s).feSettings c))
    (hl : s.path.sending ≠ none ∨ s.path.pending = [none, none, none, none]) : (channelRestarted c n w s).path = s.path := by
  obtain ⟨x, hsent, hpath, hF⟩ := channelRestarted_path (c := c) (n := n) (w := w) (s := s)
  rw [← hF, ← hpath] at hi
  rw [← hpath] at hl
  rw [hsent, feSent_same hi hl, hpath]

theorem channelRestarted_path_changed {G : FeSettings} (hc : c < 4) (hi : s.path.image[c]? = some G)
    (hG : G ≠ (channelRestarted c n w s).feSettings c) :
    (s.path.sending ≠ none → (channelRestarted c n w s).path = { s.path with
      image := s.path.image.set c ((channelRestarted c n w s).feSettings c)
      pending := s.path.pending.set c (some ((channelRestarted c n w s).feSettings c)) })
    ∧ (s.path.sending = none → s.path.pending = [none, none, none, none] → (channelRestarted c n w s).path = { s.path with
      image := s.path.image.set c ((channelRestarted c n w s).feSettings c)
      sending := some (c, (channelRestarted c n w s).feSettings c) }) := by
  obtain ⟨x, hsent, hpath, hF⟩ := channelRestarted_path (c := c) (n := n) (w := w) (s := s)
  rw [← hF] at hG ⊢
  rw [hsent, ← hpath]
  rw [← hpath] at hi
  exact feSent_changed hc hi hG

/-- The sweep controller as phase 1 and the change's settle leave it (R34, R72, R83). -/
def State.settledSweep (s : State) (u : Option Nat) : Sweep :=
  { s.sweep with settle := longer s.sweep.settle u, force := false, auto := none, holdoff := none, colCount := 0 }

theorem channelChanged_sweep : (channelChanged c n w (restartAbandon s)).sweep
    = { s.settledSweep (settleTime s (channelRestarted c n w s) c) with
        acq := if s.sweep.acq.capture then .settling else s.sweep.acq } := by
  obtain ⟨-, hsweep, -⟩ := channelChanged_frame (c := c) (n := n) (w := w) (b := restartAbandon s)
  have hsettle : settleTime (restartAbandon s) (channelWritten c n w (restartAbandon s)) c
      = settleTime s (channelRestarted c n w s) c :=
    settleTime_congr (fun g hk => get_restartAbandon_channel hk) fun g hk => (get_channelRestarted_channel hk).symm
  rw [hsweep, restartAbandon_sweep, hsettle]
  rfl

/-- The level where the channel is the source and a parameter of its code moved (R65 to R67). -/
theorem channelRestarted_level {raw : Int} (ht : s.tableKept = true) (hs : s.source = c) (hm : n = 2 ∨ n = 3 ∨ n = 4
      ∨ (channelRestarted c n w s).get (Fld.chOffsetUv c) ≠ s.get (Fld.chOffsetUv c))
    (hraw : raw = levelCodeRaw (s.get Fld.trLevelUv) ((channelRestarted c n w s).get (Fld.chScaleUv c))
      ((channelRestarted c n w s).get (Fld.chOffsetUv c))) :
    (channelRestarted c n w s).get Fld.trLevelCode = limit 0 1023 raw
    ∧ (channelRestarted c n w s).get Fld.trLevelClipped = (if raw < 0 ∨ 1023 < raw then 1 else 0)
    ∧ (channelRestarted c n w s).notices = (if (raw < 0 ∨ 1023 < raw) ∧ s.get Fld.trLevelClipped = 0
      then raise .levelClipped s else s).notices := by
  obtain ⟨-, -, -, habandoned, -⟩ := restartAbandon_frame (s := s)
  obtain ⟨-, -, -, -, hnext, -⟩ := restartNext_frame (a := s.sweep.acq) (s := channelChanged c n w (restartAbandon s))
  have hsource : (restartAbandon s).source = c := (congrArg Int.toNat (get_restartAbandon_trigger rfl)).trans hs
  have hch (m : Nat) := get_channelRestarted_channel (g := ⟨.channel, c, m⟩) (c := c) (n := n) (w := w) (s := s) rfl
  have hchanged : channelRaw c n w (restartAbandon s) = raw := by
    rw [hraw, channelRaw, get_restartAbandon_trigger rfl, hch, hch]
  obtain ⟨hcode, hclipped, hraised⟩ := channelChanged_level (tableKept_restartAbandon ht) hsource (n := n) (w := w) (by
    rw [← hch, get_restartAbandon_channel rfl, or_assoc, or_assoc]
    exact hm)
  rw [hchanged] at hcode hclipped hraised
  rw [get_restartAbandon_trigger rfl] at hraised
  exact ⟨(get_channelRestarted (g := Fld.trLevelCode) nofun).trans hcode,
    (get_channelRestarted (g := Fld.trLevelClipped) nofun).trans hclipped,
    hnext.trans (hraised.trans (raisedIf_notices habandoned))⟩

/-- Any other channel's write leaves the level. -/
theorem channelRestarted_level_kept (h : ¬ (s.source = c ∧ (n = 2 ∨ n = 3 ∨ n = 4
      ∨ (channelRestarted c n w s).get (Fld.chOffsetUv c) ≠ s.get (Fld.chOffsetUv c)))) :
    (channelRestarted c n w s).get Fld.trLevelCode = s.get Fld.trLevelCode
    ∧ (channelRestarted c n w s).get Fld.trLevelClipped = s.get Fld.trLevelClipped
    ∧ (channelRestarted c n w s).notices = s.notices := by
  obtain ⟨-, -, -, habandoned, -⟩ := restartAbandon_frame (s := s)
  obtain ⟨-, -, -, -, hnext, -⟩ := restartNext_frame (a := s.sweep.acq) (s := channelChanged c n w (restartAbandon s))
  have hsource : (restartAbandon s).source = s.source := congrArg Int.toNat (get_restartAbandon_trigger rfl)
  obtain ⟨hcode, hclipped, hkept⟩ := channelChanged_level_kept (c := c) (n := n) (w := w) (b := restartAbandon s) (by
    rw [hsource, ← get_channelRestarted_channel rfl, get_restartAbandon_channel rfl, or_assoc, or_assoc]
    exact h)
  exact ⟨(get_channelRestarted (g := Fld.trLevelCode) nofun).trans (hcode.trans (get_restartAbandon_trigger rfl)),
    (get_channelRestarted (g := Fld.trLevelClipped) nofun).trans (hclipped.trans (get_restartAbandon_trigger rfl)),
    hnext.trans (hkept.trans habandoned)⟩

/-- The comparator is disarmed where the code moved (R70). -/
theorem channelRestarted_trig : (channelRestarted c n w s).trig =
    if (channelRestarted c n w s).get Fld.trLevelCode = s.get Fld.trLevelCode then s.trig
      else { s.trig with armedRise := false, armedFall := false } := by
  obtain ⟨-, htrig, -⟩ := restartAbandon_frame (s := s)
  obtain ⟨-, -, hnext, -⟩ := restartNext_frame (a := s.sweep.acq) (s := channelChanged c n w (restartAbandon s))
  have hchanged := channelChanged_trig (c := c) (n := n) (w := w) (b := restartAbandon s)
  rw [get_restartAbandon_trigger rfl, htrig, ← get_channelRestarted (g := Fld.trLevelCode) nofun] at hchanged
  exact hnext.trans hchanged

/-- The statistics of the live measurements are cleared (R109). -/
theorem channelRestarted_cleared (ht : s.tableKept = true) (hm : s.isLive .measurement m = true) (hf : f ∈ clearedFields m) :
    (channelRestarted c n w s).get f = 0 := by
  obtain ⟨hk, -, -, -⟩ := clearedFields_place hf
  have hlive : (restartAbandon s).isLive .measurement m = true :=
    (writes_recordsKept writes_restartAbandon .measurement m).1.trans hm
  exact (get_channelRestarted fun h => by rw [h] at hk; cases hk).trans
    (get_channelChanged_cleared (tableKept_restartAbandon ht) hlive hf)

/-- The running pass is excluded, the channel's shown bank is cleared, and the rest stays (R61, R97). -/
theorem channelRestarted_frame :
    (channelRestarted c n w s).meas.pass = s.meas.pass.map (fun p => { p with exclude := true })
    ∧ (channelRestarted c n w s).meas.stamps = s.meas.stamps ∧ (channelRestarted c n w s).shownBank c = none
    ∧ (∀ ch, ch ≠ c → (channelRestarted c n w s).shownBank ch = s.shownBank ch)
    ∧ (channelRestarted c n w s).shell = s.shell := by
  obtain ⟨-, -, hmeas₁, -, hshell₁, hshown₁⟩ := restartAbandon_frame (s := s)
  obtain ⟨-, -, hpass₂, hstamps₂, hshell₂, hcleared, hshown₂⟩ :=
    channelChanged_frame (c := c) (n := n) (w := w) (b := restartAbandon s)
  obtain ⟨-, -, -, hmeas₃, -, hshell₃, hshown₃⟩ :=
    restartNext_frame (a := s.sweep.acq) (s := channelChanged c n w (restartAbandon s))
  refine ⟨(congrArg Meas.pass hmeas₃).trans (hpass₂.trans ?_), (congrArg Meas.stamps hmeas₃).trans (hstamps₂.trans ?_),
    (hshown₃ c).trans hcleared, fun ch hne => (hshown₃ ch).trans ((hshown₂ ch hne).trans (hshown₁ ch)),
    hshell₃.trans (hshell₂.trans hshell₁)⟩
  · rw [hmeas₁]
  · rw [hmeas₁]

end Sys2Proof.Machine

/-! ## The statement -/

open Sys2Proof Sys2Proof.Machine

/-- Settles O20: MODE by the cleared state its capture starts from; a channel's field by the records, the owners and the next
state, each read off the change in the abandoned state. -/
theorem restartWriteStartsAnew : Obligations.RestartWriteStartsAnew := by
  refine ⟨fun s v hs ht _ hq hg hp hv hcap hset _ => ?_, fun s c n v w hs ht hc hq hg hp hv => ?_⟩
  · obtain ⟨hmode, hdepth⟩ := get_modeRestarted (w := v.toNat) ht
    obtain ⟨hsweep, hcomb⟩ := captureStart_modeRestarted (w := v.toNat) ht
    obtain ⟨-, hnotices, hshell, hshown⟩ := modeRestarted_frame (s := s) (w := v.toNat)
    have hwrites := (modeRestarted_writes (s := s) (w := v.toNat)).of_store captureStart_store
    have hget (g : FieldId) (hstate : g ≠ Fld.tbState) :
        (captureStart (modeRestarted v.toNat s)).get g = (modeRestarted v.toNat s).get g :=
      get_of_store captureStart_store hstate
    have hraised : (captureStart (modeRestarted v.toNat s)).notices = s.notices := by
      rw [captureStart_eq, ← hnotices]
    have hbanks (ch : Nat) (hch : ch < 4) : (captureStart (modeRestarted v.toNat s)).shownBank ch = none :=
      (shownBank_captureStart ch).trans (hshown ch hch)
    have hexec := exec_write_mode hs ht hq hg hp hv hcap hset
    have hkept := shell_captureStart.trans hshell
    have hmode' := (hget Fld.tbMode nofun).trans hmode
    have hdepth' := (hget Fld.tbAvgDepth nofun).trans hdepth
    generalize captureStart (modeRestarted v.toNat s) = t at hexec hsweep hcomb hwrites hraised hbanks hkept hmode' hdepth'
    exact ⟨_, hexec, hmode', hdepth', hsweep, hcomb, (writes_queue (t := t) hwrites).trans hq, ⟨rfl, rfl⟩,
      fun g hk hm hd hstate => writes_get (t := t) hwrites (by simp [hk, hm, hd]) hstate, writes_recordsKept (t := t) hwrites,
      restKept_answer hkept, hraised, hbanks⟩
  · obtain ⟨hn, -⟩ := channelWrite_checked (c := c) hq hv
    have hexec := exec_write_channel hs ht hc hq hg hp hv
    obtain ⟨hfield, hoffset, hscale, hdepth⟩ := channelRestarted_records (w := w) hn hc ht
    have hsame := channelRestarted_path_same (c := c) (n := n) (w := w) (s := s)
    have hchanged (G : FeSettings) := channelRestarted_path_changed (c := c) (n := n) (w := w) (s := s) (G := G) hc
    obtain ⟨hstays, hgoes⟩ := restartNext_sweep (channelChanged_sweep (c := c) (n := n) (w := w) (s := s)) rfl rfl rfl
      fun g hk hd hstate => (get_channelRestarted hstate).symm.trans (get_channelRestarted_other (by rintro rfl; cases hk)
        (by rintro rfl; cases hk) (by rintro rfl; cases hk) hd hstate (by rintro rfl; cases hk) (by rintro rfl; cases hk)
        fun hm => by rw [hk] at hm; cases hm)
    have hlevel (hs : s.source = c) (hm) := channelRestarted_level (w := w) (n := n) ht hs hm rfl
    have hkept := channelRestarted_level_kept (c := c) (n := n) (w := w) (s := s)
    have htrig := channelRestarted_trig (c := c) (n := n) (w := w) (s := s)
    have hcleared (m : Nat) (f : FieldId) := channelRestarted_cleared (c := c) (n := n) (w := w) (m := m) (f := f) ht
    have hother (g : FieldId) := get_channelRestarted_other (c := c) (n := n) (w := w) (s := s) (g := g)
    obtain ⟨hpass, hstamps, hnone, hshown, hshell⟩ := channelRestarted_frame (c := c) (n := n) (w := w) (s := s)
    have hwrites := writes_channelRestarted (c := c) (n := n) (w := w) (s := s)
    change (_ → (channelRestarted c n w s).sweep = _) at hstays
    change _ → _ → (_ → (channelRestarted c n w s).sweep = _) ∧ (_ → (channelRestarted c n w s).comb.cap = _
      ∧ (_ → (channelRestarted c n w s).sweep = _) ∧ (_ → (channelRestarted c n w s).sweep = _)) at hgoes
    generalize channelRestarted c n w s = t at *
    refine ⟨_, t.feSettings c, settleTime s t c, longer s.sweep.settle (settleTime s t c),
      levelCodeRaw (s.get Fld.trLevelUv) (t.get (Fld.chScaleUv c)) (t.get (Fld.chOffsetUv c)), s.settledSweep (settleTime s t c),
      hexec, ⟨rfl, rfl⟩, hfield, hoffset, hscale, hdepth, rfl, hsame, hchanged, settleTime_eq s t c, fun h => by rw [h]; rfl,
      fun a h => by rw [h]; exact longer_some a _, rfl, hstays, hgoes, rfl, hlevel, fun hk => hkept ?_, htrig, fun m hm => ?_,
      hother, hpass, hstamps, hnone, hshown, (writes_queue (t := t) hwrites).trans hq, writes_groups (t := t) hwrites,
      writes_recordsKept (t := t) hwrites, restKept_answer hshell⟩
    · rintro ⟨hs, hm⟩
      obtain hne | ⟨hnum, heq⟩ := hk
      · exact hne hs
      · obtain hm | hm | hm | hm := hm
        · omega
        · omega
        · omega
        · exact hm heq
    · have hzero (j : Nat) (hj : ⟨.measurement, m, j⟩ ∈ clearedFields m) : t.get ⟨.measurement, m, j⟩ = 0 :=
        hcleared m _ hm hj
      exact ⟨hzero 10 (by simp [clearedFields]), hzero 11 (by simp [clearedFields]), hzero 12 (by simp [clearedFields]),
        hzero 13 (by simp [clearedFields]), hzero 15 (by simp [clearedFields])⟩
end
